-- ==== Sys2Proof/Word.lean ====
section
/-! DEFINITION. The plain number and set types of the TP16: the bit fields of a message, the angle counts, the
device's time, station numbers and sets, and reading or changing one element of a fixed-size table. -/

namespace Sys2Proof

/-- One byte of a chain message (section 1.2). -/
abbrev Byte := BitVec 8

/-- A 16-bit word: a message argument, a table word, a check value. -/
abbrev Word := BitVec 16

/-- The device's time: a 32-bit count of milliseconds that wraps (section 4.3, R186). -/
abbrev Time := BitVec 32

/-- A fixture angle in index counts, 65536 per revolution (section 4.2). -/
abbrev Angle := BitVec 16

/-- A pallet's tag number 1..4095; 0 means no pallet where a message carries it (section 4.4). -/
abbrev Tag := BitVec 12

/-- A node address on the chain: 0..62, and 63 for all nodes (section 4.4). -/
abbrev Node := BitVec 6

/-- A station number 0..15 (section 4.4). -/
abbrev Stn := Fin 16

/-- A set of stations as the 16-bit mask of section 4.5. -/
abbrev StnSet := BitVec 16

/-- A clamp pattern: a set of clamp circuits 1..4, weight 1 for circuit 1 (section 4.5, R73). -/
abbrev Pattern := BitVec 4

/-- A slot of the pallet table (R24). -/
abbrev Slot := Fin 48

/-- The number of an entry of the motion request table (R116). -/
abbrev EntryNo := Fin 24

/-- The number of a fault kind (R157). -/
abbrev FaultKind := Fin 20

/-- The number of a configured interlock entry (R138). -/
abbrev IlkNo := Fin 32

/-- The number of a line monitor counter (R172). -/
abbrev CounterNo := Fin 8

/-- "Clamped into a range" (section 4.6). -/
def clampNat (lo hi n : Nat) : Nat := if n < lo then lo else if hi < n then hi else n

/-- The smallest integer not less than a / b (section 4.1). -/
def ceilDiv (a b : Nat) : Nat := (a + b - 1) / b

/-- One element of a fixed-size table, changed by `f`. -/
def upd {α : Type} {n : Nat} (v : Vector α n) (i : Fin n) (f : α → α) : Vector α n :=
  v.set i.val (f (v.get i)) i.isLt

/-- All station numbers, ascending. -/
def allStn : List Stn := List.finRange 16

/-- Station `i` belongs to the set. -/
def StnSet.has (v : StnSet) (i : Stn) : Bool := v.getLsbD i.val

/-- The stations of a set, ascending. -/
def StnSet.members (v : StnSet) : List Stn := allStn.filter (fun i => v.getLsbD i.val)

/-- The set of the stations with a property. -/
def StnSet.where (p : Stn → Bool) : StnSet :=
  allStn.foldr (fun i v => if p i then v ||| (1#16 <<< i.val) else v) 0#16

/-- The set of one station. -/
def StnSet.one (i : Stn) : StnSet := 1#16 <<< i.val

end Sys2Proof
end

