-- ==== Sys2Proof/Syntax.lean ====
section
/-! DEFINITION. The commands of the TP16: one constructor of `Instr` for each row of spec/opcode_table.json, with the
operands the row's event carries (the received message, the port, the zone, the station, the entry), and the chain
message as its named fields (section 1.2). -/

namespace Sys2Proof

/-- A chain message of 12 bytes (section 1.2), every bit kept: the ignored bits and the CRC field too, since a
forwarded message leaves exactly as received (R3). -/
structure Msg where
  /-- Byte 0, bits 7..6. -/
  prio : BitVec 2
  /-- Byte 0, bits 5..0. -/
  dst : Node
  /-- Byte 1, bits 7..6, ignored on receipt. -/
  ign1 : BitVec 2
  /-- Byte 1, bits 5..0. -/
  src : Node
  /-- Byte 2. -/
  kind : Byte
  /-- Byte 3. -/
  station : Byte
  /-- Bytes 4 and 5, bits 15..12, ignored on receipt. -/
  ign2 : BitVec 4
  /-- Bytes 4 and 5, bits 11..0. -/
  pallet : Tag
  argA : Word
  argB : Word
  /-- Bytes 10 and 11. -/
  crc : Word
deriving DecidableEq, Repr

/-- The two chain ports (section 1.2 of the introduction): A faces the controller, B the stations. -/
inductive Port where
  | a
  | b
deriving DecidableEq, Repr

/-- The two zones, named 0 for A and 1 for B (R147). -/
inductive Zone where
  | a
  | b
deriving DecidableEq, Repr

/-- The commands: one constructor per row of spec/opcode_table.json. A row that takes a message from the DIQ has no
operand: its message is the DIQ's next message (R5). A row that receives a message carries it. A row that starts a
transmission carries the neighbour's ready as the transmitter samples it (R1). -/
inductive Instr where
  | powerOnReset (straps : Node) (rawA rawB : Bool)
  | pinReset (straps : Node)
  | linkUp (p : Port)
  | linkDown (p : Port)
  | trapInputChange (z : Zone)
  | trapFilterAssert (z : Zone)
  | trapFilterRelease (z : Zone)
  | timeTick
  | integrityScan
  | transitExpiry (slot : Slot)
  | settleExpiry (st : Stn)
  | entryDeadlineExpiry (e : EntryNo)
  | deferExpiry (e : EntryNo)
  | escalation (k : FaultKind)
  | downlaneReceive (m : Msg)
  | messageDiscarded (p : Port)
  | hold
  | resume
  | clamp
  | cycle
  | release
  | jog
  | refer
  | move
  | stop
  | abort
  | statusReq
  | downlaneForward
  | tblRead
  | tblWrite
  | wideHighWordWrite
  | recipeWrite
  | stationConfigWrite
  | windLimitToleranceWrite
  | zoneWrite
  | approachCapacityWrite
  | designationWrite
  | controllerNodeWrite
  | eventSummaryWrite
  | maskWrite
  | filterWrite
  | exitModeWrite
  | interlockWrite
  | reactionWrite
  | counterConfigWrite
  | palletRecordWrite
  | index
  | cancel
  | mode
  | forget
  | find
  | commit
  | discard
  | freeze
  | trapSet
  | trapAck
  | faultAck
  | clearCounts
  | recover
  | snapshot
  | clearCounters
  | setTime
  | reset
  | tagReport (m : Msg)
  | atReport (m : Msg)
  | clampedReport (m : Msg)
  | toolReport (m : Msg)
  | cycleEndReport (m : Msg)
  | goneReport (m : Msg)
  | nodeFaultReport (m : Msg)
  | uplaneForward (m : Msg)
  | portATransmit (ready : Bool)
  | portBHold (ready : Bool)
  | portBResume (ready : Bool)
  | stopAbortTransmit (ready : Bool)
  | deqTransmit (ready : Bool)
  | owedStatusReqEnqueue
  | sendingEntryEnqueue
  | keptRefusalDelivery
  | ingressPlaceClaim (p : Port)
  | transmissionEnd (p : Port)
  | resetInputLow
  | unknownActionCode
deriving DecidableEq, Repr

end Sys2Proof
end

