-- ==== Sys2Proof/Decode.lean ====
section
/-! DEFINITION. Words to commands. spec/opcode_table.json gives no row any bits (every row's "fields" is empty and no row
has a "fixed" pattern): the commands are events of the block, so no word spells one. -/

namespace Sys2Proof

/-- The command that a word spells by the table's bits: none, since the table gives no row bits. -/
def decodeTableWord (_nbits _w : Nat) : Option Instr := none

end Sys2Proof
end

