-- ==== Sys2Proof/Config.lean ====
section
/-! DEFINITION. What the device fixes: queue capacities (R1), the admission places of the NQ (R23), the defaults of a
station's configuration (R65), of the fault reaction table (R158) and of the trap filters (R148), and the length of the
longest chain of effects the model follows inside one event. No value of the manual is left open in a way that needs a
free value here (see NOTES.md). -/

namespace Sys2Proof.Config

/-- R1: the capacities of the five queues. -/
def diqCap : Nat := 16
def uiqCap : Nat := 32
def deqCap : Nat := 16
def ugqCap : Nat := 4
def nqCap : Nat := 16

/-- R23: a NOTICE is admitted when at least this many places are free. -/
def noticePlaces : Nat := 4

/-- R28: no approach list holds more tags than this. -/
def approachMax : Nat := 8

/-- R142: the deferred list holds at most this many items. -/
def deferMax : Nat := 8

/-- R186: the millisecond prescaler counts this many periods of the clock input. -/
def msPeriods : Nat := 25000

/-- R167: the scan runs every 250 ms, in periods of the clock input. -/
def scanPeriods : Nat := 250 * 25000

/-- R108: a distance above this may be a step back, the allowance being 256 counts. -/
def backStep : Int := 65280

/-- R111: the duration of a controller CYCLE that names no operation of the pallet's recipe, in ms. -/
def longestCycle : Nat := 3600000

/-- R65 defaults of a station's configuration. -/
def tolDefault : Nat := 32
def rateDefault : Nat := 64
def accelDefault : Nat := 200
def windLimitDefault : Nat := 131072
def marginDefault : Nat := 25
def settleDefault : Nat := 50
def clampLimitDefault : Nat := 1500
def releaseLimitDefault : Nat := 8000
def stopLimitDefault : Nat := 2000
def transitLimitDefault : Nat := 60000
def capacityDefault : Nat := 2

/-- R27: offset_max after power-on and pin reset. -/
def offsetMaxDefault : Nat := 512

/-- R148 defaults of a zone's filters, in ms. -/
def assertFilterDefault : Nat := 3
def releaseFilterDefault : Nat := 50

/-- R138: the defer limit of an interlock entry after power-on and pin reset, in ms. -/
def deferLimitDefault : Nat := 1000

/-- How many steps of effects one event may take. One event frees at most 24 entries, serves at most 16 waiting
stations and 16 DIQ messages and judges at most 8 deferred items, each a bounded number of steps; the bound stands far
above that (log entry 3). -/
def cascadeBound : Nat := 100000

end Sys2Proof.Config
end

