-- ==== Sys2Proof/Machine/Types.lean ====
section
/-! DEFINITION. The data types of the TP16's blocks (section 2.1 of the introduction): for each block the record of what
it holds, field by field as the manual's tables name it. Plain data throughout. -/

namespace Sys2Proof.Machine

/-! ### Station table, STB (chapter 4) -/

/-- Station modes (R74). -/
inductive Mode where
  | auto
  | manual
  | out
deriving DecidableEq, Repr

/-- Tool state (R72). -/
inductive Tool where
  | retracted
  | advanced
  | unknown
deriving DecidableEq, Repr

/-- The pallet standing at a station (R25): none, a tracked tag or an unmanaged tag, which may be 0 (R34). -/
inductive Occupant where
  | nobody
  | tracked (t : Tag)
  | unmanaged (t : Tag)
deriving DecidableEq, Repr

/-- Hold causes of a station (R77). -/
structure HoldCauses where
  operator : Bool
  trap : Bool
  fault : Bool
deriving DecidableEq, Repr

/-- Configuration part of a station record (R65). -/
structure StationCfg where
  node : Node
  zone : Zone
  stops : Vector Angle 8
  zero : Angle
  tol : Nat
  rate : Nat
  accel : Nat
  windLimit : Nat
  margin : Nat
  settle : Nat
  clampLimit : Nat
  releaseLimit : Nat
  stopLimit : Nat
  transitLimit : Nat
  capacity : Nat
deriving DecidableEq, Repr

/-- A station record: the configuration and the live part (section 4.1). A clamp pattern that is UNKNOWN is `none`. The
stop-cause set holds fault kinds at their numbers. -/
structure Station where
  cfg : StationCfg
  mode : Mode
  pendingMode : Option Mode
  c : Angle
  w : Int
  referenced : Bool
  tool : Tool
  commanded : Option Pattern
  sensed : Option Pattern
  occupant : Occupant
  holds : HoldCauses
  stopCauses : BitVec 20
deriving DecidableEq, Repr

/-- The station table with the designation of the load and rework stations (R64). -/
structure Stb where
  stn : Vector Station 16
  load : Stn
  rework : Option Stn
deriving DecidableEq, Repr

/-! ### Index dispatcher, IDX (chapter 5) -/

/-- Process states (section 5.1). -/
inductive PState where
  | empty
  | arrived
  | clamping
  | moving
  | settling
  | machining
  | homing
  | unclamping
  | routing
  | releasing
  | stalled
  | blocked
deriving DecidableEq, Repr

/-- Settle successor (R87). -/
inductive Succ where
  | operation
  | unclamp
deriving DecidableEq, Repr

/-- What a process waits for (R82). -/
inductive Wait where
  | nothing
  | route
  | entry
  | mode
deriving DecidableEq, Repr

/-- The point at which a command became due (R85), to which the process returns when an entry is granted, a pending mode
is withdrawn or an entry in flight leaves. -/
inductive DuePoint where
  | operation
  | homing
  | unclamp
  | routing
deriving DecidableEq, Repr

/-- Where a station that waits ENTRY stands in the arbiter's order, beyond its waiting-since and its number (R119; log entry 46).
`rank` rises where a station is put behind every waiter already in the order; `behindDiq` is the arrival time of the DIQ's message
that was such a waiter. -/
structure Place where
  rank : Nat
  behindDiq : Option Time
deriving DecidableEq, Repr

/-- The place that a waiting-since and a number alone give. -/
def plainPlace : Place := { rank := 0, behindDiq := none }

/-- A station's process context (R82). `settleTaken`, `due`, `replan` and `place` are the model's own: they hold what R87, R85,
R97 and R119 leave for a later event (a settle end that has passed and was taken; the point at which a command became due; a
re-plan that waits for an entry to leave; the place of a waiter in the arbiter's order). -/
structure Process where
  pstate : PState
  pallet : Option Tag
  stepEnded : Bool
  settleEnd : Option Time
  settleSucc : Option Succ
  settleTaken : Bool
  wait : Wait
  waitingSince : Option Time
  due : Option DuePoint
  replan : Bool
  place : Place
deriving DecidableEq, Repr

structure Idx where
  procs : Vector Process 16
deriving DecidableEq, Repr

/-! ### Pallet table, PTB (chapter 2) -/

/-- Quality marks (R25). -/
structure Quality where
  offsetLimited : Bool
  rejected : Bool
  aborted : Bool
  misrouted : Bool
deriving DecidableEq, Repr

/-- A record's state with the fields present in it (R25). -/
inductive RState where
  | transit (dest : Stn) (deadline : Time)
  | present (loc : Stn)
  | lost (dest : Option Stn)
deriving DecidableEq, Repr

/-- A pallet record (R25). -/
structure Record where
  tag : Tag
  variant : Fin 8
  generation : Nat
  offset : Int
  rstate : RState
  routeCursor : Nat
  opCursor : Nat
  quality : Quality
  lastSeen : Time
deriving DecidableEq, Repr

/-- The pending admission (R41): tag, variant and raw offset of the TAG that found the table full. -/
structure Admission where
  tag : Tag
  variant : Fin 8
  raw : Int
deriving DecidableEq, Repr

structure Ptb where
  slots : Vector (Option Record) 48
  approach : Vector (List Tag) 16
  pendingAdm : Option Admission
  offsetMax : Nat
deriving DecidableEq, Repr

/-! ### Recipe store, RCS (chapter 3) -/

/-- One operation of a route step (R48); the cycle limit is in units of 100 ms. -/
structure Operation where
  stop : Fin 8
  pattern : Pattern
  program : Nat
  limit : Nat
deriving DecidableEq, Repr

structure RouteStep where
  group : StnSet
  count : Nat
  ops : Vector Operation 8
deriving DecidableEq, Repr

/-- A variant's recipe (R47): the route length and the 12 stored steps. -/
structure Recipe where
  len : Nat
  steps : Vector RouteStep 12
deriving DecidableEq, Repr

/-- Bank states (section 3.2). -/
inductive BankState where
  | empty
  | staged
  | active
  | retiring
deriving DecidableEq, Repr

/-- A recipe bank (R49). -/
structure Bank where
  bstate : BankState
  generation : Option Nat
  recipes : Vector Recipe 8
deriving DecidableEq, Repr

structure Rcs where
  banks : Vector Bank 2
  staging : Fin 2
  genCounter : Nat
deriving DecidableEq, Repr

/-! ### Motion request table, MRT (chapter 7) -/

/-- A MOVE plan (R106). A satisfied plan has no timeout. -/
structure Plan where
  rev : Bool
  dist : Nat
  start : Angle
  timeout : Option Nat
deriving DecidableEq, Repr

/-- Command kinds (R116). -/
inductive CmdKind where
  | move
  | clamp
  | cycle
  | release
deriving DecidableEq, Repr

/-- The parameters of an entry (R116). A dispatch-origin CYCLE carries its operation's cycle limit (R86, R111); a
controller-origin one carries none, its duration is looked up at its transmission (R111). -/
inductive Params where
  | move (stop : Fin 8) (target : Angle) (plan : Option Plan)
  | clamp (p : Pattern)
  | cycle (program op : Word) (limit : Option Nat)
  | release (dest : Word)
deriving DecidableEq, Repr

inductive Origin where
  | dispatch
  | controller
deriving DecidableEq, Repr

/-- Entry states (section 7.1). -/
inductive EState where
  | pending
  | ready
  | deferred
  | sending
  | issued
  | cancelling
deriving DecidableEq, Repr

/-- An entry of the motion request table (R116). `released` is the model's own: the tracked tag that a transmitted RELEASE
made TRANSIT, which R32 asks for. -/
structure Entry where
  station : Stn
  params : Params
  origin : Origin
  pallet : Tag
  received : Option Msg
  estate : EState
  cancelReq : Bool
  acceptance : Time
  deadline : Option Time
  remaining : Option Nat
  released : Option Tag
deriving DecidableEq, Repr

/-- `kept` is the list of undelivered refusals (R132). -/
structure Mrt where
  entries : Vector (Option Entry) 24
  kept : List Msg
deriving DecidableEq, Repr

/-! ### Chain interface, CHI (chapter 1) -/

/-- One port: its link, a claimed ingress place (R1), and the message being sent on it. -/
structure PortState where
  up : Bool
  claimed : Bool
  tx : Option Msg
deriving DecidableEq, Repr

/-- A message of the DIQ with the time of its arrival (R2). -/
structure DiqItem where
  msg : Msg
  arrival : Time
deriving DecidableEq, Repr

/-- A message of the DEQ with the MRT entry it belongs to, if any (R14, R17). -/
structure DeqItem where
  msg : Msg
  entry : Option EntryNo
deriving DecidableEq, Repr

/-- A STOP or ABORT of the UGQ with the entry it cancels (R14, R128). -/
structure UgqItem where
  msg : Msg
  entry : EntryNo
deriving DecidableEq, Repr

/-- The source the port A transmitter served last (R15). -/
inductive Served where
  | uiq
  | nq
deriving DecidableEq, Repr

/-- The chain interface: ports, the five queues, the sent state of the hold image, the owed STATUS_REQs, the HOLD that a
soft reset places first (R22) and the after-loss mark (R23). Queues are oldest first. -/
structure Chi where
  a : PortState
  b : PortState
  diq : List DiqItem
  uiq : List Msg
  deq : List DeqItem
  ugq : List UgqItem
  nq : List Msg
  lastServed : Served
  sent : StnSet
  owed : StnSet
  softHold : Bool
  afterLoss : Bool
deriving DecidableEq, Repr

/-! ### Interlock checker, ILK (chapter 8) -/

/-- Conditions of an interlock entry (R138, R140). -/
inductive Condition where
  | objectEmpty
  | toolsRetracted
  | notMoving
  | notMachining
  | atStop (k : Fin 8)
  | inMode (m : Mode)
deriving DecidableEq, Repr

/-- The commands set of an interlock entry (R138). -/
structure CmdSet where
  move : Bool
  clampClose : Bool
  clampOpen : Bool
  cycle : Bool
  release : Bool
deriving DecidableEq, Repr

/-- A configured interlock entry (R138). The object SAME is `none`; `defer` is the action DEFER. -/
structure IlkEntry where
  valid : Bool
  subjects : StnSet
  cmds : CmdSet
  object : Option Stn
  cond : Condition
  defer : Bool
  deferLimit : Nat
deriving DecidableEq, Repr

/-- An item of the deferred list (R142). -/
structure DeferItem where
  entry : EntryNo
  deadline : Time
  deferring : IlkNo
deriving DecidableEq, Repr

structure Ilk where
  table : Vector IlkEntry 32
  deferred : List DeferItem
  frozen : Bool
deriving DecidableEq, Repr

/-! ### Trap unit, TRP (chapter 9) -/

/-- The cause set of a zone (R147). -/
structure ZoneCauses where
  pin : Bool
  fault : Bool
  command : Bool
  reset : Bool
deriving DecidableEq, Repr

/-- A zone (R147 to R149). The zone state is TRAPPED exactly while the cause set is not empty, so it is not stored
again. `filtered` is the level ACTIVE; `raw` is the input pin, high for true; `changedAt` is when it last changed. -/
structure ZoneState where
  causes : ZoneCauses
  filtered : Bool
  raw : Bool
  changedAt : Time
  assertFilter : Nat
  releaseFilter : Nat
  exitAuto : Bool
deriving DecidableEq, Repr

structure Trp where
  a : ZoneState
  b : ZoneState
deriving DecidableEq, Repr

/-! ### Fault collection unit, FCU (chapter 10) -/

/-- Reaction levels in ascending order (R158). -/
inductive Level where
  | report
  | stationStop
  | zoneTrap
  | lineTrap
  | restrict
deriving DecidableEq, Repr

/-- The trapped zones of a fault record (R160). -/
structure ZoneSet where
  a : Bool
  b : Bool
deriving DecidableEq, Repr

/-- A fault record (R160); `pending` is the state PENDING. -/
structure FaultRec where
  pending : Bool
  count : Nat
  firstStn : Option Stn
  firstPallet : Tag
  lastStn : Option Stn
  lastPallet : Tag
  level : Level
  zones : ZoneSet
  expiry : Option Time
deriving DecidableEq, Repr

/-- A row of the fault reaction table (R158); escalation time 0 means never. -/
structure Reaction where
  level : Level
  escalation : Nat
deriving DecidableEq, Repr

/-- The check values 0 to 4 (R166); 0 and 1 exist only while a bank is in the state named. -/
structure Checks where
  active : Option Word
  retiring : Option Word
  interlock : Word
  geometry : Word
  reaction : Word
deriving DecidableEq, Repr

/-- The fault collection unit. `scanClock` is the scan's own prescaler, in periods of the clock input (R167). -/
structure Fcu where
  records : Vector FaultRec 20
  reaction : Vector Reaction 20
  checks : Checks
  mismatch : BitVec 5
  restricted : Bool
  scanClock : Nat
deriving DecidableEq, Repr

/-! ### Line monitor, LMN (chapter 11) -/

/-- Event sources (R173). -/
inductive EvSource where
  | msgSeenDown
  | msgSeenUp
  | refused
  | deferred
  | mrtInsert
  | mrtDone
  | mrtFail
  | arrival
  | routeWaitStart
  | noticeLost
deriving DecidableEq, Repr

/-- Occupancy sources (R174). -/
inductive OccSource where
  | mrt
  | diq
  | approach
  | ptb
  | diqStalled
  | stationHeld
deriving DecidableEq, Repr

inductive Source where
  | off
  | event (e : EvSource)
  | occ (o : OccSource)
deriving DecidableEq, Repr

/-- A counter (R172). A filter that is ANY is `none`. -/
structure Counter where
  source : Source
  stnFilter : Option Stn
  kindFilter : Option Byte
  threshold : Nat
  invert : Bool
  edge : Bool
  count : BitVec 32
  mark : Bool
  prev : Bool
  snapCount : BitVec 32
  snapMark : Bool
deriving DecidableEq, Repr

structure Lmn where
  counters : Vector Counter 8
  snapTime : Time
deriving DecidableEq, Repr

/-! ### Management agent, MGA (chapter 12) -/

/-- Reset causes (R185). -/
inductive ResetCause where
  | power
  | pin
  | soft
deriving DecidableEq, Repr

/-- The management agent: the device's node address from the straps, the controller node, the event summary and its two
masks at weight 2^class (R183), the reset cause, the time with its prescaler in clock periods (R186), the upper-half
latch (R181), and whether RESET_N is low (R185). -/
structure Mga where
  node : Node
  controller : Node
  summary : BitVec 9
  noticeMask : BitVec 9
  attnMask : BitVec 9
  cause : ResetCause
  time : Time
  prescaler : Nat
  latch : Word
  inReset : Bool
deriving DecidableEq, Repr

/-! ### What the model keeps within one event -/

/-- Marks the model sets and clears inside one event: a pass over the deferred list is due (R143); the DIQ's next message
waits for the entry just freed (R119); counters whose COUNTER_OVERFLOW notice is due (R176); stations whose own entry was
freed (R119). All are clear between events. -/
structure Within where
  passDue : Bool
  diqClaim : Bool
  monitorDue : List CounterNo
  freed : StnSet
deriving DecidableEq, Repr

/-! ### Answer statuses and event codes (chapter 12) -/

/-- Statuses of an ANSWER and reasons of a REFUSED (R182). -/
inductive Status where
  | done
  | accepted
  | badAddr
  | badArg
  | access
  | notAllowed
  | wrongMode
  | busy
  | trapped
  | restricted
  | frozen
  | bankInUse
  | badRecipe
  | notReferenced
  | stillActive
  | faultsPending
  | inputActive
  | notCancellable
  | nothing
  | hardInterlock
  | interlock
  | deferFull
  | deferTimeout
  | heldByTrap
  | heldByFault
deriving DecidableEq, Repr

/-- Event classes of the summary (R183). -/
inductive EvClass where
  | fault
  | pallet
  | station
  | command
  | trap
  | recipe
  | monitor
  | link
  | start
deriving DecidableEq, Repr

/-- Events that a NOTICE reports (R184). -/
inductive Event where
  | fault
  | escalated
  | recovered
  | overtake
  | palletIncomplete
  | goneUnexpected
  | stalled
  | modeChanged
  | modeRefused
  | command
  | trapEnter
  | trapExit
  | committed
  | bankRetired
  | counterOverflow
  | linkDown
  | linkUp
  | start
deriving DecidableEq, Repr

/-- Results of a cycle (R125). -/
inductive CycleResult where
  | ok
  | reject
  | aborted
deriving DecidableEq, Repr

/-- How an MRT entry ends (R123 to R132). `done` carries a CYCLE's result and the CANCEL_LATE mark; a refusal and an
expired deferral carry the reason's detail. -/
inductive Ending where
  | done (r : Option CycleResult) (late : Bool)
  | cancelled
  | positionError
  | timeout
  | interlockLate
  | refused (reason : Status) (detail : Nat)
  | deferTimeout (detail : Nat)
deriving DecidableEq, Repr

end Sys2Proof.Machine
end

