-- ==== Sys2Proof/Machine/Wire.lean ====
section
/-! DEFINITION. The wire form of a message: its kind codes, its 12 bytes, the CRC of section 1.2 and a message the
device originates (R3). Also the bit-serial CRC over table words that the check values use (R166). -/

namespace Sys2Proof

/-! ### Message kind codes (section 1.2) -/

abbrev kMove : Byte := 0x10
abbrev kClamp : Byte := 0x11
abbrev kCycle : Byte := 0x12
abbrev kRelease : Byte := 0x13
abbrev kHold : Byte := 0x14
abbrev kResume : Byte := 0x15
abbrev kStop : Byte := 0x16
abbrev kAbort : Byte := 0x17
abbrev kRefer : Byte := 0x18
abbrev kJog : Byte := 0x19
abbrev kStatusReq : Byte := 0x1A
abbrev kTag : Byte := 0x30
abbrev kAt : Byte := 0x31
abbrev kClamped : Byte := 0x32
abbrev kTool : Byte := 0x33
abbrev kCycleEnd : Byte := 0x34
abbrev kGone : Byte := 0x35
abbrev kNodeFault : Byte := 0x36
abbrev kTblRead : Byte := 0x50
abbrev kTblWrite : Byte := 0x51
abbrev kAction : Byte := 0x52
abbrev kAnswer : Byte := 0x60
abbrev kNotice : Byte := 0x61
abbrev kRefused : Byte := 0x62

/-- The report kinds, which the device applies (R11). -/
def isReportKind (k : Byte) : Bool :=
  k == kTag || k == kAt || k == kClamped || k == kTool || k == kCycleEnd || k == kGone || k == kNodeFault

/-- The CRC register after one bit: polynomial x^16 + x^12 + x^5 + 1, the most significant bit leaving first. -/
def crcBit (c : Nat) (b : Bool) : Nat :=
  if c.testBit 15 != b then ((2 * c) % 65536) ^^^ 0x1021 else (2 * c) % 65536

/-- The register after the low `n` bits of `w`, most significant first. The match makes the kernel compute the
register at each bit; it changes no value. -/
def crcBits : Nat → Nat → Nat → Nat
  | 0, _, c => c
  | n + 1, w, c =>
    match crcBit c (w.testBit n) with
    | 0 => crcBits n w 0
    | k + 1 => crcBits n w (k + 1)

/-- The register after 16-bit words, each high byte first. -/
def crcWords : List Nat → Nat → Nat
  | [], c => c
  | w :: ws, c =>
    match crcBits 16 w c with
    | 0 => crcWords ws 0
    | k + 1 => crcWords ws (k + 1)

/-- CRC-16 of a list of words: the register starts at all ones and is not inverted (section 1.2, R166). -/
def crc16 (ws : List Nat) : Word := BitVec.ofNat 16 (crcWords ws 0xFFFF)

/-- Bytes 0 to 9 of a message as five 16-bit words, the lower-numbered byte in the high half. -/
def Msg.bodyWords (m : Msg) : List Nat :=
  [(m.prio ++ m.dst ++ m.ign1 ++ m.src : BitVec 16).toNat,
   (m.kind ++ m.station : BitVec 16).toNat,
   (m.ign2 ++ m.pallet : BitVec 16).toNat,
   m.argA.toNat, m.argB.toNat]

/-- The 12 bytes as six words, two bytes a word with the lower-numbered byte in the high half (table 8). -/
def Msg.words (m : Msg) : List Nat := m.bodyWords ++ [m.crc.toNat]

/-- The CRC computed over bytes 0 to 9. -/
def Msg.crcOf (m : Msg) : Word := crc16 (m.bodyWords)

/-- R2: the CRC over bytes 0 to 9 equals bytes 10 and 11. That exactly 12 bytes arrived is in the type `Msg`. -/
def Msg.intact (m : Msg) : Bool := m.crcOf == m.crc

/-- The 12 bytes in the order they are sent: most significant byte of a field first (section 1.2). -/
def Msg.bytes (m : Msg) : List Byte :=
  m.words.flatMap (fun w => [BitVec.ofNat 8 (w / 256), BitVec.ofNat 8 (w % 256)])

/-- A message with these fields, the ignored bits 0 and the CRC computed (R3). -/
def mkMsg (prio : BitVec 2) (dst src : Node) (kind station : Byte) (pallet : Tag) (argA argB : Word) : Msg :=
  let m : Msg := { prio, dst, ign1 := 0, src, kind, station, ign2 := 0, pallet, argA, argB, crc := 0 }
  { m with crc := m.crcOf }

/-- R3: priority 1 is urgent; 2 and 3 are taken as 0. -/
def Msg.urgent (m : Msg) : Bool := m.prio == 1

/-- The station field as a station, where it is 0..15 (R3: any other value names no station). -/
def Msg.stn? (m : Msg) : Option Stn :=
  if h : m.station.toNat < 16 then some ⟨m.station.toNat, h⟩ else none

/-- A station as a message byte. -/
def stnByte (st : Stn) : Byte := BitVec.ofNat 8 st.val

/-- A station or none as a message byte: 255 means no station (section 4.4). -/
def stnByte? : Option Stn → Byte
  | some st => stnByte st
  | none => 255

end Sys2Proof
end

