-- ==== Sys2Proof/Machine/Codes.lean ====
section
/-! DEFINITION. The codes of chapter 12 (statuses, event classes, events, modes, states) and the words of the tables that
the FCU protects, as R180 and section 12.3 encode them, with the check values over those words (R166). -/

namespace Sys2Proof.Machine

/-- R182: status codes. -/
def statusCode : Status → Nat
  | .done => 0
  | .accepted => 1
  | .badAddr => 2
  | .badArg => 3
  | .access => 4
  | .notAllowed => 5
  | .wrongMode => 6
  | .busy => 7
  | .trapped => 8
  | .restricted => 9
  | .frozen => 10
  | .bankInUse => 11
  | .badRecipe => 12
  | .notReferenced => 13
  | .stillActive => 14
  | .faultsPending => 15
  | .inputActive => 16
  | .notCancellable => 17
  | .nothing => 18
  | .hardInterlock => 19
  | .interlock => 20
  | .deferFull => 21
  | .deferTimeout => 22
  | .heldByTrap => 23
  | .heldByFault => 24

/-- R183: class codes, at weight 2^code in the summary and the masks. -/
def classCode : EvClass → Nat
  | .fault => 0
  | .pallet => 1
  | .station => 2
  | .command => 3
  | .trap => 4
  | .recipe => 5
  | .monitor => 6
  | .link => 7
  | .start => 8

/-- The mask of one class. -/
def classBit (c : EvClass) : BitVec 9 := 1#9 <<< classCode c

/-- R184: event codes. -/
def eventCode : Event → Nat
  | .fault => 1
  | .escalated => 2
  | .recovered => 3
  | .overtake => 4
  | .palletIncomplete => 5
  | .goneUnexpected => 6
  | .stalled => 7
  | .modeChanged => 8
  | .modeRefused => 9
  | .command => 10
  | .trapEnter => 11
  | .trapExit => 12
  | .committed => 13
  | .bankRetired => 14
  | .counterOverflow => 15
  | .linkDown => 16
  | .linkUp => 17
  | .start => 18

/-- R184: the class of each event. -/
def eventClass : Event → EvClass
  | .fault => .fault
  | .escalated => .fault
  | .recovered => .pallet
  | .overtake => .pallet
  | .palletIncomplete => .pallet
  | .goneUnexpected => .pallet
  | .stalled => .station
  | .modeChanged => .station
  | .modeRefused => .station
  | .command => .command
  | .trapEnter => .trap
  | .trapExit => .trap
  | .committed => .recipe
  | .bankRetired => .recipe
  | .counterOverflow => .monitor
  | .linkDown => .link
  | .linkUp => .link
  | .start => .start

/-- R75: mode codes. -/
def modeCode : Mode → Nat
  | .auto => 0
  | .manual => 1
  | .out => 2

def modeOf? : Nat → Option Mode
  | 0 => some .auto
  | 1 => some .manual
  | 2 => some .out
  | _ => none

/-- Section 5.1: process state codes. -/
def pstateCode : PState → Nat
  | .empty => 0
  | .arrived => 1
  | .clamping => 2
  | .moving => 3
  | .settling => 4
  | .machining => 5
  | .homing => 6
  | .unclamping => 7
  | .routing => 8
  | .releasing => 9
  | .stalled => 10
  | .blocked => 11

def toolCode : Tool → Nat
  | .retracted => 0
  | .advanced => 1
  | .unknown => 2

def waitCode : Wait → Nat
  | .nothing => 0
  | .route => 1
  | .entry => 2
  | .mode => 3

def succCode : Succ → Nat
  | .operation => 0
  | .unclamp => 1

def bankCode : BankState → Nat
  | .empty => 0
  | .staged => 1
  | .active => 2
  | .retiring => 3

def estateCode : EState → Nat
  | .pending => 1
  | .ready => 2
  | .deferred => 3
  | .sending => 4
  | .issued => 5
  | .cancelling => 6

def causeCode : ResetCause → Nat
  | .power => 0
  | .pin => 1
  | .soft => 2

def originCode : Origin → Nat
  | .dispatch => 0
  | .controller => 1

/-- R158: level codes, ascending. -/
def levelCode : Level → Nat
  | .report => 0
  | .stationStop => 1
  | .zoneTrap => 2
  | .lineTrap => 3
  | .restrict => 4

def levelOf? : Nat → Option Level
  | 0 => some .report
  | 1 => some .stationStop
  | 2 => some .zoneTrap
  | 3 => some .lineTrap
  | 4 => some .restrict
  | _ => none

/-- R163: one step up. -/
def levelUp : Level → Level
  | .report => .stationStop
  | .stationStop => .zoneTrap
  | .zoneTrap => .lineTrap
  | .lineTrap => .restrict
  | .restrict => .restrict

def zoneNo : Zone → Nat
  | .a => 0
  | .b => 1

def zoneOf? : Nat → Option Zone
  | 0 => some .a
  | 1 => some .b
  | _ => none

/-- The message kind code of a command (R173). -/
def cmdCode : CmdKind → Byte
  | .move => kMove
  | .clamp => kClamp
  | .cycle => kCycle
  | .release => kRelease

/-- R131: the kind bits of a COMMAND detail. -/
def cmdNo : CmdKind → Nat
  | .move => 0
  | .clamp => 1
  | .cycle => 2
  | .release => 3

/-- The kind of an entry's command. -/
def paramsKind : Params → CmdKind
  | .move _ _ _ => .move
  | .clamp _ => .clamp
  | .cycle _ _ _ => .cycle
  | .release _ => .release

/-- A flag as a number. -/
def bitN (b : Bool) : Nat := if b then 1 else 0

/-- R147: a cause set as a 4-bit value. -/
def causeBits (c : ZoneCauses) : Nat := bitN c.pin + 2 * bitN c.fault + 4 * bitN c.command + 8 * bitN c.reset

/-- Section 12.3: quality marks. -/
def qualityBits (q : Quality) : Nat :=
  bitN q.offsetLimited + 2 * bitN q.rejected + 4 * bitN q.aborted + 8 * bitN q.misrouted

def holdBits (h : HoldCauses) : Nat := bitN h.operator + 2 * bitN h.trap + 4 * bitN h.fault

/-- R173 and R174: source codes. -/
def sourceCode : Source → Nat
  | .off => 0
  | .event .msgSeenDown => 1
  | .event .msgSeenUp => 2
  | .event .refused => 3
  | .event .deferred => 4
  | .event .mrtInsert => 5
  | .event .mrtDone => 6
  | .event .mrtFail => 7
  | .event .arrival => 8
  | .event .routeWaitStart => 9
  | .event .noticeLost => 10
  | .occ .mrt => 16
  | .occ .diq => 17
  | .occ .approach => 18
  | .occ .ptb => 19
  | .occ .diqStalled => 20
  | .occ .stationHeld => 21

def sourceOf? : Nat → Option Source
  | 0 => some .off
  | 1 => some (.event .msgSeenDown)
  | 2 => some (.event .msgSeenUp)
  | 3 => some (.event .refused)
  | 4 => some (.event .deferred)
  | 5 => some (.event .mrtInsert)
  | 6 => some (.event .mrtDone)
  | 7 => some (.event .mrtFail)
  | 8 => some (.event .arrival)
  | 9 => some (.event .routeWaitStart)
  | 10 => some (.event .noticeLost)
  | 16 => some (.occ .mrt)
  | 17 => some (.occ .diq)
  | 18 => some (.occ .approach)
  | 19 => some (.occ .ptb)
  | 20 => some (.occ .diqStalled)
  | 21 => some (.occ .stationHeld)
  | _ => none

/-! ### Wide fields (R181) -/

def hiWord (n : Nat) : Nat := n / 65536 % 65536
def loWord (n : Nat) : Nat := n % 65536

/-- A field absent in the current state reads 0xFFFF in every one of its words (R180). -/
def absentWord : Nat := 0xFFFF

def timeHi : Option Time → Nat
  | some t => hiWord t.toNat
  | none => absentWord

def timeLo : Option Time → Nat
  | some t => loWord t.toNat
  | none => absentWord

/-! ### Words of the protected tables -/

/-- Tables 2 and 3: the word of a route step, words 0..25 (R50, section 12.3). -/
def stepWord (st : RouteStep) (w : Nat) : Option Nat :=
  if w = 0 then some st.group.toNat
  else if w = 1 then some st.count
  else if h : (w - 2) / 3 < 8 then
    let op := st.ops.get ⟨(w - 2) / 3, h⟩
    match (w - 2) % 3 with
    | 0 => some (op.pattern.toNat + 256 * op.stop.val)
    | 1 => some op.program
    | _ => some op.limit
  else none

/-- Tables 2 and 3: the word of a bank at entry variant × 16 + step (R50): steps 0..11, and 15 for the header. -/
def bankWord (rs : Vector Recipe 8) (entry w : Nat) : Option Nat :=
  if hv : entry / 16 < 8 then
    let r := rs.get ⟨entry / 16, hv⟩
    if hs : entry % 16 < 12 then stepWord (r.steps.get ⟨entry % 16, hs⟩) w
    else if entry % 16 = 15 ∧ w = 0 then some r.len
    else none
  else none

/-- The covered words of a bank in ascending address order (R166). -/
def bankWords (rs : Vector Recipe 8) : List Nat :=
  (List.range 128).flatMap (fun e => (List.range 26).filterMap (fun w => bankWord rs e w))

/-- Table 4: condition code with stop or mode in bits 10..8. -/
def condWord : Condition → Nat
  | .objectEmpty => 0
  | .toolsRetracted => 1
  | .notMoving => 2
  | .notMachining => 3
  | .atStop k => 4 + 256 * k.val
  | .inMode m => 5 + 256 * modeCode m

def cmdSetBits (c : CmdSet) : Nat :=
  bitN c.move + 2 * bitN c.clampClose + 4 * bitN c.clampOpen + 8 * bitN c.cycle + 16 * bitN c.release

/-- Table 4: the word of an interlock entry, words 0..7. -/
def ilkWord (e : IlkEntry) : Nat → Option Nat
  | 0 => some (bitN e.valid)
  | 1 => some e.subjects.toNat
  | 2 => some (cmdSetBits e.cmds)
  | 3 => some (match e.object with
    | some st => st.val
    | none => 16)
  | 4 => some (condWord e.cond)
  | 5 => some (bitN e.defer)
  | 6 => some (hiWord e.deferLimit)
  | 7 => some (loWord e.deferLimit)
  | _ => none

def ilkWords (t : Vector IlkEntry 32) : List Nat :=
  t.toList.flatMap (fun e => (List.range 8).filterMap (ilkWord e))

/-- Table 1, entries 0..15: the word of a station's configuration. -/
def cfgWord (c : StationCfg) (w : Nat) : Option Nat :=
  match w with
  | 0 => some c.node.toNat
  | 1 => some (zoneNo c.zone)
  | 10 => some c.zero.toNat
  | 11 => some c.tol
  | 12 => some c.rate
  | 13 => some c.accel
  | 14 => some (hiWord c.windLimit)
  | 15 => some (loWord c.windLimit)
  | 16 => some c.margin
  | 17 => some c.settle
  | 18 => some c.clampLimit
  | 19 => some c.releaseLimit
  | 20 => some (hiWord c.transitLimit)
  | 21 => some (loWord c.transitLimit)
  | 22 => some c.capacity
  | 23 => some c.stopLimit
  | n => if h : n - 2 < 8 then some (c.stops.get ⟨n - 2, h⟩).toNat else none

/-- R166, check value 3: stop angles, zero offset, position tolerance and wind limit, in address order. -/
def geometryWords (stn : Vector Station 16) : List Nat :=
  stn.toList.flatMap (fun s => [2, 3, 4, 5, 6, 7, 8, 9, 10, 11, 14, 15].filterMap (cfgWord s.cfg))

/-- R166, check value 4: level and escalation time of every kind, in address order. -/
def reactionWords (t : Vector Reaction 20) : List Nat :=
  t.toList.flatMap (fun r => [levelCode r.level, hiWord r.escalation, loWord r.escalation])

/-- R166: the check values computed from table contents. -/
def bankCheck (rs : Vector Recipe 8) : Word := crc16 (bankWords rs)
def interlockCheck (t : Vector IlkEntry 32) : Word := crc16 (ilkWords t)
def geometryCheck (stn : Vector Station 16) : Word := crc16 (geometryWords stn)
def reactionCheck (t : Vector Reaction 20) : Word := crc16 (reactionWords t)

end Sys2Proof.Machine
end

