-- ==== Sys2Proof/Machine/ResetValues.lean ====
section
/-! DEFINITION. The power-on and pin reset values of each block (R21, R27, R46, R62, R80, R82, R133, R138, R146, R155,
R160, R170, R179, R183, R185). -/

namespace Sys2Proof.Machine

/-- R65: the default configuration of a station; its node address is the station number plus 2. -/
def defaultCfg (st : Stn) : StationCfg :=
  { node := BitVec.ofNat 6 (st.val + 2), zone := .a, stops := Vector.replicate 8 0, zero := 0,
    tol := Config.tolDefault, rate := Config.rateDefault, accel := Config.accelDefault,
    windLimit := Config.windLimitDefault, margin := Config.marginDefault, settle := Config.settleDefault,
    clampLimit := Config.clampLimitDefault, releaseLimit := Config.releaseLimitDefault,
    stopLimit := Config.stopLimitDefault, transitLimit := Config.transitLimitDefault,
    capacity := Config.capacityDefault }

/-- R80 with R155: a station after power-on and pin reset; both zones are TRAPPED, so its hold causes are {TRAP}. -/
def resetStation (st : Stn) : Station :=
  { cfg := defaultCfg st, mode := .out, pendingMode := none, c := 0, w := 0, referenced := false,
    tool := .unknown, commanded := none, sensed := none, occupant := .nobody,
    holds := { operator := false, trap := true, fault := false }, stopCauses := 0 }

/-- R64, R80: load station 0, no rework station. -/
def resetStb : Stb := { stn := Vector.ofFn resetStation, load := 0, rework := none }

/-- R82: a process context after any reset. -/
def resetProcess : Process :=
  { pstate := .empty, pallet := none, stepEnded := false, settleEnd := none, settleSucc := none,
    settleTaken := false, wait := .nothing, waitingSince := none, due := none, replan := false, place := plainPlace }

def resetIdx : Idx := { procs := Vector.replicate 16 resetProcess }

/-- R46, R27. -/
def resetPtb : Ptb :=
  { slots := Vector.replicate 48 none, approach := Vector.replicate 16 [], pendingAdm := none,
    offsetMax := Config.offsetMaxDefault }

/-- R51: cleared contents. -/
def clearedOperation : Operation := { stop := 0, pattern := 0, program := 0, limit := 1 }
def clearedStep : RouteStep := { group := 0, count := 0, ops := Vector.replicate 8 clearedOperation }
def clearedRecipe : Recipe := { len := 0, steps := Vector.replicate 12 clearedStep }
def clearedRecipes : Vector Recipe 8 := Vector.replicate 8 clearedRecipe
def emptyBank : Bank := { bstate := .empty, generation := none, recipes := clearedRecipes }

/-- R62. -/
def resetRcs : Rcs := { banks := Vector.replicate 2 emptyBank, staging := 0, genCounter := 0 }

/-- R133: 24 free entries and no undelivered refusal. -/
def resetMrt : Mrt := { entries := Vector.replicate 24 none, kept := [] }

/-- R138: an interlock entry after power-on and pin reset. -/
def resetIlkEntry : IlkEntry :=
  { valid := false, subjects := 0,
    cmds := { move := false, clampClose := false, clampOpen := false, cycle := false, release := false },
    object := none, cond := .objectEmpty, defer := false, deferLimit := Config.deferLimitDefault }

def resetIlk : Ilk := { table := Vector.replicate 32 resetIlkEntry, deferred := [], frozen := false }

/-- R155: a zone after power-on and pin reset, its input at level `raw`. -/
def resetZone (raw : Bool) : ZoneState :=
  { causes := { pin := true, fault := false, command := false, reset := true }, filtered := true, raw := raw,
    changedAt := 0, assertFilter := Config.assertFilterDefault, releaseFilter := Config.releaseFilterDefault,
    exitAuto := false }

/-- R158: the default reaction level of each fault kind. -/
def defaultLevel (k : FaultKind) : Level :=
  match k.val with
  | 5 => .zoneTrap
  | 6 => .zoneTrap
  | 7 => .report
  | 8 => .report
  | 11 => .report
  | 14 => .report
  | 15 => .lineTrap
  | 16 => .report
  | 18 => .report
  | 19 => .restrict
  | _ => .stationStop

def defaultReaction : Vector Reaction 20 := Vector.ofFn (fun k => { level := defaultLevel k, escalation := 0 })

/-- R160: a fault record after any reset; the applied level is the configured level. -/
def resetFaultRec (r : Reaction) : FaultRec :=
  { pending := false, count := 0, firstStn := none, firstPallet := 0, lastStn := none, lastPallet := 0,
    level := r.level, zones := { a := false, b := false }, expiry := none }

/-- R170. -/
def resetFcu : Fcu :=
  { records := Vector.ofFn (fun k => resetFaultRec (defaultReaction.get k)), reaction := defaultReaction,
    checks := { active := none, retiring := none, interlock := interlockCheck resetIlk.table,
                geometry := geometryCheck resetStb.stn, reaction := reactionCheck defaultReaction },
    mismatch := 0, restricted := false, scanClock := 0 }

/-- R179. -/
def resetCounter : Counter :=
  { source := .off, stnFilter := none, kindFilter := none, threshold := 0, invert := false, edge := false, count := 0,
    mark := false, prev := false, snapCount := 0, snapMark := false }

def resetLmn : Lmn := { counters := Vector.replicate 8 resetCounter, snapTime := 0 }

/-- R185: the node address read from the straps; 63 is taken as 62. -/
def strapNode (straps : Node) : Node := if straps = 63 then 62 else straps

/-- R183, R185, R186: the management agent after power-on and pin reset: the START flag set, the notice mask full, the
attention mask FAULT, TRAP and START. -/
def resetMga (cause : ResetCause) (straps : Node) : Mga :=
  { node := strapNode straps, controller := 0, summary := classBit .start, noticeMask := 0x1FF,
    attnMask := classBit .fault ||| classBit .trap ||| classBit .start, cause := cause, time := 0, prescaler := 0,
    latch := 0, inReset := false }

/-- R184: a NOTICE at time `now`, its detail byte as given. -/
def mkNotice (node controller : Node) (now : Time) (ev : Event) (station : Byte) (pallet : Tag) (detail : Nat) : Msg :=
  mkMsg 0 controller node kNotice station pallet (BitVec.ofNat 16 (256 * eventCode ev + detail % 256))
    (BitVec.ofNat 16 now.toNat)

/-- R1, R4, R21, R185: both links DOWN, every queue empty but for NOTICE START, the first NOTICE after the reset. -/
def resetChi (cause : ResetCause) (straps : Node) : Chi :=
  { a := { up := false, claimed := false, tx := none }, b := { up := false, claimed := false, tx := none },
    diq := [], uiq := [], deq := [], ugq := [],
    nq := [mkNotice (strapNode straps) 0 0 .start 255 0 (causeCode cause)],
    lastServed := .nq, sent := 0, owed := 0, softHold := false, afterLoss := false }

/-- The model's marks between events. -/
def clearWithin : Within := { passDue := false, diqClaim := false, monitorDue := [], freed := 0 }

end Sys2Proof.Machine
end

