-- ==== Sys2Proof/Machine/State.lean ====
section
/-! DEFINITION. The state of the TP16: one record for each block, the model's marks within an event, and the queue of
commands that wait; the reasons a command can stop; and the state after power-on reset. -/

namespace Sys2Proof.Machine

/-- The machine. Each block's record holds what the manual gives the block (section 2.1). -/
structure State where
  chi : Chi
  ptb : Ptb
  rcs : Rcs
  stb : Stb
  idx : Idx
  mrt : Mrt
  ilk : Ilk
  trp : Trp
  fcu : Fcu
  lmn : Lmn
  mga : Mga
  /-- The model's own marks, clear between events. -/
  ev : Within
  /-- The commands that wait, first in first out. -/
  pending : List Instr
deriving DecidableEq, Repr

/-- Why the device stops. -/
inductive Fault where
  /-- Raised by `conclude` when one event's chain of effects takes more than `Config.cascadeBound` steps. Safe: the
  model stops where the device goes on. No state known reaches it (log entry 3). -/
  | cascadeUnfinished
deriving DecidableEq, Repr

/-- Why a command has no meaning. -/
inductive Refusal where
  /-- Raised by an arm of `exec` whose command has no meaning yet. Safe. No arm raises it. -/
  | notModelled (mnemonic : String)
deriving DecidableEq, Repr

/-- R185: the state at the release of a power-on or pin reset, with the levels of the trap inputs at that moment. -/
def State.atReset (cause : ResetCause) (straps : Node) (rawA rawB : Bool) (queue : List Instr) : State :=
  { chi := resetChi cause straps, ptb := resetPtb, rcs := resetRcs, stb := resetStb, idx := resetIdx, mrt := resetMrt,
    ilk := resetIlk, trp := { a := resetZone rawA, b := resetZone rawB }, fcu := resetFcu, lmn := resetLmn,
    mga := resetMga cause straps, ev := clearWithin, pending := queue }

/-- The machine right after power-on reset with nothing connected: the straps are pulled up and read 63, which is taken
as 62, and the trap inputs are pulled down and read low (section 12.7; log entry 2). -/
def State.reset : State := State.atReset .power 63 false false []

end Sys2Proof.Machine
end

