-- ==== Sys2Proof/Machine/Operands.lean ====
section
/-! DEFINITION. Reading the operands of a message: the table address of a management request (R180), the set of stations a
HOLD or RESUME names (R78), the signed offset and variant of a TAG (R27), a clamp pattern (R73, R117). -/

namespace Sys2Proof.Machine

/-- R180: the table in bits 15..12 of argA. -/
def addrTable (m : Msg) : Nat := m.argA.toNat / 4096

/-- R180: the entry in bits 11..5 of argA. -/
def addrEntry (m : Msg) : Nat := m.argA.toNat / 32 % 128

/-- R180: the word in bits 4..0 of argA. -/
def addrWord (m : Msg) : Nat := m.argA.toNat % 32

/-- R78: the stations of argA together with the station field's station. -/
def namedStations (m : Msg) : StnSet :=
  m.argA ||| (match m.stn? with
    | some st => StnSet.one st
    | none => 0)

/-- R6: how many stations a RESUME names. -/
def stationCount (v : StnSet) : Nat := v.members.length

/-- R27: the raw offset of a TAG, argA as a signed 16-bit value. -/
def rawOffset (m : Msg) : Int := m.argA.toInt

/-- R27: the variant of a TAG, the low 3 bits of argB. -/
def tagVariant (m : Msg) : Fin 8 := ⟨m.argB.toNat % 8, Nat.mod_lt _ (by decide)⟩

/-- R117, R73: the pattern in the low 4 bits of argA. -/
def argPattern (m : Msg) : Pattern := m.argA.setWidth 4

/-- R29: the destination of a RELEASE, its argA, where it is 0..15. -/
def destStn? (dest : Word) : Option Stn :=
  if h : dest.toNat < 16 then some ⟨dest.toNat, h⟩ else none

/-- R102: a stop 0..7. -/
def stop? (n : Nat) : Option (Fin 8) := if h : n < 8 then some ⟨n, h⟩ else none

/-- R125: the result of a CYCLE_END from argB. -/
def cycleResultOf (argB : Word) : CycleResult :=
  if argB = 0 then .ok else if argB = 1 then .reject else .aborted

/-- R72: the tool state from argA. -/
def toolOf (argA : Word) : Tool :=
  if argA = 0 then .retracted else if argA = 1 then .advanced else .unknown

end Sys2Proof.Machine
end

