-- ==== Sys2Proof/Machine/Ops.lean ====
section
/-! DEFINITION. Named operations over the state: comparing times (R186), reading and changing a station, a process, an
entry, a zone or a record, placing messages in the queues (R13, R14, R23), line monitor events (R173, R176), and the
event summary with its notices (R183, R184). -/

namespace Sys2Proof.Machine

/-! ### Time (R186) -/

/-- A deadline has passed when the deadline minus the time, read as a signed 32-bit number, is 0 or less. -/
def passed (deadline now : Time) : Bool := decide ((deadline - now).toInt ≤ 0)

/-- `a` is earlier than `b`, on their difference. -/
def earlier (a b : Time) : Bool := decide ((a - b).toInt < 0)

/-- A time `ms` after `t`. -/
def after (t : Time) (ms : Nat) : Time := t + BitVec.ofNat 32 ms

/-- "Now" (section 4.3). -/
def State.now (s : State) : Time := s.mga.time

/-! ### Reading and changing one element -/

def State.station (s : State) (st : Stn) : Station := s.stb.stn.get st
def State.proc (s : State) (st : Stn) : Process := s.idx.procs.get st
def State.entry? (s : State) (e : EntryNo) : Option Entry := s.mrt.entries.get e
def State.faultRec (s : State) (k : FaultKind) : FaultRec := s.fcu.records.get k

def State.zone (s : State) : Zone → ZoneState
  | .a => s.trp.a
  | .b => s.trp.b

def State.port (s : State) : Port → PortState
  | .a => s.chi.a
  | .b => s.chi.b

def State.modStn (s : State) (st : Stn) (f : Station → Station) : State :=
  { s with stb := { s.stb with stn := upd s.stb.stn st f } }

def State.modProc (s : State) (st : Stn) (f : Process → Process) : State :=
  { s with idx := { procs := upd s.idx.procs st f } }

def State.setEntry (s : State) (e : EntryNo) (v : Option Entry) : State :=
  { s with mrt := { s.mrt with entries := upd s.mrt.entries e (fun _ => v) } }

/-- Change an entry in use; a free entry stays free. -/
def State.modEntry (s : State) (e : EntryNo) (f : Entry → Entry) : State :=
  { s with mrt := { s.mrt with entries := upd s.mrt.entries e (Option.map f) } }

def State.setSlot (s : State) (i : Slot) (r : Option Record) : State :=
  { s with ptb := { s.ptb with slots := upd s.ptb.slots i (fun _ => r) } }

def State.modSlot (s : State) (i : Slot) (f : Record → Record) : State :=
  { s with ptb := { s.ptb with slots := upd s.ptb.slots i (Option.map f) } }

def State.modApproach (s : State) (st : Stn) (f : List Tag → List Tag) : State :=
  { s with ptb := { s.ptb with approach := upd s.ptb.approach st f } }

def State.modFaultRec (s : State) (k : FaultKind) (f : FaultRec → FaultRec) : State :=
  { s with fcu := { s.fcu with records := upd s.fcu.records k f } }

def State.setZone (s : State) (z : Zone) (v : ZoneState) : State :=
  match z with
  | .a => { s with trp := { s.trp with a := v } }
  | .b => { s with trp := { s.trp with b := v } }

def State.setPort (s : State) (p : Port) (v : PortState) : State :=
  match p with
  | .a => { s with chi := { s.chi with a := v } }
  | .b => { s with chi := { s.chi with b := v } }

def State.modChi (s : State) (f : Chi → Chi) : State := { s with chi := f s.chi }
def State.modMga (s : State) (f : Mga → Mga) : State := { s with mga := f s.mga }
def State.modEv (s : State) (f : Within → Within) : State := { s with ev := f s.ev }

/-! ### The line monitor's events (R173, R176) -/

/-- R176: a count plus `n`, wrapping at 2^32 with the overflow mark set. -/
def Counter.add (c : Counter) (n : Nat) : Counter :=
  if c.count.toNat + n < 4294967296 then { c with count := c.count + BitVec.ofNat 32 n }
  else { c with count := c.count + BitVec.ofNat 32 n, mark := true }

/-- R173: the event passes the counter's source and filters. -/
def Counter.sees (c : Counter) (src : EvSource) (st : Option Stn) (kind : Option Byte) : Bool :=
  c.source == .event src
    && (match c.stnFilter with
        | none => true
        | some f => st == some f)
    && (match c.kindFilter with
        | none => true
        | some f => kind == some f)

/-- Replace the counters; each whose overflow mark went from clear to set has its COUNTER_OVERFLOW due (R176). -/
def State.setCounters (s : State) (cs : Vector Counter 8) : State :=
  { s with
    lmn := { s.lmn with counters := cs }
    ev := { s.ev with
      monitorDue := s.ev.monitorDue
        ++ (List.finRange 8).filter (fun i => !(s.lmn.counters.get i).mark && (cs.get i).mark) } }

/-- R173: one line monitor event with its station and kind. -/
def lmnEvent (src : EvSource) (st : Option Stn) (kind : Option Byte) (s : State) : State :=
  s.setCounters (s.lmn.counters.map (fun c => if c.sees src st kind then c.add 1 else c))

/-! ### Queues toward port A (R23) -/

/-- Free NQ places. A kept refusal takes a freed place ahead of every NOTICE and of the DIQ's next message (R23, R132),
so each place a kept message waits for is not free for others. -/
def nqFree (s : State) : Nat := Config.nqCap - (s.chi.nq.length + s.mrt.kept.length)

/-- R23: an ANSWER or REFUSED enters the NQ when a place is free and is kept otherwise, behind those kept before it. -/
def postReply (m : Msg) (s : State) : State :=
  if s.chi.nq.length < Config.nqCap ∧ s.mrt.kept = [] then s.modChi (fun c => { c with nq := c.nq ++ [m] })
  else { s with mrt := { s.mrt with kept := s.mrt.kept ++ [m] } }

/-- R183, R184, R23: an event with its NOTICE. The summary flag is set in any case. A NOTICE of a class in the notice
mask is admitted with four places free beside those of the kept refusals, which take their places before it; it carries and
clears the after-loss mark. It is lost otherwise. -/
def notice (ev : Event) (station : Byte) (pallet : Tag) (detail : Nat) (s : State) : State :=
  let s := s.modMga (fun m => { m with summary := m.summary ||| classBit (eventClass ev) })
  if s.mga.noticeMask &&& classBit (eventClass ev) = 0 then s
  else if Config.noticePlaces ≤ nqFree s then
    let m := mkNotice s.mga.node s.mga.controller s.now ev station pallet (detail % 128 + 128 * bitN s.chi.afterLoss)
    { s.modChi (fun c => { c with nq := c.nq ++ s.mrt.kept ++ [m], afterLoss := false }) with
      mrt := { s.mrt with kept := [] } }
  else
    lmnEvent .noticeLost (if h : station.toNat < 16 then some ⟨station.toNat, h⟩ else none) none
      (s.modChi (fun c => { c with afterLoss := true }))

/-- R176 with R23: the due COUNTER_OVERFLOW notices, lowest counter first. A lost one can make another counter overflow;
each of the eight marks is set once at most, so nine rounds are enough. -/
def flushMonitor : Nat → State → State
  | 0, s => s
  | n + 1, s =>
    match (List.finRange 8).find? (fun i => s.ev.monitorDue.contains i) with
    | none => s
    | some i =>
      flushMonitor n
        (notice .counterOverflow 255 0 i.val
          (s.modEv (fun e => { e with monitorDue := e.monitorDue.filter (· != i) })))

/-- R182: an ANSWER to an ACTION: its station field, the action code, a status and argB. -/
def answerAction (m : Msg) (st : Status) (argB : Word) (s : State) : State :=
  postReply (mkMsg 0 m.src s.mga.node kAnswer m.station (m.argA.setWidth 12) (BitVec.ofNat 16 (statusCode st)) argB) s

/-- R182: an ANSWER to a table request: station 255, bits 15..5 of argA in the pallet field. -/
def answerTable (m : Msg) (st : Status) (argB : Word) (s : State) : State :=
  postReply (mkMsg 0 m.src s.mga.node kAnswer 255 (BitVec.ofNat 12 (m.argA.toNat / 32))
    (BitVec.ofNat 16 (statusCode st)) argB) s

/-- R13, R173: a REFUSED for a message taken from the DIQ, counted with the station field's station. The detail is 0 where the
rule that refuses names none (log entry 43). -/
def refuse (m : Msg) (reason : Status) (detail : Nat) (s : State) : State :=
  lmnEvent .refused m.stn? (some m.kind)
    (postReply (mkMsg 0 m.src s.mga.node kRefused m.station m.pallet (BitVec.ofNat 16 (statusCode reason))
      (m.kind ++ BitVec.ofNat 8 detail)) s)

/-- R79, R173: the REFUSED for one station still held after a RESUME; the detail is the station, and it is the station of
the monitor's event. -/
def refuseHeld (m : Msg) (reason : Status) (st : Stn) (s : State) : State :=
  lmnEvent .refused (some st) (some m.kind)
    (postReply (mkMsg 0 m.src s.mga.node kRefused m.station m.pallet (BitVec.ofNat 16 (statusCode reason))
      (m.kind ++ stnByte st)) s)

/-- R132, R173: the REFUSED for a controller-origin entry, to the configured controller node. -/
def refuseEntry (en : Entry) (reason : Status) (detail : Nat) (s : State) : State :=
  lmnEvent .refused (some en.station) (some (cmdCode (paramsKind en.params)))
    (postReply (mkMsg 0 s.mga.controller s.mga.node kRefused (stnByte en.station) en.pallet
      (BitVec.ofNat 16 (statusCode reason)) (cmdCode (paramsKind en.params) ++ BitVec.ofNat 8 detail)) s)

/-! ### Queues toward port B (R14) -/

/-- A message placed at the tail of the DEQ. -/
def pushDeq (m : Msg) (e : Option EntryNo) (s : State) : State :=
  s.modChi (fun c => { c with deq := c.deq ++ [{ msg := m, entry := e }] })

/-- R14: an entry's command leaves the DEQ from any position; the rest keep their order. -/
def dropDeq (e : EntryNo) (s : State) : State :=
  s.modChi (fun c => { c with deq := c.deq.filter (fun d => d.entry != some e) })

/-- R128: an entry's STOP or ABORT leaves the UGQ. -/
def dropUgq (e : EntryNo) (s : State) : State :=
  s.modChi (fun c => { c with ugq := c.ugq.filter (fun d => d.entry != e) })

/-- R142: an entry's item leaves the deferred list from any position. -/
def dropDeferred (e : EntryNo) (s : State) : State :=
  { s with ilk := { s.ilk with deferred := s.ilk.deferred.filter (fun d => d.entry != e) } }

end Sys2Proof.Machine
end

