-- ==== Sys2Proof/Machine/Flags.lean ====
section
/-! DEFINITION. What the device derives from its state: hold intent (R77), zone state (R147), the ready lines (R1), ATTN_N
(R183), machining stations (R64), who uses the MRT and the DEQ (R14, R91, R116, R119), the carrier counts (R58), the bank a
record follows (R60), the line monitor's samples (R174). -/

namespace Sys2Proof.Machine

/-! ### Stations and zones -/

/-- R77: the hold intent is held while the hold-cause set is not empty. -/
def HoldCauses.held (h : HoldCauses) : Bool := h.operator || h.trap || h.fault

def Station.held (st : Station) : Bool := st.holds.held

def State.held (s : State) (st : Stn) : Bool := (s.station st).held

/-- The set of stations whose intent is held. -/
def heldSet (s : State) : StnSet := StnSet.where (fun st => s.held st)

/-- R147: a zone is TRAPPED while its cause set is not empty. -/
def ZoneCauses.any (c : ZoneCauses) : Bool := c.pin || c.fault || c.command || c.reset

def ZoneState.trapped (z : ZoneState) : Bool := z.causes.any

/-- The station's zone is TRAPPED. -/
def stationTrapped (s : State) (st : Stn) : Bool := (s.zone (s.station st).cfg.zone).trapped

/-- R64: a station that is neither the load nor the rework station is a machining station. -/
def isMachining (s : State) (st : Stn) : Bool := st != s.stb.load && s.stb.rework != some st

/-- The tracked occupant of a station, PRESENT or departing. -/
def Occupant.tracked? : Occupant → Option Tag
  | .tracked t => some t
  | _ => none

def State.trackedOcc (s : State) (st : Stn) : Option Tag := (s.station st).occupant.tracked?

/-- The tracked occupant's tag, or 0. -/
def occPallet (s : State) (st : Stn) : Tag := (s.trackedOcc st).getD 0

/-! ### Pallet records and recipes -/

/-- The slot of the record that holds a tag (R24: no tag is held by two). -/
def slotOf (s : State) (t : Tag) : Option Slot :=
  (List.finRange 48).find? (fun i =>
    match s.ptb.slots.get i with
    | some r => r.tag == t
    | none => false)

def State.record? (s : State) (t : Tag) : Option Record := (slotOf s t).bind (fun i => s.ptb.slots.get i)

/-- R24: the lowest-numbered free slot. -/
def freeSlot (s : State) : Option Slot := (List.finRange 48).find? (fun i => (s.ptb.slots.get i).isNone)

/-- R24: the number of records held. -/
def recordCount (s : State) : Nat := (s.ptb.slots.toList.filter (·.isSome)).length

/-- The bank in a state, if there is one. -/
def bankIn (s : State) (b : BankState) : Option (Fin 2) :=
  (List.finRange 2).find? (fun i => (s.rcs.banks.get i).bstate == b)

def activeBank (s : State) : Option (Fin 2) := bankIn s .active
def retiringBank (s : State) : Option (Fin 2) := bankIn s .retiring

/-- The other bank. -/
def otherBank (i : Fin 2) : Fin 2 := if i = 0 then 1 else 0

/-- R49: the staging bank: the bank that is not ACTIVE, or the one the staging-bank number names. -/
def stagingBank (s : State) : Fin 2 :=
  match activeBank s with
  | some i => otherBank i
  | none => s.rcs.staging

/-- R58: the number of records whose generation equals the bank's generation. -/
def carrierCount (s : State) (b : Fin 2) : Nat :=
  match (s.rcs.banks.get b).generation with
  | some g => (s.ptb.slots.toList.filter (fun r =>
      match r with
      | some r => r.generation == g
      | none => false)).length
  | none => 0

/-- R60: the bank whose generation equals a record's. -/
def bankOf (s : State) (gen : Nat) : Option (Fin 2) :=
  (List.finRange 2).find? (fun i =>
    let b := s.rcs.banks.get i
    (b.bstate == .active || b.bstate == .retiring) && b.generation == some gen)

/-- R60: a record's recipe. -/
def recipeOf (s : State) (r : Record) : Option Recipe :=
  (bankOf s r.generation).map (fun b => (s.rcs.banks.get b).recipes.get r.variant)

/-- The route length of a record's recipe. -/
def routeLen (s : State) (r : Record) : Nat :=
  match recipeOf s r with
  | some rc => rc.len
  | none => 0

/-- R25: the route is incomplete while the route cursor is below the route length. -/
def incomplete (s : State) (r : Record) : Bool := decide (r.routeCursor < routeLen s r)

/-- A stored step of a recipe. -/
def Recipe.step? (rc : Recipe) (k : Nat) : Option RouteStep := if h : k < 12 then some (rc.steps.get ⟨k, h⟩) else none

/-- The current route step of a record whose route is incomplete. -/
def currentStep (s : State) (r : Record) : Option RouteStep :=
  match recipeOf s r with
  | some rc => if r.routeCursor < rc.len then rc.step? r.routeCursor else none
  | none => none

/-- The station is in the group of the record's current route step. -/
def inCurrentGroup (s : State) (r : Record) (st : Stn) : Bool :=
  match currentStep s r with
  | some step => step.group.has st
  | none => false

/-- A used operation of a step. -/
def RouteStep.op? (step : RouteStep) (j : Nat) : Option Operation :=
  if h : j < 8 then (if j < step.count then some (step.ops.get ⟨j, h⟩) else none) else none

def Quality.bad (q : Quality) : Bool := q.rejected || q.aborted

/-! ### The motion request table -/

def allEntries : List EntryNo := List.finRange 24

/-- R116: entries in use. -/
def usedCount (s : State) : Nat := (s.mrt.entries.toList.filter (·.isSome)).length

/-- R116: the lowest-numbered free entry. -/
def freeEntry (s : State) : Option EntryNo := allEntries.find? (fun e => (s.entry? e).isNone)

/-- The numbers of the entries with a property. -/
def entriesWhere (s : State) (p : Entry → Bool) : List EntryNo :=
  allEntries.filter (fun e =>
    match s.entry? e with
    | some en => p en
    | none => false)

/-- The station has an MRT entry, PENDING included (R74). -/
def hasEntry (s : State) (st : Stn) : Bool := !(entriesWhere s (fun en => en.station == st)).isEmpty

/-- R116: the station's active entry, the one past waiting for its turn. -/
def activeEntry (s : State) (st : Stn) : Option EntryNo :=
  (entriesWhere s (fun en => en.station == st && en.estate != .pending)).head?

/-- R116: the station's PENDING entry. -/
def pendingEntry (s : State) (st : Stn) : Option EntryNo :=
  (entriesWhere s (fun en => en.station == st && en.estate == .pending)).head?

/-- The station's entry of a command kind in ISSUED or CANCELLING. -/
def inFlight (s : State) (st : Stn) (k : CmdKind) : Option EntryNo :=
  (entriesWhere s (fun en => en.station == st && paramsKind en.params == k
    && (en.estate == .issued || en.estate == .cancelling))).head?

/-- R134: a command of a kind is under way: SENDING, ISSUED or CANCELLING. -/
def underWay (s : State) (st : Stn) (k : CmdKind) : Bool :=
  !(entriesWhere s (fun en => en.station == st && paramsKind en.params == k
    && (en.estate == .sending || en.estate == .issued || en.estate == .cancelling))).isEmpty

/-- R91: a RELEASE entry not yet transmitted that names the destination. -/
def reserves (dest : Stn) (en : Entry) : Bool :=
  match en.params with
  | .release d => destStn? d == some dest
      && (en.estate == .pending || en.estate == .ready || en.estate == .deferred || en.estate == .sending)
  | _ => false

/-- R91: a station's committed count. -/
def committed (s : State) (st : Stn) : Nat :=
  (s.ptb.approach.get st).length + (entriesWhere s (reserves st)).length

/-- R119: a station's process waits ENTRY. -/
def waitsEntry (s : State) (st : Stn) : Bool := (s.proc st).wait == .entry

/-- A waiting-since and a number before others: the oldest time first, and among equal times the lower number (R93, R119). -/
def olderWait (ta : Time) (a : Stn) (tb : Time) (b : Stn) : Bool :=
  earlier ta tb || (ta == tb && decide (a.val < b.val))

/-- `a` waits before `b` by their waiting-since and their numbers (R93). -/
def waitsLonger (s : State) (a b : Stn) : Bool :=
  olderWait ((s.proc a).waitingSince.getD 0) a ((s.proc b).waitingSince.getD 0) b

/-- `a` is before `b` in the arbiter's order (R119): by rank, which `joinPlace` raises for a station put behind every waiter
already in the order, and at one rank by waiting-since and number. -/
def waitsBefore (s : State) (a b : Stn) : Bool :=
  let na := (s.proc a).place.rank
  let nb := (s.proc b).place.rank
  decide (na < nb) || (na == nb && waitsLonger s a b)

/-- Insertion into a list ordered by `before`. -/
def insertBy {α : Type} (before : α → α → Bool) (x : α) : List α → List α
  | [] => [x]
  | y :: ys => if before y x then y :: insertBy before x ys else x :: y :: ys

/-- A list sorted by `before`; equal elements keep their order. -/
def sortBy {α : Type} (before : α → α → Bool) (xs : List α) : List α :=
  xs.foldl (fun acc x => insertBy (fun y x => !before x y) x acc) []

/-- R119: the stations that wait ENTRY, in order; none while the device is RESTRICTED (R85). -/
def entryWaiters (s : State) : List Stn :=
  if s.fcu.restricted then [] else sortBy (waitsBefore s) (allStn.filter (waitsEntry s))

/-- R93: the stations that wait ROUTE, in order. -/
def routeWaiters (s : State) : List Stn :=
  sortBy (waitsLonger s) (allStn.filter (fun st => (s.proc st).wait == .route))

/-! ### The DEQ and its producers (R14) -/

/-- The entry's command is in the DEQ. -/
def inDeq (s : State) (e : EntryNo) : Bool := s.chi.deq.any (fun d => d.entry == some e)

/-- R14: SENDING entries that wait for a DEQ place. -/
def sendingWaiters (s : State) : List EntryNo :=
  (entriesWhere s (fun en => en.estate == .sending)).filter (fun e => !inDeq s e)

/-- R14: `a` was accepted before `b`. -/
def acceptedBefore (s : State) (a b : EntryNo) : Bool :=
  match s.entry? a, s.entry? b with
  | some x, some y => earlier x.acceptance y.acceptance
  | _, _ => false

/-- The first SENDING entry to get a DEQ place: the oldest acceptance time first. -/
def firstSending (s : State) : Option EntryNo := (sortBy (acceptedBefore s) (sendingWaiters s)).head?

/-- Free DEQ places. -/
def deqRoom (s : State) : Nat := Config.deqCap - s.chi.deq.length

/-- DEQ places free for the DIQ's next message: none while a producer that comes before it waits, a SENDING entry or an owed
STATUS_REQ (R14). -/
def deqFreeForDiq (s : State) : Nat := if (sendingWaiters s).isEmpty && s.chi.owed == 0 then deqRoom s else 0

/-! ### Pins -/

/-- R1: the ready output toward port A. -/
def readyA (s : State) : Bool := !s.mga.inReset && decide (s.chi.diq.length < Config.diqCap)

/-- R1: the ready output toward port B. -/
def readyB (s : State) : Bool := !s.mga.inReset && decide (s.chi.uiq.length < Config.uiqCap)

def readyOut (s : State) : Port → Bool
  | .a => readyA s
  | .b => readyB s

/-- R183: ATTN_N is low while a set flag's class is in the attention mask; it is high in reset. The value is the pin's
level, high for true. -/
def attnN (s : State) : Bool := s.mga.inReset || s.mga.summary &&& s.mga.attnMask == 0

/-- R1: a transmitter can start a message: link UP, the neighbour's ready high as sampled, not already sending. -/
def canStart (s : State) (p : Port) (ready : Bool) : Bool :=
  !s.mga.inReset && (s.port p).up && ready && (s.port p).tx.isNone

/-! ### The hold image (R18) -/

/-- Stations whose intent is held and whose sent state is not. -/
def holdDue (s : State) : StnSet := heldSet s &&& ~~~s.chi.sent

/-- Stations whose intent is not held and whose sent state is. -/
def resumeDue (s : State) : StnSet := s.chi.sent &&& ~~~heldSet s

/-- R18, R22: a hold image update is due. -/
def imageDue (s : State) : Bool := s.chi.softHold || holdDue s != 0 || resumeDue s != 0

end Sys2Proof.Machine
end

