-- ==== Sys2Proof/Machine/Geometry.lean ====
section
/-! DEFINITION. Fixture geometry (chapter 6): targets (R103), distances and the at-target test (R104), direction (R105),
plans (R106), the wind arithmetic of completion (R108) and the MOVE timeout (R110). -/

namespace Sys2Proof.Machine

/-- R103: the target of stop `k` for a pallet offset: N + Z + O brought into 0..65535. -/
def targetOf (c : StationCfg) (k : Fin 8) (offset : Int) : Angle :=
  let sum : Int := (c.stops.get k).toNat + c.zero.toNat + offset
  let sum := if sum < 0 then sum + 65536 else sum
  let sum := if 65536 ≤ sum then sum - 65536 else sum
  let sum := if 65536 ≤ sum then sum - 65536 else sum
  BitVec.ofInt 16 sum

/-- R104: the forward distance from C to T. -/
def fwdDist (c t : Angle) : Nat := (t - c).toNat

/-- R104: the reverse distance from C to T. -/
def revDist (c t : Angle) : Nat := if fwdDist c t = 0 then 0 else 65536 - fwdDist c t

/-- R104, R69: the circular difference of two angles. -/
def circDiff (c t : Angle) : Nat := min (fwdDist c t) (revDist c t)

/-- R104: the at-target test. -/
def atTarget (tol : Nat) (c t : Angle) : Bool := decide (circDiff c t ≤ tol)

/-- R105: the chosen direction is reverse. -/
def chooseReverse (f rv : Nat) (w : Int) (limit tol : Nat) : Bool :=
  let fwdAllowed : Bool := decide (w + f + tol ≤ limit)
  let revAllowed : Bool := decide (-(limit : Int) ≤ w - rv - tol)
  if f ≤ rv then !fwdAllowed else revAllowed

/-- R110: the timeout of a MOVE over a distance. -/
def moveTimeout (c : StationCfg) (dist : Nat) : Nat :=
  let expected := c.accel + ceilDiv dist c.rate
  clampNat 20 30000 (ceilDiv (expected * (100 + c.margin)) 100)

/-- R105, R106: the plan of a MOVE from the station's C and W; satisfied when the fixture is at the target. -/
def planMove (st : Station) (target : Angle) : Plan :=
  if atTarget st.cfg.tol st.c target then { rev := false, dist := 0, start := st.c, timeout := none }
  else
    let f := fwdDist st.c target
    let rv := revDist st.c target
    let rev := chooseReverse f rv st.w st.cfg.windLimit st.cfg.tol
    let d := if rev then rv else f
    { rev := rev, dist := d, start := st.c, timeout := some (moveTimeout st.cfg d) }

/-- R106: the plan is marked satisfied. -/
def Plan.satisfied (p : Plan) : Bool := p.timeout.isNone

/-- R108: the signed distance turned since the plan's start angle, in the commanded direction, with the back-step reading. -/
def turned (p : Plan) (tol : Nat) (a : Angle) : Int :=
  let d : Int := (if p.rev then (p.start - a).toNat else (a - p.start).toNat : Nat)
  if Config.backStep < d ∧ (p.dist + tol : Int) < d then d - 65536 else d

/-- R108: W after a MOVE with plan `p` ends at angle `a`. -/
def windAfter (p : Plan) (tol : Nat) (a : Angle) (w : Int) : Int :=
  if p.rev then w - turned p tol a else w + turned p tol a

/-- R103: the offset of a tag's record. -/
def offsetOf (s : State) (t : Tag) : Int :=
  match s.record? t with
  | some r => r.offset
  | none => 0

/-- R103: the offset of a station's tracked occupant, PRESENT or departing; 0 without one. -/
def occOffset (s : State) (st : Stn) : Int :=
  match s.trackedOcc st with
  | some t => offsetOf s t
  | none => 0

/-- The target of a stop for the station's occupant. -/
def occTarget (s : State) (st : Stn) (k : Fin 8) : Angle := targetOf (s.station st).cfg k (occOffset s st)

/-- The fixture is at a target, with the station's tolerance. -/
def Station.isAt (st : Station) (t : Angle) : Bool := atTarget st.cfg.tol st.c t

/-- R134: at a stop. -/
def atAStop (s : State) (st : Stn) : Bool :=
  (s.station st).referenced && (List.finRange 8).any (fun k => (s.station st).isAt (occTarget s st k))

/-- R134: at the target of stop `k` (R140 asks for the referenced flag as well). -/
def atStop (s : State) (st : Stn) (k : Fin 8) : Bool := (s.station st).isAt (occTarget s st k)

/-- R107: argB of a MOVE: bit 15 the direction, bits 2..0 the stop number. -/
def moveArgB (stop : Fin 8) (p : Plan) : Word := BitVec.ofNat 16 (32768 * bitN p.rev + stop.val)

end Sys2Proof.Machine
end

