-- ==== Sys2Proof/Machine/Interlocks.lean ====
section
/-! DEFINITION. The interlock checker's judgements (chapter 8): the hard-wired checks H1 to H5 (R134, R135), the classes of
a command (R139), the conditions of a configured entry (R140) and the verdict on an MRT entry (R141, R144). -/

namespace Sys2Proof.Machine

/-- What the checker judges: the command's kind with a CLAMP's pattern. -/
inductive Judged where
  | move
  | clamp (p : Pattern)
  | cycle
  | release
deriving DecidableEq, Repr

/-- The judged view of an entry's parameters. -/
def judgedOf : Params → Judged
  | .move _ _ _ => .move
  | .clamp p => .clamp p
  | .cycle _ _ _ => .cycle
  | .release _ => .release

/-- The judged view of a station command message, if it is one (R17). -/
def judgedMsg? (m : Msg) : Option Judged :=
  if m.kind = kMove then some .move
  else if m.kind = kClamp then some (.clamp (argPattern m))
  else if m.kind = kCycle then some .cycle
  else if m.kind = kRelease then some .release
  else none

/-- R134: circuit-opening: the pattern lacks a circuit the sensed pattern holds, or the sensed pattern is UNKNOWN. -/
def opens (sensed : Option Pattern) (p : Pattern) : Bool :=
  match sensed with
  | none => true
  | some q => q &&& ~~~p != 0

/-- R134: circuit-closing. -/
def closes (sensed : Option Pattern) (p : Pattern) : Bool :=
  match sensed with
  | none => p != 0
  | some q => p &&& ~~~q != 0

/-- R73, R134: UNKNOWN equals no pattern, not even UNKNOWN. -/
def samePattern (a b : Option Pattern) : Bool :=
  match a, b with
  | some x, some y => x == y
  | _, _ => false

/-- R135: the number of the failing check of the command's kind, H1 to H4, or none when it passes. -/
def kindCheck (s : State) (st : Stn) (j : Judged) : Option Nat :=
  let r := s.station st
  match j with
  | .move =>
    if r.tool == .retracted && samePattern r.sensed r.commanded && r.referenced then none else some 1
  | .clamp p =>
    if opens r.sensed p then
      (if r.tool == .retracted && !underWay s st .move then none else some 2)
    else none
  | .cycle =>
    if samePattern r.sensed r.commanded && r.sensed != some 0 && atAStop s st && !underWay s st .move then none
    else some 3
  | .release =>
    if r.sensed == some 0 && r.tool == .retracted && (!isMachining s st || atStop s st 0) then none else some 4

/-- R135: the lowest-numbered failing check of the kind check and H5. -/
def hardCheck (s : State) (st : Stn) (j : Judged) : Option Nat :=
  match kindCheck s st j with
  | some n => some n
  | none => if s.held st then some 5 else none

/-- R139: the entry's commands set holds a class of the command. -/
def judges (s : State) (st : Stn) (j : Judged) (e : IlkEntry) : Bool :=
  e.valid && e.subjects.has st
    && (match j with
        | .move => e.cmds.move
        | .clamp p => (opens (s.station st).sensed p && e.cmds.clampOpen)
            || (closes (s.station st).sensed p && e.cmds.clampClose)
        | .cycle => e.cmds.cycle
        | .release => e.cmds.release)

/-- R140: the condition at the object station. -/
def conditionTrue (s : State) (o : Stn) (c : Condition) : Bool :=
  match c with
  | .objectEmpty => (s.station o).occupant == .nobody
  | .toolsRetracted => (s.station o).tool == .retracted
  | .notMoving => !underWay s o .move
  | .notMachining => !underWay s o .cycle
  | .atStop k => (s.station o).referenced && atStop s o k
  | .inMode m => (s.station o).mode == m

/-- R139, R140: the entry judges the command and fails. -/
def ilkFails (s : State) (st : Stn) (j : Judged) (e : IlkEntry) : Bool :=
  judges s st j e && !conditionTrue s (e.object.getD st) e.cond

/-- The numbers of the failing entries with an action, ascending. -/
def failing (s : State) (st : Stn) (j : Judged) (defer : Bool) : List IlkNo :=
  (List.finRange 32).filter (fun i =>
    let e := s.ilk.table.get i
    e.defer == defer && ilkFails s st j e)

/-- The checker's judgement (R141). -/
inductive Verdict where
  | pass
  | defer (entry : IlkNo) (limit : Nat)
  | refuse (reason : Status) (detail : Nat)
deriving DecidableEq, Repr

/-- The smallest defer limit of some entries. -/
def minLimit (s : State) (l : List IlkNo) : Nat :=
  match l with
  | [] => 0
  | i :: is => is.foldl (fun n k => min n (s.ilk.table.get k).deferLimit) (s.ilk.table.get i).deferLimit

/-- R141, R144 steps 2 to 4: hard-wired check, refusing entries, deferring entries, pass. -/
def verdict (s : State) (st : Stn) (j : Judged) : Verdict :=
  match kindCheck s st j with
  | some n => .refuse .hardInterlock n
  | none =>
    match failing s st j false with
    | i :: _ => .refuse .interlock i.val
    | [] =>
      match failing s st j true with
      | i :: is => .defer i (minLimit s (i :: is))
      | [] => .pass

end Sys2Proof.Machine
end

