-- ==== Sys2Proof/Machine/Tasks.lean ====
section
/-! DEFINITION. The steps of effects inside one event. The manual's blocks hand work to one another in an event (a hold
that ends promotes entries, a freed entry is granted to a waiter); each such hand-over is a `Task`, and a block's answer
is the changed state with the tasks that follow at once, first one first. -/

namespace Sys2Proof.Machine

/-- A hand-over inside an event. -/
inductive Task where
  /-- R120: promotion of a READY entry. -/
  | promote (e : EntryNo)
  /-- R130: the freeing of an entry. -/
  | free (e : EntryNo) (how : Ending)
  /-- R130 step 3: a RELEASE freed FAILED by its timeout is handed to the PTB (R32). -/
  | releaseFailed (en : Entry)
  /-- R130 step 3: a dispatch-origin outcome to the dispatcher (R86 to R98). -/
  | outcome (en : Entry) (how : Ending)
  /-- R130 step 3: a controller-origin outcome (R131, R132). -/
  | report (en : Entry) (how : Ending)
  /-- R85 case 2 and R97: what waits at a station for an entry to leave. -/
  | entryLeft (st : Stn)
  /-- R130 step 4: the station's PENDING entry becomes READY and is promoted. -/
  | successor (st : Stn)
  /-- R130 step 5: the pending mode (R75). -/
  | lastEntry (st : Stn)
  /-- R130 step 6: the free-entry arbiter (R119). -/
  | arbitrate
  /-- R93: re-evaluation of the stations waiting ROUTE. -/
  | reroute
  /-- R93: one station of the re-evaluation. -/
  | routeTry (st : Stn)
  /-- R76: a mode is applied. -/
  | applyMode (st : Stn) (m : Mode)
  /-- R84: take-up; the flag keeps a wait (R101). -/
  | takeUp (st : Stn) (keep : Bool)
  /-- R86: evaluation of the operation progression; the flag says that the arbiter has given an entry (R119). -/
  | evalOp (st : Stn) (granted : Bool)
  /-- R89: the HOMING evaluation. -/
  | homing (st : Stn) (granted : Bool)
  /-- R89: UNCLAMPING. -/
  | unclamp (st : Stn) (granted : Bool)
  /-- R90: a choice in ROUTING. -/
  | route (st : Stn) (granted keep : Bool)
  /-- R85: the process re-evaluates the point at which its command became due. -/
  | reeval (st : Stn) (granted : Bool)
  /-- R87: the settle is over. -/
  | settleOver (st : Stn)
  /-- R77, R114, R121: the holds of these stations have ended; the flag is the RESUME mark. -/
  | holdEnded (v : StnSet) (byResume : Bool)
  /-- R87, R97: the dispatcher is told that a hold has ended. -/
  | holdEndedIdx (st : Stn) (byResume : Bool)
  /-- R84: an arrival handed to the dispatcher. -/
  | arrived (st : Stn)
  /-- R101: an admission or restart handed to the dispatcher. -/
  | admitted (st : Stn)
  /-- R41: a slot is free and a pending admission is evaluated again. -/
  | retryAdmission
  /-- R59: a RETIRING bank without carriers becomes EMPTY; the tag is the notice's. -/
  | retire (t : Tag)
  /-- R144: one deferred item is judged. -/
  | judge (it : DeferItem)
  /-- An event with its NOTICE (R183, R184). -/
  | note (ev : Event) (station : Byte) (pallet : Tag) (detail : Nat)
  /-- R176: the due COUNTER_OVERFLOW notices. -/
  | flush
  /-- R143: the pass over the deferred list that ends the event. -/
  | deferPass
  /-- The end of the event. -/
  | close
deriving DecidableEq, Repr

/-- The effect of a step: the state, and the tasks that follow at once. -/
abbrev Eff := State × List Task

/-- An effect with nothing to follow. -/
def only (s : State) : Eff := (s, [])

end Sys2Proof.Machine
end

