-- ==== Sys2Proof/Machine/Holds.lean ====
section
/-! DEFINITION. Holds, traps and faults: what a change of hold causes does (R77, R87, R113, R121), how a process stalls,
is blocked or is given up (R83, R95, R96, R99), the causes of a zone (R154), and the occurrence of a fault with its
reaction (R159, R161). -/

namespace Sys2Proof.Machine

/-! ### Processes that stop -/

/-- R95, R99: settle and wait removed, and the station out of every order. -/
def Process.stop (p : Process) (ps : PState) : Process :=
  { p with pstate := ps, settleEnd := none, settleSucc := none, settleTaken := false, wait := .nothing, waitingSince := none,
           due := none, replan := false, place := plainPlace }

/-- R83, R94, R100: the process is given up. -/
def Process.giveUp (p : Process) (ps : PState) : Process :=
  { p.stop ps with pallet := none, stepEnded := false }

/-- R95: a station enters STALLED with NOTICE STALLED. -/
def enterStalled (st : Stn) (detail : Nat) (s : State) : State :=
  let s := s.modProc st (fun p => p.stop .stalled)
  notice .stalled (stnByte st) ((s.proc st).pallet.getD 0) detail s

/-- R99: a station enters BLOCKED, in any mode. -/
def enterBlocked (st : Stn) (s : State) : State := s.modProc st (fun p => p.giveUp .blocked)

/-- R96: the loss of reference handed to the dispatcher. -/
def refLost (st : Stn) (s : State) : State :=
  if isMachining s st && (s.station st).mode == .auto
      && (s.proc st).pstate != .stalled && (s.proc st).pstate != .blocked
  then enterStalled st 2 s else s

/-- R70: the referenced flag is cleared; a change is handed to the dispatcher. -/
def clearReference (st : Stn) (s : State) : State :=
  if (s.station st).referenced then refLost st (s.modStn st (fun r => { r with referenced := false })) else s

/-! ### Hold intent (R77) -/

/-- R113: the remaining time of a running deadline: the deadline minus now, at least 1. -/
def remainingOf (deadline now : Time) : Nat :=
  let d := (deadline - now).toInt
  if d < 1 then 1 else d.toNat

/-- R113, R121: what a hold does to an entry of the station: SENDING returns to READY, a running deadline freezes. -/
def freezeEntry (now : Time) (en : Entry) : Entry :=
  match en.estate with
  | .sending => { en with estate := .ready }
  | .issued =>
    (match en.deadline with
     | some d => { en with deadline := none, remaining := some (remainingOf d now) }
     | none => en)
  | .cancelling =>
    (match en.deadline with
     | some d => { en with deadline := none, remaining := some (remainingOf d now) }
     | none => en)
  | _ => en

/-- The SENDING entries of a station. -/
def sendingOf (s : State) (st : Stn) : List EntryNo :=
  entriesWhere s (fun en => en.station == st && en.estate == .sending)

/-- R113, R121: a hold of station `st` on an MRT entry slot. -/
def freezeSlot (st : Stn) (now : Time) (o : Option Entry) : Option Entry :=
  o.map (fun en => if en.station = st then freezeEntry now en else en)

/-- R87: a hold that begins removes a settle end. -/
def Process.holdSettle (p : Process) : Process :=
  if p.pstate = .settling then { p with settleEnd := none } else p

/-- R77 on entering held: commands of SENDING entries leave the DEQ and return to READY (R121), deadlines freeze (R113), a
settle end is removed (R87). -/
def beginHold (st : Stn) (s : State) : State :=
  let s1 := (sendingOf s st).foldl (fun s e => dropDeq e s) s
  let s2 := { s1 with mrt := { s1.mrt with entries := s1.mrt.entries.map (freezeSlot st s1.now) } }
  s2.modProc st Process.holdSettle

/-- R77: new hold causes for every station. Each station whose intent becomes held is handed on here; the stations whose
intent becomes not held are returned, for `holdEnded`. -/
def changeHolds (f : Stn → Station → Station) (s : State) : State × StnSet :=
  let s1 := { s with stb := { s.stb with stn := Vector.ofFn (fun i => f i (s.stb.stn.get i)) } }
  let begun := StnSet.where (fun st => !s.held st && s1.held st)
  let ended := StnSet.where (fun st => s.held st && !s1.held st)
  (begun.members.foldl (fun s st => beginHold st s) s1, ended)

/-- The tasks of holds that ended: the MRT, then the dispatcher (R77); the deferred list gets a pass (R143). -/
def endHolds (r : State × StnSet) (byResume : Bool) : Eff :=
  if r.2 = 0 then only r.1
  else (r.1.modEv (fun e => { e with passDue := true }), [.holdEnded r.2 byResume])

/-! ### Zones (R147, R154) -/

/-- The union of two cause sets. -/
def ZoneCauses.union (a b : ZoneCauses) : ZoneCauses :=
  { pin := a.pin || b.pin, fault := a.fault || b.fault, command := a.command || b.command, reset := a.reset || b.reset }

/-- The causes of `a` that are not in `b`. -/
def ZoneCauses.minus (a b : ZoneCauses) : ZoneCauses :=
  { pin := a.pin && !b.pin, fault := a.fault && !b.fault, command := a.command && !b.command,
    reset := a.reset && !b.reset }

def noCauses : ZoneCauses := { pin := false, fault := false, command := false, reset := false }

/-- R154: the TRAP cause of every station of a zone. -/
def setTrap (z : Zone) (on : Bool) (_ : Stn) (r : Station) : Station :=
  if r.cfg.zone = z then { r with holds := { r.holds with trap := on } } else r

/-- R154: causes added to a zone. A zone that becomes TRAPPED holds its stations and reports TRAP_ENTER. -/
def zoneAdd (z : Zone) (c : ZoneCauses) (s : State) : State :=
  let old := (s.zone z).causes
  let s1 := s.setZone z { s.zone z with causes := old.union c }
  if !old.any && (old.union c).any then
    notice .trapEnter 255 0 (16 * zoneNo z + causeBits (old.union c)) (changeHolds (setTrap z true) s1).1
  else s1

/-- R154: causes removed from a zone. A zone that returns to RUN releases its stations and reports TRAP_EXIT. -/
def zoneRemove (z : Zone) (c : ZoneCauses) (s : State) : Eff :=
  let old := (s.zone z).causes
  let s1 := s.setZone z { s.zone z with causes := old.minus c }
  if old.any && !(old.minus c).any then
    let r := endHolds (changeHolds (setTrap z false) s1) false
    (r.1, r.2 ++ [.note .trapExit 255 0 (16 * zoneNo z + causeBits old)])
  else only s1

/-! ### Fault occurrences (R159, R161) -/

/-- R159: FAULT added to a zone, and the zone listed in the kind's record. -/
def trapForFault (k : FaultKind) (z : Zone) (s : State) : State :=
  zoneAdd z { noCauses with fault := true }
    (s.modFaultRec k (fun r =>
      match z with
      | .a => { r with zones := { r.zones with a := true } }
      | .b => { r with zones := { r.zones with b := true } }))

/-- R159: LINE_TRAP. -/
def lineTrap (k : FaultKind) (s : State) : State := trapForFault k .b (trapForFault k .a s)

/-- R168: the device enters RESTRICTED. -/
def enterRestricted (s : State) : State := { s with fcu := { s.fcu with restricted := true } }

/-- R159: FAULT and the kind on one station. -/
def stopStation (k : FaultKind) (st : Stn) (i : Stn) (r : Station) : Station :=
  if i = st then
    { r with holds := { r.holds with fault := true }, stopCauses := r.stopCauses ||| (1#20 <<< k.val) }
  else r

/-- R159: a reaction level applied to a station or to none. -/
def react (k : FaultKind) (l : Level) (st : Option Stn) (s : State) : State :=
  match l, st with
  | .report, _ => s
  | .stationStop, some st => (changeHolds (stopStation k st) s).1
  | .zoneTrap, some st => trapForFault k (s.station st).cfg.zone s
  | .restrict, _ => enterRestricted (lineTrap k s)
  | _, _ => lineTrap k s

/-- R161: the record of a kind at an occurrence, with NOTICE FAULT where it was CLEAR. -/
def recordFault (k : FaultKind) (st : Option Stn) (p : Tag) (s : State) : State :=
  let r := s.faultRec k
  let n := min 255 (r.count + 1)
  let cfg := s.fcu.reaction.get k
  if r.pending then s.modFaultRec k (fun r => { r with count := n, lastStn := st, lastPallet := p })
  else
    notice .fault (stnByte? st) p k.val
      (s.modFaultRec k (fun r =>
        { r with
          pending := true, count := n, firstStn := st, firstPallet := p, lastStn := st, lastPallet := p
          level := cfg.level
          expiry := if cfg.escalation ≠ 0 ∧ cfg.level ≠ .restrict then some (after s.now cfg.escalation) else none }))

/-- R161: an occurrence: the record, then the reaction at the record's applied level. -/
def occur (k : FaultKind) (st : Option Stn) (p : Tag) (s : State) : State :=
  let s := recordFault k st p s
  react k (s.faultRec k).level st s

/-! ### Fault kinds by name (R157) -/

abbrev fPositionError : FaultKind := 0
abbrev fMotionTimeout : FaultKind := 1
abbrev fClampTimeout : FaultKind := 2
abbrev fCycleTimeout : FaultKind := 3
abbrev fReleaseTimeout : FaultKind := 4
abbrev fUncommandedMotion : FaultKind := 5
abbrev fToolConflict : FaultKind := 6
abbrev fPalletLost : FaultKind := 7
abbrev fMisrouted : FaultKind := 8
abbrev fStranger : FaultKind := 9
abbrev fDuplicateTag : FaultKind := 10
abbrev fPtbFull : FaultKind := 11
abbrev fVariantUndefined : FaultKind := 12
abbrev fNodeFault : FaultKind := 13
abbrev fLinkADown : FaultKind := 14
abbrev fLinkBDown : FaultKind := 15
abbrev fMessageCrc : FaultKind := 16
abbrev fInterlockLate : FaultKind := 17
abbrev fDeferTimeout : FaultKind := 18
abbrev fTableIntegrity : FaultKind := 19

/-- R127: the timeout fault of a command kind. -/
def timeoutFault : CmdKind → FaultKind
  | .move => fMotionTimeout
  | .clamp => fClampTimeout
  | .cycle => fCycleTimeout
  | .release => fReleaseTimeout

end Sys2Proof.Machine
end

