-- ==== Sys2Proof/Machine/Classify.lean ====
section
/-! DEFINITION. The DIQ's next message (R5), which row of the table it is (R7, R180), the checks of a station request (R8)
and of INDEX (R102), and when the next message can be taken (R6). -/

namespace Sys2Proof.Machine

/-- R5: the oldest urgent message, or else the oldest message. -/
def nextItem (q : List DiqItem) : Option DiqItem :=
  match q.find? (fun d => d.msg.urgent) with
  | some d => some d
  | none => q.head?

/-- Taking a message removes it from the DIQ (section 1.4). -/
def removeDiq (d : DiqItem) (s : State) : State := s.modChi (fun c => { c with diq := c.diq.erase d })

/-- R181: words that hold the high half of a writable wide field. -/
def isHighWord (table entry word : Nat) : Bool :=
  (table == 1 && decide (entry < 16) && (word == 14 || word == 20))
    || (table == 4 && decide (entry < 32) && word == 6)
    || (table == 5 && decide (entry < 20) && word == 1)

/-- The row of a TBL_WRITE by the word it addresses (section 12.3). A word with no behaviour of its own, a read-only word
and an address that does not exist are rows of TBL_WRITE; every address of table 2 is a RECIPE_WRITE. -/
def writeRow (table entry word : Nat) : Instr :=
  if isHighWord table entry word then .wideHighWordWrite
  else if table = 0 then
    (if entry = 0 then
      (if word = 1 then .controllerNodeWrite
       else if word = 2 ∨ word = 3 then .designationWrite
       else if word = 9 then .eventSummaryWrite
       else if word = 10 ∨ word = 11 then .maskWrite
       else .tblWrite)
     else if entry = 1 ∨ entry = 2 then
      (if word = 4 ∨ word = 5 then .filterWrite else if word = 6 then .exitModeWrite else .tblWrite)
     else .tblWrite)
  else if table = 1 then
    (if entry < 16 then
      (if word = 1 then .zoneWrite
       else if word = 11 ∨ word = 15 then .windLimitToleranceWrite
       else if word = 22 then .approachCapacityWrite
       else if word < 24 then .stationConfigWrite
       else .tblWrite)
     else .tblWrite)
  else if table = 2 then .recipeWrite
  else if table = 4 then (if entry < 32 ∧ word < 8 then .interlockWrite else .tblWrite)
  else if table = 5 then (if entry < 20 ∧ (word = 0 ∨ word = 2) then .reactionWrite else .tblWrite)
  else if table = 6 then (if entry < 8 ∧ word < 6 then .counterConfigWrite else .tblWrite)
  else if table = 7 then
    (if entry < 48 ∧ (word = 7 ∨ word = 8 ∨ word = 9) then .palletRecordWrite else .tblWrite)
  else .tblWrite

/-- The row of an ACTION by its code (section 12.3). -/
def actionRow (code : Nat) : Instr :=
  match code with
  | 1 => .index
  | 2 => .cancel
  | 3 => .mode
  | 4 => .forget
  | 5 => .find
  | 6 => .commit
  | 7 => .discard
  | 8 => .freeze
  | 9 => .trapSet
  | 10 => .trapAck
  | 11 => .faultAck
  | 12 => .clearCounts
  | 13 => .recover
  | 14 => .snapshot
  | 15 => .clearCounters
  | 16 => .setTime
  | 17 => .reset
  | _ => .unknownActionCode

/-- R7, R180: the row of the table that taking this message is. A management kind is a management request only when it
is addressed to the device; any other kind not named here is forwarded. -/
def rowOf (s : State) (m : Msg) : Instr :=
  if m.kind = kHold then .hold
  else if m.kind = kResume then .resume
  else if m.kind = kMove then .move
  else if m.kind = kStop then .stop
  else if m.kind = kAbort then .abort
  else if m.kind = kClamp then .clamp
  else if m.kind = kCycle then .cycle
  else if m.kind = kRelease then .release
  else if m.kind = kJog then .jog
  else if m.kind = kRefer then .refer
  else if m.kind = kStatusReq then .statusReq
  else if m.dst = s.mga.node ∧ m.kind = kTblRead then .tblRead
  else if m.dst = s.mga.node ∧ m.kind = kTblWrite then writeRow (addrTable m) (addrEntry m) (addrWord m)
  else if m.dst = s.mga.node ∧ m.kind = kAction then actionRow m.argA.toNat
  else .downlaneForward

/-- R8: the checks of a CLAMP, CYCLE, RELEASE, JOG or REFER, the first failing one refusing. -/
def checkRequest (s : State) (m : Msg) : Except Status Stn :=
  if m.src ≠ s.mga.controller then .error .access
  else
    match m.stn? with
    | none => .error .badArg
    | some st =>
      if m.dst ≠ (s.station st).cfg.node then .error .badArg
      else if s.fcu.restricted then .error .restricted
      else if stationTrapped s st then .error .trapped
      else .ok st

/-- R117: the station's entries allow no further controller entry. -/
def entriesFull (s : State) (st : Stn) : Bool := (activeEntry s st).isSome && (pendingEntry s st).isSome

/-- R102: the checks of ACTION INDEX after its source check. -/
def checkIndex (s : State) (m : Msg) : Except Status (Stn × Fin 8) :=
  match m.stn?, stop? m.argB.toNat with
  | some st, some k =>
    if s.fcu.restricted then .error .restricted
    else if stationTrapped s st then .error .trapped
    else if !(isMachining s st && (s.station st).mode == .manual) then .error .wrongMode
    else if !(s.station st).referenced then .error .notReferenced
    else .ok (st, k)
  | _, _ => .error .badArg

/-- R102: no MRT entry at the station and the fixture at the target. -/
def indexDone (s : State) (st : Stn) (k : Fin 8) : Bool := !hasEntry s st && atStop s st k

/-- R6: taking the message would create an MRT entry, judged from the state at the attempt. -/
def wouldCreate (s : State) (m : Msg) : Bool :=
  if m.dst = s.mga.node then
    m.kind == kAction && m.argA == 1 && m.src == s.mga.controller
      && (match checkIndex s m with
          | .ok (st, k) => !indexDone s st k && !entriesFull s st
          | .error _ => false)
  else if m.kind = kClamp ∨ m.kind = kCycle ∨ m.kind = kRelease then
    (match checkRequest s m with
     | .ok st => (s.station st).mode == .manual && !entriesFull s st
     | .error _ => false)
  else false

/-- R9, R10: taking the message would place it in the DEQ as it is. A CLAMP, CYCLE or RELEASE that would become an MRT entry is
none of these: its entry's command enters the DEQ later, by R14 (log entry 44). -/
def wouldForward (s : State) (m : Msg) : Bool :=
  match rowOf s m with
  | .statusReq => m.dst != s.mga.node
  | .downlaneForward => m.dst != s.mga.node
  | .jog =>
    m.dst != s.mga.node && (match checkRequest s m with
      | .ok st => (s.station st).mode == .out && (s.station st).tool == .retracted
      | .error _ => false)
  | .refer =>
    m.dst != s.mga.node && (match checkRequest s m with
      | .ok st => (s.station st).mode == .out && (s.station st).tool == .retracted
      | .error _ => false)
  | _ =>
    m.dst != s.mga.node && (match judgedMsg? m, checkRequest s m with
      | some j, .ok st => m.kind != kMove && (s.station st).mode == .out && (hardCheck s st j).isNone
      | _, _ => false)

/-- R6: the NQ places the message can need. -/
def repliesOf (m : Msg) : Nat := if m.kind = kResume then max 1 (stationCount (namedStations m)) else 1

/-- R6: an ACTION CANCEL to the device naming a station whose active entry is an ISSUED MOVE or CYCLE. -/
def needsUgq (s : State) (m : Msg) : Bool :=
  m.dst == s.mga.node && m.kind == kAction && m.argA == 2
    && (match m.stn? with
        | some st =>
          (match (activeEntry s st).bind s.entry? with
           | some en => en.estate == .issued && (paramsKind en.params == .move || paramsKind en.params == .cycle)
           | none => false)
        | none => false)

/-- R6 without its third row: DEQ place, NQ places, UGQ place. -/
def roomFor (s : State) (m : Msg) : Bool :=
  (!(!m.urgent || wouldForward s m) || decide (0 < deqFreeForDiq s))
    && decide (repliesOf m ≤ nqFree s)
    && (!needsUgq s m || decide (s.chi.ugq.length < Config.ugqCap))

/-- R6: a normal message that waits for an MRT entry. -/
def waitsForEntry (s : State) (m : Msg) : Bool := !m.urgent && wouldCreate s m

/-- R6: the next message can be taken. -/
def canTake (s : State) (m : Msg) : Bool :=
  roomFor s m && (!waitsForEntry s m || (freeEntry s).isSome)

/-- R5: the DIQ is stalled: it holds a next message, which cannot be taken. -/
def diqStalled (s : State) : Bool :=
  match nextItem s.chi.diq with
  | some d => !canTake s d.msg
  | none => false

/-- R119: the DIQ's next message is one that waits for an entry. -/
def diqWaits (s : State) : Bool :=
  match nextItem s.chi.diq with
  | some d => waitsForEntry s d.msg
  | none => false

/-- R119: the DIQ's next message, while it waits for an entry and the arbiter still holds it as a waiter. -/
def diqWaiter (s : State) : Option DiqItem :=
  if s.ev.diqClaim && diqWaits s then nextItem s.chi.diq else none

end Sys2Proof.Machine
end

