-- ==== Sys2Proof/Machine/Mrt.lean ====
section
/-! DEFINITION. The motion request table (chapter 7): creation (R116 to R118), promotion (R120), the command's message
(R107, R117, R118), freeing and its steps (R130 to R132), the judgement of a deferred item (R144), pending modes (R75). -/

namespace Sys2Proof.Machine

/-- R116: a new entry placed in entry `e`: one MRT_INSERT event. -/
def insertEntry (e : EntryNo) (en : Entry) (s : State) : State :=
  lmnEvent .mrtInsert (some en.station) (some (cmdCode (paramsKind en.params))) (s.setEntry e (some en))

/-- A new entry with these parameters, its acceptance time now. -/
def newEntry (s : State) (st : Stn) (p : Params) (o : Origin) (pallet : Tag) (rx : Option Msg) (es : EState) : Entry :=
  { station := st, params := p, origin := o, pallet := pallet, received := rx, estate := es, cancelReq := false,
    acceptance := s.now, deadline := none, remaining := none, released := none }

/-- The message of an entry's command as it enters the DEQ: a controller message unchanged (R117), or one the device
builds (R107, R118). -/
def commandMsg (s : State) (en : Entry) : Msg :=
  match en.received with
  | some m => m
  | none =>
    let dst := (s.station en.station).cfg.node
    let mk := fun kind argA argB => mkMsg 0 dst s.mga.node kind (stnByte en.station) en.pallet argA argB
    match en.params with
    | .move stop target plan => mk kMove target (match plan with
      | some p => moveArgB stop p
      | none => BitVec.ofNat 16 stop.val)
    | .clamp p => mk kClamp (p.setWidth 16) 0
    | .cycle program op _ => mk kCycle program op
    | .release dest => mk kRelease dest 0

/-- An entry's command enters the DEQ. -/
def enqueueCommand (e : EntryNo) (s : State) : State :=
  match s.entry? e with
  | some en => pushDeq (commandMsg s en) (some e) s
  | none => s

/-- R14: free DEQ places go to the SENDING entries that wait for one, the oldest acceptance time first. -/
def serveSending (s : State) : State :=
  ((sortBy (acceptedBefore s) (sendingWaiters s)).take (deqRoom s)).foldl (fun x e => enqueueCommand e x) s

/-- R120: a PASS: SENDING, the command in the DEQ when it has a free place that no entry waits for already (R14). -/
def startSending (e : EntryNo) (s : State) : State :=
  let s := (serveSending s).modEntry e (fun en => { en with estate := .sending })
  if 0 < deqRoom s then enqueueCommand e s else s

/-- R106: a MOVE is planned anew; other commands are left as they are. -/
def planEntry (s : State) (en : Entry) : Entry :=
  match en.params with
  | .move stop target _ => { en with params := .move stop target (some (planMove (s.station en.station) target)) }
  | _ => en

/-- R106: the entry's plan is satisfied. -/
def planSatisfied (en : Entry) : Bool :=
  match en.params with
  | .move _ _ (some p) => p.satisfied
  | _ => false

/-- R120: promotion of a READY entry. -/
def promote (e : EntryNo) (s : State) : Eff :=
  match s.entry? e with
  | none => only s
  | some en =>
    if en.estate ≠ .ready ∨ s.held en.station then only s
    else
      let en' := planEntry s en
      let s := s.setEntry e (some en')
      if planSatisfied en' then (s, [.free e (.done none false)])
      else
        match verdict s en.station (judgedOf en.params) with
        | .pass => only (startSending e s)
        | .refuse r d => (s, [.free e (.refused r d)])
        | .defer i lim =>
          if s.ilk.deferred.length < Config.deferMax then
            only (lmnEvent .deferred (some en.station) (some (cmdCode (paramsKind en.params)))
              { s.modEntry e (fun en => { en with estate := .deferred }) with
                ilk := { s.ilk with
                  deferred := s.ilk.deferred ++ [{ entry := e, deadline := after s.now lim, deferring := i }] } })
          else (s, [.free e (.refused .deferFull i.val)])

/-- R130: the fault an ending raises. -/
def endingFault (en : Entry) (how : Ending) : Option FaultKind :=
  match how with
  | .positionError => some fPositionError
  | .timeout => some (timeoutFault (paramsKind en.params))
  | .interlockLate => some fInterlockLate
  | .deferTimeout _ => some fDeferTimeout
  | _ => none

/-- R130: the line monitor event of a freeing, if it is one. -/
def endingSource (how : Ending) : Option EvSource :=
  match how with
  | .done _ _ => some .mrtDone
  | .cancelled => none
  | _ => some .mrtFail

/-- The entry is a RELEASE that has not been transmitted. -/
def untransmittedRelease (en : Entry) : Bool :=
  paramsKind en.params == .release
    && !(en.estate == .issued || en.estate == .cancelling)

/-- R130 steps 3 to 6, as tasks. Where an untransmitted RELEASE leaves, the stations waiting ROUTE are re-evaluated before what
waits at its own station for the entry to leave (log entry 24). -/
def freeTasks (en : Entry) (how : Ending) : List Task :=
  (if paramsKind en.params = .release ∧ how = .timeout then [.releaseFailed en] else [])
    ++ (match en.origin with
        | .dispatch => [.outcome en how]
        | .controller => [.report en how])
    ++ (if untransmittedRelease en then [.reroute] else [])
    ++ [.entryLeft en.station]
    ++ (if en.estate = .pending then [] else [.successor en.station])
    ++ [.lastEntry en.station, .arbitrate]

/-- R119: whether the DIQ's next message waits for the entry this freeing gives back. -/
def claimForDiq (s : State) : Bool := s.ev.diqClaim || ((freeEntry s).isNone && diqWaits s)

/-- R130 step 2 without the fault: the entry leaves the table with its command, its STOP or ABORT and its deferred item,
and the freeing is counted. -/
def removeEntry (e : EntryNo) (en : Entry) (how : Ending) (s : State) : State :=
  let s := dropDeferred e (dropUgq e (dropDeq e (s.setEntry e none)))
  match endingSource how with
  | some src => lmnEvent src (some en.station) (some (cmdCode (paramsKind en.params))) s
  | none => s

/-- R130: an entry is freed. -/
def freeEntryStep (e : EntryNo) (how : Ending) (s : State) : Eff :=
  match s.entry? e with
  | none => only s
  | some en =>
    let claim := claimForDiq s
    let s := removeEntry e en how
      (s.modEv (fun v => { v with diqClaim := claim, freed := v.freed ||| StnSet.one en.station }))
    let s := match endingFault en how with
      | some k => occur k (some en.station) en.pallet s
      | none => s
    (s, freeTasks en how)

/-- R131: bits 4..0 of a COMMAND detail. -/
def endingCode (how : Ending) : Nat :=
  match how with
  | .done none false => 0
  | .done (some .ok) false => 1
  | .done (some .reject) false => 2
  | .done (some .aborted) false => 3
  | .cancelled => 4
  | .done none true => 5
  | .done (some .ok) true => 6
  | .done (some .reject) true => 7
  | .done (some .aborted) true => 4
  | .positionError => 8
  | .timeout => 9
  | _ => 10

/-- R131, R132: a controller-origin outcome. -/
def reportEnding (en : Entry) (how : Ending) (s : State) : Eff :=
  match how with
  | .refused r d => only (refuseEntry en r d s)
  | .deferTimeout d => only (refuseEntry en .deferTimeout d s)
  | _ =>
    only (notice .command (stnByte en.station) en.pallet (32 * cmdNo (paramsKind en.params) + endingCode how) s)

/-- R130 step 4. -/
def promoteSuccessor (st : Stn) (s : State) : Eff :=
  match activeEntry s st, pendingEntry s st with
  | none, some e => (s.modEntry e (fun en => { en with estate := .ready }), [.promote e])
  | _, _ => only s

/-- R130 step 5, R75: the pending mode when the station has no entry left. -/
def afterLastEntry (st : Stn) (s : State) : Eff :=
  if hasEntry s st then only s
  else
    match (s.station st).pendingMode with
    | none => only s
    | some m =>
      let s := s.modStn st (fun r => { r with pendingMode := none })
      if m == .auto && isMachining s st && !(s.station st).referenced then
        only (notice .modeRefused (stnByte st) 0 (modeCode m) s)
      else (s, [.applyMode st m, .note .modeChanged (stnByte st) 0 (modeCode m)])

/-- R144: one item of the pass is judged, if it still stands in the list. -/
def judgeItem (it : DeferItem) (s : State) : Eff :=
  match s.ilk.deferred.find? (fun d => d.entry == it.entry && d.deadline == it.deadline), s.entry? it.entry with
  | some _, some en =>
    let en' := planEntry s en
    let s := s.setEntry it.entry (some en')
    if planSatisfied en' then (s, [.free it.entry (.done none false)])
    else
      match verdict s en.station (judgedOf en.params) with
      | .refuse r d => (s, [.free it.entry (.refused r d)])
      | .defer i _ =>
        only { s with
          ilk := { s.ilk with
            deferred := s.ilk.deferred.map (fun d => if d.entry = it.entry then { d with deferring := i } else d) } }
      | .pass => if s.held en.station then only s else only (startSending it.entry (dropDeferred it.entry s))
  | _, _ => only s

end Sys2Proof.Machine
end

