-- ==== Sys2Proof/Machine/Dispatcher.lean ====
section
/-! DEFINITION. The index dispatcher (chapter 5): making a command due (R85), the operation progression (R86), settling
(R87), cycle results (R88), homing and unclamping (R89), routing (R90 to R93), take-up (R84), outcomes (R95, R98), modes
(R83, R76), the end of a hold (R77, R87, R97, R114, R121), and admissions (R101). -/

namespace Sys2Proof.Machine

/-! ### Commands that become due (R85) -/

/-- R119: somebody waits for an entry, so that a free one is not for a newcomer. -/
def entryContended (s : State) : Bool := !(entryWaiters s).isEmpty || s.ev.diqClaim

/-- R85: the process state once the command is created. -/
def createdState (p : Params) (pt : DuePoint) : PState :=
  match p, pt with
  | .release _, _ => .releasing
  | .cycle _ _ _, _ => .machining
  | .clamp _, .homing => .homing
  | .clamp _, .unclamp => .unclamping
  | .clamp _, _ => .clamping
  | .move _ _ _, .homing => .homing
  | .move _ _ _, _ => .moving

/-- R85 case 4: the entry is created, a MOVE planned at its creation (R106, R118), and goes to promotion. -/
def createDispatch (st : Stn) (e : EntryNo) (p : Params) (pt : DuePoint) (s : State) : Eff :=
  let en := planEntry s (newEntry s st p .dispatch ((s.proc st).pallet.getD 0) none .ready)
  (insertEntry e en (s.modProc st (fun pr => pr.stop (createdState p pt))), [.promote e])

/-- R119: the place at which a station joins the arbiter's order: behind every waiter already in it, the DIQ's message too, where
an entry of its own was freed in this event; otherwise after the last waiter that comes before it by waiting-since and number
(log entry 46). -/
def joinPlace (s : State) (st : Stn) (since : Time) : Place :=
  let others := (entryWaiters s).filter (fun x => x != st)
  if s.ev.freed.has st then
    let p := (others.getLast?.map (fun x => (s.proc x).place)).getD plainPlace
    { rank := p.rank + 1, behindDiq := ((diqWaiter s).map (·.arrival)).or p.behindDiq }
  else
    let ahead := others.filter (fun x => olderWait ((s.proc x).waitingSince.getD 0) x since st)
    (ahead.getLast?.map (fun x => (s.proc x).place)).getD plainPlace

/-- R85, R169: at the return to NORMAL the stations waiting ENTRY are presented anew, with their waiting-since: they stand by it and
by their numbers (R119). -/
def presentWaiters (s : State) : State :=
  { s with
    idx := { s.idx with
      procs := s.idx.procs.map (fun p => if p.wait = .entry then { p with place := plainPlace } else p) } }

/-- R85 cases 3 and 5: the station waits ENTRY. -/
def waitEntry (st : Stn) (pt : DuePoint) (since : Option Time) (place : Place) (s : State) : State :=
  s.modProc st (fun q => { q with wait := .entry, waitingSince := since, due := some pt, place := place })

/-- R85: a command becomes due at a point. `granted` says the arbiter has given an entry (R119); `keep` keeps an earlier
waiting-since, and the place of a station that waits ENTRY already (R101). -/
def makeDue (st : Stn) (p : Params) (pt : DuePoint) (granted keep : Bool) (s : State) : Eff :=
  let pr := s.proc st
  let kept := if keep then some (pr.waitingSince.getD s.now) else some s.now
  let since := if pr.wait = .route ∧ s.fcu.restricted = false then pr.waitingSince else kept
  let place := if keep && pr.wait == .entry then pr.place else joinPlace s st (since.getD 0)
  if (s.station st).pendingMode.isSome then
    only (s.modProc st (fun q => { q with wait := .mode, waitingSince := none, due := some pt }))
  else if hasEntry s st then
    only (s.modProc st (fun q => { q with wait := .nothing, waitingSince := none, due := some pt }))
  else if s.fcu.restricted then only (waitEntry st pt since place s)
  else
    match freeEntry s with
    | some e => if granted || !entryContended s then createDispatch st e p pt s else only (waitEntry st pt since place s)
    | none => only (waitEntry st pt since place s)

/-- The record of the station's process pallet. -/
def processRecord (s : State) (st : Stn) : Option Record := (s.proc st).pallet.bind s.record?

/-- Change the record of a tag. -/
def modRecord (t : Tag) (f : Record → Record) (s : State) : State :=
  match slotOf s t with
  | some i => s.modSlot i f
  | none => s

/-! ### Operations (R86 to R88) -/

/-- R86: the three tests of the operation progression, in order. -/
def evalOperation (st : Stn) (granted : Bool) (s : State) : Eff :=
  let s := s.modProc st (fun p => { p with wait := .nothing, waitingSince := none, due := none })
  match processRecord s st with
  | none => only s
  | some r =>
    match (currentStep s r).bind (fun k => k.op? r.opCursor) with
    | none => only s
    | some op =>
      let stn := s.station st
      let target := targetOf stn.cfg op.stop r.offset
      if !(samePattern stn.sensed (some op.pattern) && samePattern stn.commanded (some op.pattern)) then
        makeDue st (.clamp op.pattern) .operation granted false s
      else if !stn.isAt target then
        makeDue st (.move op.stop target none) .operation granted false s
      else
        makeDue st (.cycle (BitVec.ofNat 16 op.program) (BitVec.ofNat 16 r.opCursor) (some op.limit)) .operation granted
          false s

/-- R87: the settle end is set, in full. A settle time of 0 ends the settle in this event, and while the station is held there
is no settle end. -/
def runSettle (st : Stn) (s : State) : Eff :=
  let t := (s.station st).cfg.settle
  let s := s.modProc st (fun p => { p with settleEnd := if s.held st then none else some (after s.now t), settleTaken := false })
  if s.held st = false ∧ t = 0 then (s, [.settleOver st]) else only s

/-- R87: a station enters SETTLING. -/
def startSettle (st : Stn) (succ : Succ) (s : State) : Eff :=
  runSettle st (s.modProc st (fun p => { p.stop .settling with settleSucc := some succ }))

/-- R88: a cycle result into the pallet's record; the answer says whether the step has ended. -/
def recordCycle (st : Stn) (t : Tag) (op : Nat) (r : CycleResult) (s : State) : State × Bool :=
  match r with
  | .reject =>
    ((modRecord t (fun q => { q with quality := { q.quality with rejected := true } }) s).modProc st
      (fun p => { p with stepEnded := true }), true)
  | .aborted =>
    ((modRecord t (fun q => { q with quality := { q.quality with aborted := true } }) s).modProc st
      (fun p => { p with stepEnded := true }), true)
  | .ok =>
    let count := match (s.record? t).bind (currentStep s) with
      | some k => k.count
      | none => 0
    if op + 1 < count then (modRecord t (fun q => { q with opCursor := op + 1 }) s, false)
    else (s.modProc st (fun p => { p with stepEnded := true }), true)

/-! ### Routing (R90 to R93) -/

/-- R91: a candidate's load. -/
def stationLoad (s : State) (st : Stn) : Nat :=
  committed s st + (if (s.station st).occupant = .nobody then 0 else 1)

/-- R91: the candidate with the lowest load, the lowest number among equals. -/
def chooseFromGroup (s : State) (g : StnSet) : Option Stn :=
  let cands := g.members.filter (fun st =>
    (s.station st).mode == .auto && decide (committed s st < (s.station st).cfg.capacity))
  cands.foldl (fun best st =>
    match best with
    | none => some st
    | some b => if stationLoad s st < stationLoad s b then some st else some b) none

/-- R92: the rework or load station as destination. -/
def chooseSingle (s : State) (st : Stn) : Option Stn :=
  if (s.station st).mode ≠ .out ∧ committed s st < (s.station st).cfg.capacity then some st else none

/-- R90: the destination of a pallet that does not continue in place. -/
def chooseDestination (s : State) (r : Record) : Option Stn :=
  if r.quality.bad then chooseSingle s (s.stb.rework.getD s.stb.load)
  else
    match currentStep s r with
    | some step => chooseFromGroup s step.group
    | none =>
      match s.stb.rework with
      | some rw =>
        if r.quality.offsetLimited || r.quality.misrouted then chooseSingle s rw else chooseSingle s s.stb.load
      | none => chooseSingle s s.stb.load

/-- R93: the station waits ROUTE; a wait that starts is one ROUTE_WAIT_START event. -/
def waitRoute (st : Stn) (keep : Bool) (s : State) : State :=
  let pr := s.proc st
  if pr.wait = .route then s.modProc st (fun p => { p with due := none })
  else
    lmnEvent .routeWaitStart (some st) none
      (s.modProc st (fun p =>
        { p with
          wait := .route
          waitingSince := if keep then some (pr.waitingSince.getD s.now) else some s.now
          due := none
          place := plainPlace }))

/-- R90: a choice in ROUTING: continue in place, a RELEASE to the destination found, or a wait. -/
def routeChoice (st : Stn) (granted keep : Bool) (s : State) : Eff :=
  let s := s.modProc st (fun p =>
    { p with pstate := .routing, settleEnd := none, settleSucc := none, settleTaken := false, replan := false })
  match processRecord s st with
  | none => only s
  | some r =>
    if isMachining s st && !r.quality.bad && inCurrentGroup s r st then evalOperation st granted s
    else
      match chooseDestination s r with
      | some d => makeDue st (.release (BitVec.ofNat 16 d.val)) .routing granted keep s
      | none => only (waitRoute st keep s)

/-- R93: one waiter of a re-evaluation, if it still waits ROUTE. -/
def routeTry (st : Stn) (s : State) : Eff :=
  if (s.proc st).wait = .route then routeChoice st false false s else only s

/-! ### Homing and unclamping (R89) -/

/-- R89: the unclamping is complete: the route cursor advances where the step has ended, and ROUTING follows. `granted` says
that the arbiter has given an entry to the station that comes here (R85, R119). -/
def unclampDone (st : Stn) (granted : Bool) (s : State) : Eff :=
  let s :=
    if (s.proc st).stepEnded then
      (match (s.proc st).pallet with
       | some t => modRecord t (fun r => { r with routeCursor := r.routeCursor + 1, opCursor := 0 }) s
       | none => s).modProc st (fun p => { p with stepEnded := false })
    else s
  (s.modProc st (fun p => p.stop .routing), [.route st granted false])

/-- R89: UNCLAMPING: a CLAMP with the empty pattern, unless both patterns are empty. -/
def enterUnclamp (st : Stn) (granted : Bool) (s : State) : Eff :=
  let s := s.modProc st (fun p => p.stop .unclamping)
  if samePattern (s.station st).sensed (some 0) && samePattern (s.station st).commanded (some 0) then unclampDone st granted s
  else makeDue st (.clamp 0) .unclamp granted false s

/-- R89: the three tests of HOMING, in order. -/
def evalHoming (st : Stn) (granted : Bool) (s : State) : Eff :=
  let s := s.modProc st (fun p => p.stop .homing)
  let stn := s.station st
  let off := match (s.proc st).pallet with
    | some t => offsetOf s t
    | none => 0
  let target := targetOf stn.cfg 0 off
  if stn.isAt target then enterUnclamp st granted s
  else if !samePattern stn.sensed stn.commanded then
    match stn.sensed with
    | some p => makeDue st (.clamp p) .homing granted false s
    | none => only (enterStalled st 3 s)
  else makeDue st (.move 0 target none) .homing granted false s

/-- R119: a station that waited ENTRY before an evaluation and waits ENTRY after it has not left the order: it keeps its
waiting-since and its place (log entry 34). -/
def stayInOrder (st : Stn) (old s : State) : State :=
  if (old.proc st).wait = .entry ∧ (s.proc st).wait = .entry then
    s.modProc st (fun p => { p with waitingSince := (old.proc st).waitingSince, place := (old.proc st).place })
  else s

/-- R87: the settle is over. A station whose command then waits stays SETTLING with its settle end (R82), which is taken once. -/
def settleOver (st : Stn) (s : State) : Eff :=
  match (s.proc st).settleSucc with
  | some .unclamp => enterUnclamp st false s
  | _ =>
    let r := evalOperation st false (s.modProc st (fun p => { p with settleTaken := true }))
    (stayInOrder st s r.1, r.2)

/-- R85: the process re-evaluates the point at which its command became due. -/
def reevaluate (st : Stn) (granted : Bool) (s : State) : Eff :=
  match (s.proc st).due with
  | none => only s
  | some .operation => evalOperation st granted s
  | some .homing => evalHoming st granted s
  | some .unclamp => enterUnclamp st granted s
  | some .routing =>
    routeChoice st granted false
      (s.modProc st (fun p => { p with wait := .nothing, waitingSince := none, due := none }))

/-! ### Take-up (R84) -/

/-- R84: a process starts on the station's occupant. With `keep` a wait stays as it was (R101). -/
def takeUp (st : Stn) (keep : Bool) (s : State) : Eff :=
  let occ := s.trackedOcc st
  let s := s.modProc st (fun p =>
    { p with
      pallet := occ
      stepEnded := if occ = p.pallet then p.stepEnded else false
      settleEnd := none, settleSucc := none, settleTaken := false, replan := false
      wait := if keep then p.wait else .nothing
      waitingSince := if keep then p.waitingSince else none
      due := none })
  if isMachining s st && !(s.station st).referenced then only (enterStalled st 2 s)
  else
    match (s.station st).occupant with
    | .nobody => only (s.modProc st (fun p => p.stop .empty))
    | .unmanaged _ => only (enterBlocked st s)
    | .tracked t =>
      match s.record? t with
      | none => only (s.modProc st (fun p => p.stop .empty))
      | some r =>
        if r.rstate ≠ .present st then only (s.modProc st (fun p => p.stop .releasing))
        else if isMachining s st then
          if incomplete s r && !r.quality.bad && !(s.proc st).stepEnded && inCurrentGroup s r st then
            (s.modProc st (fun p => p.stop .arrived), [.evalOp st false])
          else (s, [.homing st false])
        else if st = s.stb.load ∧ incomplete s r ∧ r.quality.bad = false then (s, [.route st false keep])
        else only (s.modProc st (fun p => p.stop .arrived))

/-- R84: an arrival handed to the dispatcher. -/
def onArrival (st : Stn) (s : State) : Eff :=
  if (s.station st).mode = .auto ∧ (s.proc st).pstate = .empty then (s, [.takeUp st false]) else only s

/-- R101: a dispatch-origin RELEASE of the station that has not been transmitted. -/
def ownUntransmitted (s : State) (st : Stn) : Option EntryNo :=
  (entriesWhere s (fun en => en.station == st && en.origin == .dispatch && untransmittedRelease en)).head?

/-- R101, R99: an admission or restart at the load station. A RELEASE of its own that has not been transmitted leaves first;
since that can bring the station's pending mode (R75), the hand-over is then judged again on the mode it left. -/
def onAdmission (st : Stn) (s : State) : Eff :=
  let pr := s.proc st
  if (s.station st).mode = .auto then
    let keep := pr.pallet.isSome && pr.pallet == s.trackedOcc st && (pr.wait == .route || pr.wait == .entry)
    match ownUntransmitted s st with
    | some e => (s, [.free e .cancelled, .admitted st])
    | none => (s, [.takeUp st keep])
  else if pr.pstate = .blocked then only (s.modProc st (fun p => p.giveUp .empty))
  else only s

/-! ### Outcomes (R88, R94, R95, R98) -/

/-- R95: a command of the process has failed. -/
def failProcess (st : Stn) (s : State) : Eff :=
  if isMachining s st then only (enterStalled st 1 s)
  else
    let s := s.modProc st (fun p => p.stop .arrived)
    only (notice .stalled (stnByte st) ((s.proc st).pallet.getD 0) 1 s)

/-- The process state in which the process waits for the outcome of a command of this kind. -/
def awaits (ps : PState) (k : CmdKind) : Bool :=
  match k with
  | .clamp => ps == .clamping || ps == .homing || ps == .unclamping
  | .move => ps == .moving || ps == .homing
  | .cycle => ps == .machining
  | .release => ps == .releasing

/-- R88: a cycle result taken by its process. -/
def onCycle (st : Stn) (t : Tag) (op : Nat) (r : CycleResult) (s : State) : Eff :=
  let x := recordCycle st t op r s
  if x.2 then (x.1, [.homing st false]) else (x.1, [.evalOp st false])

/-- The operation number of a CYCLE entry. -/
def cycleOp (en : Entry) : Nat :=
  match en.params with
  | .cycle _ op _ => op.toNat
  | _ => 0

/-- R86 to R89, R94, R95, R98: the dispatcher takes the outcome of an entry it issued. A process that has a command due has
no entry of its own, so an outcome that comes then is that of a process given up before it, and moves nothing (R85 case 2,
R100). -/
def onOutcome (en : Entry) (how : Ending) (s : State) : Eff :=
  let st := en.station
  let pr := s.proc st
  if pr.pallet ≠ some en.pallet ∨ pr.pstate = .blocked then only s
  else if pr.pstate = .stalled then
    match paramsKind en.params, how with
    | .cycle, .done (some r) _ => only (recordCycle st en.pallet (cycleOp en) r s).1
    | _, _ => only s
  else if pr.due.isSome || !awaits pr.pstate (paramsKind en.params) then only s
  else
    match how with
    | .cancelled => only s
    | .done r _ =>
      (match paramsKind en.params with
       | .clamp =>
         if pr.pstate = .clamping then startSettle st .operation s
         else if pr.pstate = .homing then (s, [.homing st false])
         else unclampDone st false s
       | .move => if pr.pstate = .moving then startSettle st .operation s else startSettle st .unclamp s
       | .cycle => onCycle st en.pallet (cycleOp en) (r.getD .ok) s
       | .release => only (s.modProc st (fun p => p.giveUp .empty)))
    | .timeout =>
      (match paramsKind en.params with
       | .cycle => onCycle st en.pallet (cycleOp en) .aborted s
       | _ => failProcess st s)
    | _ => failProcess st s

/-- R85 case 2, R97: an entry of the station has left the table: a re-plan that waited for it, or a command that was due. -/
def onEntryLeft (st : Stn) (s : State) : Eff :=
  let pr := s.proc st
  if hasEntry s st then only s
  else if pr.replan then (s, [.takeUp st false])
  else if pr.due.isSome ∧ pr.wait = .nothing then (s, [.reeval st false])
  else only s

/-! ### Modes (R76, R83) -/

/-- R76, R83, R84: a mode is applied. The station's own take-up comes before the re-evaluation of the route waiters (log entry
24). -/
def applyMode (st : Stn) (m : Mode) (s : State) : Eff :=
  let old := (s.station st).mode
  let blocked := (s.proc st).pstate = .blocked
  let s := (s.modStn st (fun r => { r with mode := m })).modEv (fun e => { e with passDue := true })
  if m = .auto then (s, (if blocked then [] else [.takeUp st false]) ++ [.reroute])
  else if old = .auto then
    (s.modProc st (fun p => p.giveUp (if blocked then .blocked else .empty)), [.reroute])
  else (s, [.reroute])

/-! ### Holds that end (R77, R87, R97, R114, R121) -/

/-- R114: a frozen deadline restored. -/
def restoreEntry (now : Time) (en : Entry) : Entry :=
  match en.remaining with
  | some r => { en with deadline := some (after now r), remaining := none }
  | none => en

/-- R114 for the entries of a set of stations. -/
def restoreSlot (v : StnSet) (now : Time) (o : Option Entry) : Option Entry :=
  o.map (fun en => if v.has en.station then restoreEntry now en else en)

/-- R121: the READY entries of the stations, in ascending order of acceptance time, the lower entry number first among equal
times (log entry 28). -/
def readyOf (s : State) (v : StnSet) : List EntryNo :=
  sortBy (acceptedBefore s) (entriesWhere s (fun en => en.estate == .ready && v.has en.station))

/-- R77: deadlines restored and READY entries promoted, then the dispatcher told, station by station. -/
def holdEnded (v : StnSet) (byResume : Bool) (s : State) : Eff :=
  let s := { s with mrt := { s.mrt with entries := s.mrt.entries.map (restoreSlot v s.now) } }
  (s, (readyOf s v).map .promote ++ v.members.map (fun st => .holdEndedIdx st byResume))

/-- R87, R97: a settle end is set again in full, and a command that waits already goes on waiting (log entry 34); a RESUME ends
STALLED, or ARRIVED after a failed RELEASE. -/
def holdEndedIdx (st : Stn) (byResume : Bool) (s : State) : Eff :=
  let pr := s.proc st
  let auto := (s.station st).mode = .auto
  if pr.pstate = .settling then runSettle st s
  else if byResume ∧ auto ∧
      ((pr.pstate = .stalled ∧ (s.station st).referenced = true) ∨ (pr.pstate = .arrived ∧ isMachining s st = false)) then
    if hasEntry s st then only (s.modProc st (fun p => { p with replan := true })) else (s, [.takeUp st false])
  else only s

/-- R94, R99, R100: what a GONE does to the process, after the PTB has cleared the occupant. -/
def onGone (st : Stn) (s : State) : State :=
  let pr := s.proc st
  let auto := (s.station st).mode == .auto
  if pr.pstate = .blocked then
    let s := s.modProc st (fun p => p.giveUp .empty)
    if auto && isMachining s st && !(s.station st).referenced then enterStalled st 2 s else s
  else if !auto then s
  else
    match pr.pstate with
    | .stalled => s.modProc st (fun p => { p with pallet := none, stepEnded := false })
    | .empty => s
    | _ => s.modProc st (fun p => p.giveUp .empty)

end Sys2Proof.Machine
end

