-- ==== Sys2Proof/Machine/Pallets.lean ====
section
/-! DEFINITION. Pallet tracking (chapter 2): approach lists and RELEASE transmissions (R28 to R32), arrivals (R33 to R36),
the load station (R37 to R41), departures (R42), freeing a record (R44) and the retirement of a bank (R59). -/

namespace Sys2Proof.Machine

/-- R28: a tag leaves a station's approach list; those behind it keep their order. -/
def leaveList (st : Stn) (t : Tag) (s : State) : State := s.modApproach st (fun l => l.erase t)

/-- R28: leaving a list hands the dispatcher a re-evaluation. -/
def shorter (s : State) (st : Stn) (t : Tag) : List Task := if (s.ptb.approach.get st).contains t then [.reroute] else []

/-- The station's occupant is set. -/
def setOccupant (st : Stn) (o : Occupant) (s : State) : State := s.modStn st (fun r => { r with occupant := o })

/-- The record becomes PRESENT at `st`, its tracked occupant, seen now; one ARRIVAL event (R26, R33). -/
def becomePresent (st : Stn) (t : Tag) (s : State) : State :=
  lmnEvent .arrival (some st) none
    (setOccupant st (.tracked t) (modRecord t (fun r => { r with rstate := .present st, lastSeen := s.now }) s))

/-! ### RELEASE transmission (R29, R30, R32) -/

/-- The list a record stands in, if it is in TRANSIT. -/
def listOf (r : Record) : Option Stn :=
  match r.rstate with
  | .transit d _ => some d
  | _ => none

/-- Take a record out of the list it stands in. -/
def leaveOld (r : Record) (s : State) : State :=
  match listOf r with
  | some d => leaveList d r.tag s
  | none => s

/-- R29, R30: the record of tag `t` joins the destination's list, or becomes LOST where it cannot join. It leaves its old list
before the room is judged, so a redirection to the same destination always finds room (log entry 41). -/
def sendToward (t : Tag) (r : Record) (dest : Word) (s : State) : Eff :=
  let old := match listOf r with
    | some d => shorter s d t
    | none => []
  let s := leaveOld r s
  let lost : Eff :=
    (occur fPalletLost (destStn? dest) t
      (modRecord t (fun r => { r with rstate := .lost (destStn? dest) }) s), [.reroute])
  match destStn? dest with
  | none => lost
  | some d =>
    if (s.ptb.approach.get d).length < Config.approachMax then
      ((modRecord t (fun r =>
          { r with
            rstate := .transit d (after s.now (s.station d).cfg.transitLimit)
            lastSeen := s.now }) s).modApproach d (fun l => l ++ [t]), old)
    else lost

/-- R29: the record that a RELEASE transmitted for station `st` acts on. -/
def releasedTag (s : State) (st : Stn) : Option (Tag × Record) :=
  (s.trackedOcc st).bind (fun t =>
    (s.record? t).bind (fun r =>
      match r.rstate with
      | .present l => if l = st then some (t, r) else none
      | _ => some (t, r)))

/-- R29: a RELEASE is transmitted for station `st`. One whose pallet joins no approach list is handed to the dispatcher
(R93). -/
def releaseTransmitted (st : Stn) (dest : Word) (s : State) : Eff :=
  match releasedTag s st with
  | some (t, r) => sendToward t r dest s
  | none => (s, [.reroute])

/-- The record is TRANSIT or LOST with this destination (R32). A destination that names no station left the record LOST with
destination none (R30), which counts as the destination of that RELEASE (log entry 45). -/
def headedFor (r : Record) (dest : Word) : Bool :=
  match r.rstate with
  | .transit d _ => destStn? dest == some d
  | .lost d => d == destStn? dest
  | .present _ => false

/-- R32: a RELEASE failed after its transmission: the record goes back to the station where the conditions hold. -/
def releaseFailed (en : Entry) (s : State) : Eff :=
  match en.params, en.released with
  | .release dest, some t =>
    (match s.record? t with
     | some r =>
       if (s.station en.station).occupant = .tracked t ∧ headedFor r dest = true then
         (modRecord t (fun r => { r with rstate := .present en.station }) (leaveOld r s),
          match listOf r with
          | some d => shorter s d t
          | none => [])
       else only s
     | none => only s)
  | _, _ => only s

/-- R31: the transit deadline of a record has passed. -/
def transitExpired (r : Record) (d : Stn) (s : State) : Eff :=
  let tasks := shorter s d r.tag
  let s := leaveList d r.tag s
  (occur fPalletLost (some d) r.tag (modRecord r.tag (fun q => { q with rstate := .lost (some d) }) s), tasks)

/-! ### Arrivals (R33 to R36) -/

/-- R34, Occupied: the TAG is ignored, the station blocked, and the fault raised. -/
def tagOccupied (st : Stn) (t : Tag) (s : State) : State :=
  occur (if (s.record? t).isSome then fDuplicateTag else fStranger) (some st) t (enterBlocked st s)

/-- R34, Stranger: the tag becomes the unmanaged occupant. -/
def tagStranger (st : Stn) (t : Tag) (s : State) : State :=
  occur fStranger (some st) t (enterBlocked st (setOccupant st (.unmanaged t) s))

/-- R34, Duplicate. -/
def tagDuplicate (st : Stn) (t : Tag) (s : State) : State :=
  occur fDuplicateTag (some st) t (enterBlocked st (setOccupant st (.unmanaged t) s))

/-- R34, Re-read of the tracked occupant. One that brings a LOST record back is counted as an ARRIVAL (log entry 42). -/
def tagReRead (st : Stn) (t : Tag) (r : Record) (s : State) : Eff :=
  match r.rstate with
  | .present l => if l = st then only (modRecord t (fun q => { q with lastSeen := s.now }) s) else only s
  | .transit _ _ => only s
  | .lost _ => (notice .recovered (stnByte st) t 0 (becomePresent st t s), [.arrived st])

/-- R35: how many tags of the list were ahead of `t`. -/
def aheadOf (l : List Tag) (t : Tag) : Nat := (l.takeWhile (fun x => x != t)).length

/-- R35 and R38: the record arrives as intended at `st`, with NOTICE OVERTAKE or RECOVERED where due. -/
def arriveIntended (st : Stn) (t : Tag) (r : Record) (s : State) : Eff :=
  match r.rstate with
  | .transit _ _ =>
    let ahead := aheadOf (s.ptb.approach.get st) t
    let tasks := shorter s st t
    let s := becomePresent st t (leaveList st t s)
    (if ahead = 0 then s else notice .overtake (stnByte st) t ahead s, tasks)
  | _ => only (notice .recovered (stnByte st) t 0 (becomePresent st t s))

/-- R36 and R38: the record arrives at the wrong station: PRESENT there, marked and raised. -/
def arriveMisrouted (st : Stn) (t : Tag) (r : Record) (s : State) : Eff :=
  let tasks := match listOf r with
    | some d => shorter s d t
    | none => []
  let s := becomePresent st t (leaveOld r s)
  let s := modRecord t (fun q => { q with quality := { q.quality with misrouted := true } }) s
  (occur fMisrouted (some st) t s, tasks)

/-- The record comes as intended to `st`: in TRANSIT toward it, or LOST with it as last destination (R35). -/
def intendedFor (r : Record) (st : Stn) : Bool :=
  match r.rstate with
  | .transit d _ => d == st
  | .lost d => d == some st
  | .present _ => false

/-- R33 to R36: a TAG applied at a station other than the load station. -/
def tagElsewhere (st : Stn) (t : Tag) (s : State) : Eff :=
  let occ := (s.station st).occupant
  if occ = .tracked t then
    (match s.record? t with
     | some r => tagReRead st t r s
     | none => only s)
  else if occ = .unmanaged t then only s
  else if occ ≠ .nobody then only (tagOccupied st t s)
  else
    match (if t = 0 then none else s.record? t) with
    | none => only (tagStranger st t s)
    | some r =>
      match r.rstate with
      | .present _ => only (tagDuplicate st t s)
      | _ =>
        if intendedFor r st then
          let x := arriveIntended st t r s
          (x.1, [.arrived st] ++ x.2)
        else
          let x := arriveMisrouted st t r s
          if inCurrentGroup s r st then (x.1, [.arrived st] ++ x.2)
          else (enterBlocked st x.1, x.2)

/-! ### The load station (R37 to R41) -/

/-- R39: the ACTIVE bank's generation, where its recipe for the variant has route length 1 or more. -/
def definedRecipe (s : State) (v : Fin 8) : Option Nat :=
  match activeBank s with
  | none => none
  | some b =>
    let bank := s.rcs.banks.get b
    if 0 < (bank.recipes.get v).len then bank.generation else none

/-- R27: the offset limited into ±offset_max, and whether it was limited. -/
def limitOffset (s : State) (raw : Int) : Int × Bool :=
  let m : Int := s.ptb.offsetMax
  if m < raw then (m, true) else if raw < -m then (-m, true) else (raw, false)

/-- R39: the field values an admission or restart gives the record. -/
def freshRecord (s : State) (st : Stn) (t : Tag) (v : Fin 8) (raw : Int) (gen : Nat) : Record :=
  let o := limitOffset s raw
  { tag := t, variant := v, generation := gen, offset := o.1, rstate := .present st, routeCursor := 0, opCursor := 0,
    quality := { offsetLimited := o.2, rejected := false, aborted := false, misrouted := false },
    lastSeen := s.now }

/-- R40: the recipe of the variant is not defined: the load station is blocked. -/
def variantUndefined (st : Stn) (t : Tag) (s : State) : State :=
  occur fVariantUndefined (some st) t
    (enterBlocked st (if (s.record? t).isSome then s else setOccupant st (.unmanaged t) s))

/-- R39, R24: admission of a new record into the lowest-numbered free slot. -/
def admitPallet (st : Stn) (i : Slot) (t : Tag) (v : Fin 8) (raw : Int) (gen : Nat) (s : State) : Eff :=
  (lmnEvent .arrival (some st) none
    (setOccupant st (.tracked t) (s.setSlot i (some (freshRecord s st t v raw gen)))), [.admitted st])

/-- R39: a journey restart in the record's own slot; PALLET_INCOMPLETE where the old route was incomplete and the record
was not PRESENT here before. -/
def restart (st : Stn) (i : Slot) (r : Record) (wasHere : Bool) (v : Fin 8) (raw : Int) (gen : Nat) (s : State) : Eff :=
  let tell := incomplete s r && !wasHere
  let s1 := lmnEvent .arrival (some st) none
    (setOccupant st (.tracked r.tag) (s.setSlot i (some (freshRecord s st r.tag v raw gen))))
  (if tell then notice .palletIncomplete (stnByte st) r.tag r.routeCursor s1 else s1, [.admitted st, .retire r.tag])

/-- R39 to R41: the admission part. `wasHere` says that the record was PRESENT at the load station before this TAG. -/
def admissionPart (st : Stn) (t : Tag) (v : Fin 8) (raw : Int) (wasHere : Bool) (s : State) : Eff :=
  let s := { s with ptb := { s.ptb with pendingAdm := none } }
  match slotOf s t with
  | some i =>
    (match s.ptb.slots.get i, definedRecipe s v with
     | some r, some gen => restart st i r wasHere v raw gen s
     | _, _ => only (variantUndefined st t s))
  | none =>
    match freeSlot s with
    | none =>
      only (occur fPtbFull (some st) t
        (enterBlocked st (setOccupant st (.unmanaged t)
          { s with ptb := { s.ptb with pendingAdm := some { tag := t, variant := v, raw := raw } } })))
    | some i =>
      match definedRecipe s v with
      | some gen => admitPallet st i t v raw gen s
      | none => only (variantUndefined st t s)

/-- R38: the arrival part for the record of `t`, if it has one. A TAG for a record that is PRESENT at the load station is a
re-read that is applied: its last-seen time becomes now (R26). -/
def arrivalPart (st : Stn) (t : Tag) (s : State) : Eff :=
  match s.record? t with
  | none => only s
  | some r =>
    match r.rstate with
    | .present l => only (if l = st then modRecord t (fun q => { q with lastSeen := s.now }) s else s)
    | _ => if intendedFor r st then arriveIntended st t r s else arriveMisrouted st t r s

/-- The record of `t` is PRESENT at a station. -/
def presentAt (s : State) (t : Tag) (st : Stn) : Bool :=
  match s.record? t with
  | some r => r.rstate == .present st
  | none => false

/-- The record of `t` is PRESENT at another station. -/
def presentElsewhere (s : State) (t : Tag) (st : Stn) : Bool :=
  match s.record? t with
  | some r => (match r.rstate with
    | .present l => l != st
    | _ => false)
  | none => false

/-- The record of `t` is in TRANSIT. -/
def inTransit (s : State) (t : Tag) : Bool :=
  match s.record? t with
  | some r => (listOf r).isSome
  | none => false

/-- R37: a TAG applied at the load station. -/
def tagAtLoad (st : Stn) (t : Tag) (v : Fin 8) (raw : Int) (s : State) : Eff :=
  let occ := (s.station st).occupant
  if occ = .tracked t ∧ inTransit s t = true then only s
  else if occ ≠ .nobody ∧ occ ≠ .tracked t ∧ occ ≠ .unmanaged t then only (tagOccupied st t s)
  else if t = 0 then only (tagStranger st t s)
  else if presentElsewhere s t st then only (tagDuplicate st t s)
  else
    let wasHere := presentAt s t st
    let x := arrivalPart st t s
    let y := admissionPart st t v raw wasHere x.1
    (y.1, (y.2.filter (fun k => match k with
        | .retire _ => false
        | _ => true)) ++ x.2 ++ (y.2.filter (fun k => match k with
        | .retire _ => true
        | _ => false)))

/-- R41: a slot is free: the pending admission, if any, is evaluated again. -/
def retryAdmission (s : State) : Eff :=
  match s.ptb.pendingAdm with
  | none => only s
  | some a => admissionPart s.stb.load a.tag a.variant a.raw false s

/-! ### Departures (R42) -/

/-- R42: a GONE clears the occupant; the record of a tracked one is marked. -/
def goneOccupant (st : Stn) (s : State) : State :=
  let occ := (s.station st).occupant
  let s := setOccupant st .nobody
    (if st = s.stb.load then { s with ptb := { s.ptb with pendingAdm := none } } else s)
  match occ with
  | .tracked t =>
    (match s.record? t with
     | some r =>
       (match r.rstate with
        | .transit _ _ => modRecord t (fun q => { q with lastSeen := s.now }) s
        | .present l =>
          if l = st then
            notice .goneUnexpected (stnByte st) t 0
              (modRecord t (fun q => { q with rstate := .lost none, lastSeen := s.now }) s)
          else s
        | .lost _ => s)
     | none => s)
  | _ => s

/-! ### Retirement of a bank (R59) -/

/-- R59: a RETIRING bank whose carrier count is 0 becomes EMPTY, its check value dropped. -/
def retireBank (t : Tag) (s : State) : State :=
  match retiringBank s with
  | none => s
  | some b =>
    if carrierCount s b = 0 then
      notice .bankRetired 255 t b.val
        { s with
          rcs := { s.rcs with
            banks := upd s.rcs.banks b (fun k => { k with bstate := .empty, generation := none }) }
          fcu := { s.fcu with checks := { s.fcu.checks with retiring := none } } }
    else s

/-! ### Freeing a record (R44) -/

/-- R44: the record's slot is freed and every station that has the tag as tracked occupant has it as an unmanaged tag. -/
def freeRecord (i : Slot) (t : Tag) (s : State) : State :=
  let s := s.setSlot i none
  { s with
    stb := { s.stb with
      stn := s.stb.stn.map (fun r => if r.occupant = .tracked t then { r with occupant := .unmanaged t } else r) } }

end Sys2Proof.Machine
end

