-- ==== Sys2Proof/Machine/Accept.lean ====
section
/-! DEFINITION. What the taking of a controller's request does: CLAMP, CYCLE and RELEASE (R9, R136), ACTION INDEX (R102), the
acceptance of a controller entry (R117), and the free-entry arbiter, which can take a request that waits in the DIQ
(R119). -/

namespace Sys2Proof.Machine

/-- A message placed in the DEQ unchanged (R7). -/
def forward (m : Msg) (s : State) : State := pushDeq m none s

/-- R117: the parameters of a controller entry made from a station message. -/
def paramsOf (m : Msg) : Params :=
  if m.kind = kClamp then .clamp (argPattern m)
  else if m.kind = kCycle then .cycle m.argA m.argB none
  else .release m.argA

/-- R117: whether a station's entries make a new entry active, PENDING or refuse it. -/
inductive Room where
  | first
  | behind
  | full
deriving DecidableEq, Repr

def roomAt (s : State) (st : Stn) : Room :=
  if (activeEntry s st).isNone then .first else if (pendingEntry s st).isNone then .behind else .full

/-- R117: a controller entry in free entry `e`: alone it is READY and promoted, behind an active entry it is PENDING. -/
def createController (st : Stn) (e : EntryNo) (p : Params) (pallet : Tag) (rx : Option Msg) (s : State) : Eff :=
  match roomAt s st with
  | .first => (insertEntry e (newEntry s st p .controller pallet rx .ready) s, [.promote e])
  | _ => only (insertEntry e (newEntry s st p .controller pallet rx .pending) s)

/-- R117 with R6: a CLAMP, CYCLE or RELEASE accepted for a MANUAL station, or refused BUSY. -/
def acceptCommand (st : Stn) (m : Msg) (s : State) : Eff :=
  if roomAt s st = .full then only (refuse m .busy 0 s)
  else
    match freeEntry s with
    | some e => createController st e (paramsOf m) m.pallet (some m) s
    | none => only (refuse m .busy 0 s)

/-- R7 rows 3 and 5, R8, R9, R136: a CLAMP, CYCLE or RELEASE taken from the DIQ. -/
def requestBody (m : Msg) (s : State) : Eff :=
  if m.dst = s.mga.node then only (refuse m .notAllowed 0 s)
  else
    match checkRequest s m with
    | .error r => only (refuse m r 0 s)
    | .ok st =>
      match (s.station st).mode with
      | .auto => only (refuse m .wrongMode 0 s)
      | .manual => acceptCommand st m s
      | .out =>
        match (judgedMsg? m).bind (hardCheck s st) with
        | some n => only (refuse m .hardInterlock n s)
        | none => only (forward m s)

/-- R102: ACTION INDEX taken from the DIQ. -/
def indexBody (m : Msg) (s : State) : Eff :=
  if m.src ≠ s.mga.controller then only (answerAction m .access 0 s)
  else
    match checkIndex s m with
    | .error r => only (answerAction m r 0 s)
    | .ok (st, k) =>
      let t := occTarget s st k
      if indexDone s st k then only (answerAction m .done t s)
      else if roomAt s st = .full then only (answerAction m .busy 0 s)
      else
        match freeEntry s with
        | some e => createController st e (.move k t none) (occPallet s st) none (answerAction m .accepted t s)
        | none => only (answerAction m .busy 0 s)

/-- R119: the DIQ message comes before a station of the same time, and before one that was put behind it. -/
def diqFirst (s : State) (d : DiqItem) (st : Stn) : Bool :=
  !earlier ((s.proc st).waitingSince.getD 0) d.arrival || (s.proc st).place.behindDiq == some d.arrival

/-- R119: an entry is given to a station: it leaves the order and re-evaluates (R85); what is left over goes on. -/
def grantStation (st : Stn) (s : State) : Eff :=
  (s.modProc st (fun p => { p with wait := .nothing, waitingSince := none, place := plainPlace }), [.reeval st true, .arbitrate])

/-- R119: an entry is given to the DIQ's next message, which is taken when the other conditions of R6 hold. -/
def grantDiq (d : DiqItem) (s : State) : Eff :=
  let s1 := s.modEv (fun v => { v with diqClaim := false })
  if roomFor s d.msg then
    let r := if d.msg.kind = kAction then indexBody d.msg (removeDiq d s1) else requestBody d.msg (removeDiq d s1)
    (r.1, r.2 ++ [.arbitrate])
  else (s1, [.arbitrate])

/-- R119: the free-entry arbiter gives a free entry to the first waiter. -/
def arbitrate (s : State) : Eff :=
  match freeEntry s with
  | none => only s
  | some _ =>
    match diqWaiter s, entryWaiters s with
    | none, [] => only (s.modEv (fun v => { v with diqClaim := false }))
    | none, st :: _ => grantStation st s
    | some d, [] => grantDiq d s
    | some d, st :: _ => if diqFirst s d st then grantDiq d s else grantStation st s

end Sys2Proof.Machine
end

