-- ==== Sys2Proof/Machine/Cascade.lean ====
section
/-! DEFINITION. Running one event to its end: what each task does, the tasks in their order, and the outcome. -/

namespace Sys2Proof.Machine

/-- R143: the pass over the deferred list, oldest first: each item that stands in it when the pass begins. That an item which joins
the list during the pass is not judged in it is the model's choice (log entry 47). -/
def deferPass (s : State) : Eff :=
  if s.ev.passDue then
    (s.modEv (fun v => { v with passDue := false }), s.ilk.deferred.map (fun it => .judge it))
  else only s

/-- The end of an event: the notices of counters that wrapped (R176), and the model's marks cleared. -/
def closeEvent (s : State) : State :=
  let s := flushMonitor 9 s
  { s with ev := clearWithin }

/-- R93: the re-evaluation of the stations waiting ROUTE, in their order. -/
def reroute (s : State) : Eff := (s, (routeWaiters s).map .routeTry)

/-- What one task does. -/
def perform (t : Task) (s : State) : Eff :=
  match t with
  | .promote e => promote e s
  | .free e how => freeEntryStep e how s
  | .releaseFailed en => releaseFailed en s
  | .outcome en how => onOutcome en how s
  | .report en how => reportEnding en how s
  | .entryLeft st => onEntryLeft st s
  | .successor st => promoteSuccessor st s
  | .lastEntry st => afterLastEntry st s
  | .arbitrate => arbitrate s
  | .reroute => reroute s
  | .routeTry st => routeTry st s
  | .applyMode st m => applyMode st m s
  | .takeUp st keep => takeUp st keep s
  | .evalOp st granted => evalOperation st granted s
  | .homing st granted => evalHoming st granted s
  | .unclamp st granted => enterUnclamp st granted s
  | .route st granted keep => routeChoice st granted keep s
  | .reeval st granted => reevaluate st granted s
  | .settleOver st => settleOver st s
  | .holdEnded v byResume => holdEnded v byResume s
  | .holdEndedIdx st byResume => holdEndedIdx st byResume s
  | .arrived st => onArrival st s
  | .admitted st => onAdmission st s
  | .retryAdmission => retryAdmission s
  | .retire t => only (retireBank t s)
  | .judge it => judgeItem it s
  | .note ev station pallet detail => only (notice ev station pallet detail s)
  | .flush => only (flushMonitor 9 s)
  | .deferPass => deferPass s
  | .close => only (closeEvent s)

/-- The tasks in their order, those of a step before the rest; none when the bound is met first. -/
def runTasks : Nat → List Task → State → Option State
  | _, [], s => some s
  | 0, _ :: _, _ => none
  | n + 1, t :: ts, s =>
    let r := perform t s
    runTasks n (r.2 ++ ts) r.1

/-- An event: its own effect, what follows at once, the pass over the deferred list where one is due (R143), and the end
of the event. -/
def conclude (r : Eff) : Host.Outcome State Fault Refusal :=
  match runTasks Config.cascadeBound (r.2 ++ [.deferPass, .close]) r.1 with
  | some s => .next s
  | none => .fault .cascadeUnfinished

end Sys2Proof.Machine
end

