-- ==== Sys2Proof/Machine/Tables.lean ====
section
/-! DEFINITION. The words of tables 0 to 9 as a TBL_READ sees them (R52, R180, R181, section 12.3). `none` is an address
that does not exist (BAD_ADDR). -/

namespace Sys2Proof.Machine

/-- R180: a station word that holds none. -/
def stnWord : Option Stn → Nat
  | some st => st.val
  | none => 255

/-- R180: a clamp pattern, 0x10 for UNKNOWN. -/
def patternWord : Option Pattern → Nat
  | some p => p.toNat
  | none => 0x10

/-- A signed value in two's complement of 16 bits. -/
def word16 (i : Int) : Nat := (BitVec.ofInt 16 i).toNat

/-- A signed value in two's complement of 32 bits. -/
def wide32 (i : Int) : Nat := (BitVec.ofInt 32 i).toNat

/-- A word that is present or absent in the current state. -/
def orAbsent : Option Nat → Nat
  | some n => n
  | none => absentWord

/-- R180: a check value or other field of table 0 that can be absent. -/
def checkWord : Option Word → Nat
  | some w => w.toNat
  | none => absentWord

/-- Table 0, entry 0. The carrier count of a STAGED bank, which R58 gives no count, reads 0, as an EMPTY one's does (R62; log
entry 13). -/
def partWord (s : State) : Nat → Option Nat
  | 0 => some s.mga.node.toNat
  | 1 => some s.mga.controller.toNat
  | 2 => some s.stb.load.val
  | 3 => some (stnWord s.stb.rework)
  | 4 => some s.ptb.offsetMax
  | 5 => some (causeCode s.mga.cause)
  | 6 => some (bitN s.fcu.restricted)
  | 7 => some (hiWord s.now.toNat)
  | 8 => some (loWord s.now.toNat)
  | 9 => some (s.mga.summary &&& s.mga.attnMask).toNat
  | 10 => some s.mga.noticeMask.toNat
  | 11 => some s.mga.attnMask.toNat
  | 12 => some (bitN s.chi.a.up + 2 * bitN s.chi.b.up)
  | 13 => some (bankCode (s.rcs.banks.get 0).bstate + 4 * bankCode (s.rcs.banks.get 1).bstate + 16 * (stagingBank s).val)
  | 14 => some (orAbsent (s.rcs.banks.get 0).generation)
  | 15 => some (orAbsent (s.rcs.banks.get 1).generation)
  | 16 => some s.rcs.genCounter
  | 17 => some (carrierCount s 0)
  | 18 => some (carrierCount s 1)
  | 19 => some (bitN s.ilk.frozen)
  | 20 => some s.fcu.mismatch.toNat
  | 21 => some (checkWord s.fcu.checks.active)
  | 22 => some (checkWord s.fcu.checks.retiring)
  | 23 => some s.fcu.checks.interlock.toNat
  | 24 => some s.fcu.checks.geometry.toNat
  | 25 => some s.fcu.checks.reaction.toNat
  | _ => none

/-- Table 0, entries 1 and 2. -/
def zoneWord (z : ZoneState) : Nat → Option Nat
  | 0 => some (bitN z.trapped)
  | 1 => some (causeBits z.causes)
  | 2 => some (bitN z.raw)
  | 3 => some (bitN z.filtered)
  | 4 => some z.assertFilter
  | 5 => some z.releaseFilter
  | 6 => some (bitN z.exitAuto)
  | _ => none

/-- The tag of an occupant, 0 for none. -/
def Occupant.tag : Occupant → Nat
  | .nobody => 0
  | .tracked t => t.toNat
  | .unmanaged t => t.toNat

def Occupant.code : Occupant → Nat
  | .nobody => 0
  | .tracked _ => 1
  | .unmanaged _ => 2

/-- Table 1, entry 16 + s: the live part of station s with its process context (R82). -/
def liveWord (s : State) (st : Stn) (w : Nat) : Option Nat :=
  let r := s.station st
  let p := s.proc st
  match w with
  | 0 => some (modeCode r.mode)
  | 1 => some (match r.pendingMode with
    | some m => modeCode m
    | none => 3)
  | 2 => some (bitN r.referenced)
  | 3 => some r.c.toNat
  | 4 => some (hiWord (wide32 r.w))
  | 5 => some (loWord (wide32 r.w))
  | 6 => some (toolCode r.tool)
  | 7 => some (patternWord r.commanded)
  | 8 => some (patternWord r.sensed)
  | 9 => some r.occupant.code
  | 10 => some r.occupant.tag
  | 11 => some (holdBits r.holds)
  | 12 => some (bitN r.held)
  | 13 => some (r.stopCauses.toNat / 65536)
  | 14 => some (r.stopCauses.toNat % 65536)
  | 15 => some (pstateCode p.pstate)
  | 16 => some (match p.pallet with
    | some t => t.toNat
    | none => 0)
  | 17 => some (bitN p.stepEnded)
  | 18 => some (waitCode p.wait)
  | 19 => some (orAbsent (p.settleSucc.map succCode))
  | 20 => some (timeHi p.settleEnd)
  | 21 => some (timeLo p.settleEnd)
  | 22 => some (timeHi p.waitingSince)
  | 23 => some (timeLo p.waitingSince)
  | 24 => some (bitN (s.chi.sent.has st))
  | 25 => some (bitN (s.chi.owed.has st))
  | _ => none

/-- R52: what a bank reads as: its own contents, or while it is EMPTY the ACTIVE bank's or the cleared ones. -/
def shownRecipes (s : State) (b : Fin 2) : Vector Recipe 8 :=
  let bank := s.rcs.banks.get b
  if bank.bstate = .empty then
    match activeBank s with
    | some a => (s.rcs.banks.get a).recipes
    | none => clearedRecipes
  else bank.recipes

/-- Table 3: the ACTIVE bank's contents; the cleared ones stand in while no bank is ACTIVE, for the address alone. -/
def activeRecipes (s : State) : Vector Recipe 8 :=
  match activeBank s with
  | some a => (s.rcs.banks.get a).recipes
  | none => clearedRecipes

/-- Table 5: the words of a fault kind. -/
def faultWord (r : FaultRec) (c : Reaction) : Nat → Option Nat
  | 0 => some (levelCode c.level)
  | 1 => some (hiWord c.escalation)
  | 2 => some (loWord c.escalation)
  | 3 => some (bitN r.pending)
  | 4 => some r.count
  | 5 => some (stnWord r.firstStn)
  | 6 => some r.firstPallet.toNat
  | 7 => some (stnWord r.lastStn)
  | 8 => some r.lastPallet.toNat
  | 9 => some (levelCode r.level)
  | 10 => some (bitN r.zones.a + 2 * bitN r.zones.b)
  | 11 => some (timeHi r.expiry)
  | 12 => some (timeLo r.expiry)
  | _ => none

/-- Table 6: the words of a counter. -/
def counterWord (c : Counter) (snap : Time) : Nat → Option Nat
  | 0 => some (sourceCode c.source)
  | 1 => some (match c.stnFilter with
    | some st => st.val
    | none => 16)
  | 2 => some (match c.kindFilter with
    | some k => k.toNat
    | none => 256)
  | 3 => some c.threshold
  | 4 => some (bitN c.invert)
  | 5 => some (bitN c.edge)
  | 6 => some (hiWord c.count.toNat)
  | 7 => some (loWord c.count.toNat)
  | 8 => some (bitN c.mark)
  | 9 => some (bitN c.prev)
  | 10 => some (hiWord c.snapCount.toNat)
  | 11 => some (loWord c.snapCount.toNat)
  | 12 => some (bitN c.snapMark)
  | 13 => some (hiWord snap.toNat)
  | 14 => some (loWord snap.toNat)
  | _ => none

/-- Table 7: the words of a pallet record. -/
def recordWord (r : Record) : Nat → Option Nat
  | 0 => some r.tag.toNat
  | 1 => some r.variant.val
  | 2 => some r.generation
  | 3 => some (word16 r.offset)
  | 4 => some (match r.rstate with
    | .transit _ _ => 0
    | .present _ => 1
    | .lost _ => 2)
  | 5 => some (match r.rstate with
    | .present l => l.val
    | _ => 255)
  | 6 => some (match r.rstate with
    | .transit d _ => d.val
    | .lost d => stnWord d
    | .present _ => 255)
  | 7 => some r.routeCursor
  | 8 => some r.opCursor
  | 9 => some (qualityBits r.quality)
  | 10 => some (timeHi (match r.rstate with
    | .transit _ t => some t
    | _ => none))
  | 11 => some (timeLo (match r.rstate with
    | .transit _ t => some t
    | _ => none))
  | 12 => some (hiWord r.lastSeen.toNat)
  | 13 => some (loWord r.lastSeen.toNat)
  | _ => none

/-- The MOVE plan of an entry, once it has one. -/
def planOf (en : Entry) : Option Plan :=
  match en.params with
  | .move _ _ p => p
  | _ => none

/-- The item of the deferred list for an entry with its position, 0 the oldest. -/
def deferPosition (s : State) (e : EntryNo) : Option (Nat × DeferItem) :=
  ((List.range s.ilk.deferred.length).zip s.ilk.deferred).find? (fun x => x.2.entry == e)

/-- Table 8: the words of an entry in use. -/
def entryWord (s : State) (e : EntryNo) (en : Entry) (w : Nat) : Option Nat :=
  match w with
  | 0 => some (estateCode en.estate)
  | 1 => some en.station.val
  | 2 => some (cmdCode (paramsKind en.params)).toNat
  | 3 => some (originCode en.origin)
  | 4 => some en.pallet.toNat
  | 5 => some (match en.params with
    | .move _ t _ => t.toNat
    | .clamp p => p.toNat
    | .cycle pr _ _ => pr.toNat
    | .release d => d.toNat)
  | 6 => some (match en.params with
    | .move k _ (some p) => (moveArgB k p).toNat
    | .cycle _ op _ => op.toNat
    | _ => absentWord)
  | 7 => some (orAbsent ((planOf en).map (·.dist)))
  | 8 => some (orAbsent ((planOf en).map (fun p => p.start.toNat)))
  | 9 => some (orAbsent ((planOf en).bind (·.timeout)))
  | 10 => some (if en.estate = .cancelling then bitN en.cancelReq else absentWord)
  | 11 => some (hiWord en.acceptance.toNat)
  | 12 => some (loWord en.acceptance.toNat)
  | 13 => some (timeHi en.deadline)
  | 14 => some (timeLo en.deadline)
  | 15 => some (orAbsent (en.remaining.map hiWord))
  | 16 => some (orAbsent (en.remaining.map loWord))
  | 17 => some (timeHi ((deferPosition s e).map (fun x => x.2.deadline)))
  | 18 => some (timeLo ((deferPosition s e).map (fun x => x.2.deadline)))
  | 19 => some (orAbsent ((deferPosition s e).map (fun x => x.2.deferring.val)))
  | 20 => some (orAbsent ((deferPosition s e).map (fun x => x.1)))
  | n => if n < 27 then some (orAbsent (en.received.bind (fun m => m.words[n - 21]?))) else none

/-- A free slot or entry reads 0 in every word it has (R180). -/
def freeWord (words : Nat) (w : Nat) : Option Nat := if w < words then some 0 else none

/-- Table 9: the length and the tags of an approach list. -/
def approachWord (l : List Tag) (w : Nat) : Option Nat :=
  if w = 0 then some l.length
  else if w < 9 then some (match l[w - 1]? with
    | some t => t.toNat
    | none => 0)
  else none

/-- R180: the word at an address, or none where the address does not exist. -/
def tableWord (s : State) (table entry word : Nat) : Option Nat :=
  match table with
  | 0 => if entry = 0 then partWord s word
         else if entry = 1 then zoneWord s.trp.a word
         else if entry = 2 then zoneWord s.trp.b word
         else none
  | 1 => if h : entry < 16 then cfgWord (s.station ⟨entry, h⟩).cfg word
         else if h : entry - 16 < 16 then liveWord s ⟨entry - 16, h⟩ word
         else none
  | 2 => bankWord (shownRecipes s (stagingBank s)) entry word
  | 3 => bankWord (activeRecipes s) entry word
  | 4 => if h : entry < 32 then ilkWord (s.ilk.table.get ⟨entry, h⟩) word else none
  | 5 => if h : entry < 20 then faultWord (s.faultRec ⟨entry, h⟩) (s.fcu.reaction.get ⟨entry, h⟩) word else none
  | 6 => if h : entry < 8 then counterWord (s.lmn.counters.get ⟨entry, h⟩) s.lmn.snapTime word else none
  | 7 => if h : entry < 48 then
           match s.ptb.slots.get ⟨entry, h⟩ with
           | some r => recordWord r word
           | none => freeWord 14 word
         else none
  | 8 => if h : entry < 24 then
           match s.entry? ⟨entry, h⟩ with
           | some en => entryWord s ⟨entry, h⟩ en word
           | none => freeWord 27 word
         else none
  | 9 => if h : entry < 16 then approachWord (s.ptb.approach.get ⟨entry, h⟩) word else none
  | _ => none

/-- The word a request's argA addresses. -/
def addressed (s : State) (m : Msg) : Option Nat := tableWord s (addrTable m) (addrEntry m) (addrWord m)

end Sys2Proof.Machine
end

