-- ==== Sys2Proof/Machine/Take.lean ====
section
/-! DEFINITION. How a command that takes a message from the DIQ is carried out (R5, R6), and the source check that a
management request meets first (R180). -/

namespace Sys2Proof.Machine

/-- An event that happens only while the device is out of reset (R185) and while its condition holds; otherwise the command
changes nothing (log entry 1). -/
def whenOut (s : State) (cond : Bool) (r : Unit → Eff) : Host.Outcome State Fault Refusal :=
  if s.mga.inReset || !cond then .next s else conclude (r ())

/-- R5, R6, R7: the command `row` takes the DIQ's next message where that message is of the row and can be taken. -/
def takeAs (row : Instr) (body : Msg → State → Eff) (s : State) : Host.Outcome State Fault Refusal :=
  match nextItem s.chi.diq with
  | none => .next s
  | some d =>
    if s.mga.inReset then .next s
    else if rowOf s d.msg = row ∧ canTake s d.msg = true then conclude (body d.msg (removeDiq d s))
    else .next s

/-- R180: the source check of an ACTION. -/
def fromController (m : Msg) (s : State) (r : Eff) : Eff :=
  if m.src ≠ s.mga.controller then only (answerAction m .access 0 s) else r

/-- R180: the source check of a table request, and the address check. -/
def atWord (m : Msg) (s : State) (r : Nat → Eff) : Eff :=
  if m.src ≠ s.mga.controller then only (answerTable m .access 0 s)
  else
    match addressed s m with
    | none => only (answerTable m .badAddr 0 s)
    | some w => r w

/-- A write refused or answered without effect. -/
def writeSays (m : Msg) (st : Status) (s : State) : Eff := only (answerTable m st 0 s)

/-- A write answered DONE with the low 16 bits of the stored value (R181, R182), before what it brings about. -/
def writeDone (m : Msg) (stored : Nat) (s : State) : State := answerTable m .done (BitVec.ofNat 16 stored) s

/-- R181: the latch returns to 0. -/
def clearLatch (s : State) : State := s.modMga (fun g => { g with latch := 0 })

/-- R181: the value a low-word write forms. -/
def latched (m : Msg) (s : State) : Nat := s.mga.latch.toNat * 65536 + m.argB.toNat

/-- The station a table 1 configuration address names. -/
def cfgStation? (m : Msg) : Option Stn := if h : addrEntry m < 16 then some ⟨addrEntry m, h⟩ else none

/-- The station is OUT (R66). -/
def isOut (s : State) (st : Stn) : Bool := (s.station st).mode == .out

/-- R166: check value 3 recomputed over the geometry as it stands. -/
def recheckGeometry (s : State) : State :=
  { s with fcu := { s.fcu with checks := { s.fcu.checks with geometry := geometryCheck s.stb.stn } } }

/-- R166: check value 2 recomputed. -/
def recheckInterlock (s : State) : State :=
  { s with fcu := { s.fcu with checks := { s.fcu.checks with interlock := interlockCheck s.ilk.table } } }

/-- R166: check value 4 recomputed. -/
def recheckReaction (s : State) : State :=
  { s with fcu := { s.fcu with checks := { s.fcu.checks with reaction := reactionCheck s.fcu.reaction } } }

/-- Change a station's configuration. -/
def modCfg (st : Stn) (f : StationCfg → StationCfg) (s : State) : State := s.modStn st (fun r => { r with cfg := f r.cfg })

end Sys2Proof.Machine
end

