-- ==== Sys2Proof/Machine/TableWrites.lean ====
section
/-! DEFINITION. TBL_READ and the rows of TBL_WRITE (R180, R181): recipes (R51), station configuration (R65, R66),
designation (R67), controller node (R187), summary and masks (R183), filters and exit mode (R148, R149), interlocks (R138,
R146), reactions (R158), counters (R172), pallet records (R45). The answer is placed before what the write brings about. -/

namespace Sys2Proof.Machine

/-! ### TBL_READ and the plain TBL_WRITE -/

/-- R180, R52: a read; table 3 answers NOTHING while no bank is ACTIVE. -/
def readBody (m : Msg) (s : State) : Eff :=
  atWord m s (fun w =>
    if addrTable m = 3 ∧ activeBank s = none then only (answerTable m .nothing 0 s)
    else only (answerTable m .done (BitVec.ofNat 16 w) s))

/-- TBL_READ. -/
def execTblRead (s : State) : Host.Outcome State Fault Refusal := takeAs .tblRead readBody s

/-- R27: offset_max is clamped into 0..2047. Every other word of this row is read-only or does not exist (R180). -/
def plainWriteBody (m : Msg) (s : State) : Eff :=
  atWord m s (fun _ =>
    if addrTable m = 0 ∧ addrEntry m = 0 ∧ addrWord m = 4 then
      let v := clampNat 0 2047 m.argB.toNat
      only (writeDone m v { s with ptb := { s.ptb with offsetMax := v } })
    else writeSays m .notAllowed s)

/-- TBL_WRITE to a word with no behaviour of its own. -/
def execTblWrite (s : State) : Host.Outcome State Fault Refusal := takeAs .tblWrite plainWriteBody s

/-! ### High words of wide fields (R181) -/

/-- R181: the field's own check for a high-word write. -/
def highWordCheck (m : Msg) (s : State) : Option Status :=
  if addrTable m = 1 then
    (if addrWord m = 14 then
      (match cfgStation? m with
       | some st => if isOut s st then none else some .wrongMode
       | none => none)
     else none)
  else if addrTable m = 4 then (if s.ilk.frozen then some .frozen else none)
  else (if addrEntry m = 19 then some .notAllowed else none)

/-- R138, R143, R166: what an accepted write to a high word brings about beside the latch: the check value of a protected
field is computed over the table as it stands, and one to table 4 makes a pass over the deferred list due. -/
def highWordStored (m : Msg) (s : State) : State :=
  if addrTable m = 1 then (if addrWord m = 14 then recheckGeometry s else s)
  else if addrTable m = 4 then (recheckInterlock s).modEv (fun x => { x with passDue := true })
  else recheckReaction s

def highWordBody (m : Msg) (s : State) : Eff :=
  atWord m s (fun _ =>
    match highWordCheck m s with
    | some st => writeSays m st s
    | none => only (highWordStored m (writeDone m m.argB.toNat (s.modMga (fun g => { g with latch := m.argB })))))

/-- WIDE_HIGH_WORD_WRITE. -/
def execWideHighWordWrite (s : State) : Host.Outcome State Fault Refusal := takeAs .wideHighWordWrite highWordBody s

/-! ### Recipes (R50, R51) -/

/-- R48: a route step with the written word stored. -/
def writeStep (st : RouteStep) (w : Nat) (v : Word) : RouteStep :=
  if w = 0 then { st with group := v }
  else if w = 1 then { st with count := clampNat 0 8 v.toNat }
  else if h : (w - 2) / 3 < 8 then
    { st with
      ops := upd st.ops ⟨(w - 2) / 3, h⟩ (fun op =>
        match (w - 2) % 3 with
        | 0 => { op with pattern := v.setWidth 4, stop := ⟨v.toNat / 256 % 8, Nat.mod_lt _ (by decide)⟩ }
        | 1 => { op with program := clampNat 0 255 v.toNat }
        | _ => { op with limit := clampNat 1 36000 v.toNat }) }
  else st

/-- R47, R48, R50: the recipes of a bank with the written word stored. -/
def writeRecipe (rs : Vector Recipe 8) (entry w : Nat) (v : Word) : Vector Recipe 8 :=
  if hv : entry / 16 < 8 then
    upd rs ⟨entry / 16, hv⟩ (fun r =>
      if hs : entry % 16 < 12 then { r with steps := upd r.steps ⟨entry % 16, hs⟩ (fun st => writeStep st w v) }
      else { r with len := clampNat 0 12 v.toNat })
  else rs

/-- R51: a write to the staging bank at a valid address. -/
def recipeBody (m : Msg) (s : State) : Eff :=
  atWord m s (fun _ =>
    let b := stagingBank s
    if (s.rcs.banks.get b).bstate = .retiring then writeSays m .bankInUse s
    else
      let rs := writeRecipe (shownRecipes s b) (addrEntry m) (addrWord m) m.argB
      only (writeDone m ((bankWord rs (addrEntry m) (addrWord m)).getD 0)
        { s with
          rcs := { s.rcs with banks := upd s.rcs.banks b (fun k => { k with bstate := .staged, recipes := rs }) } }))

/-- RECIPE_WRITE. -/
def execRecipeWrite (s : State) : Host.Outcome State Fault Refusal := takeAs .recipeWrite recipeBody s

/-! ### Station configuration (R65, R66) -/

/-- R65: a configuration with the value stored and clamped at a word of the row STATION_CONFIG_WRITE. -/
def writeCfg (c : StationCfg) (w v : Nat) : StationCfg :=
  match w with
  | 0 => { c with node := BitVec.ofNat 6 (clampNat 0 62 v) }
  | 10 => { c with zero := BitVec.ofNat 16 v }
  | 12 => { c with rate := clampNat 1 1024 v }
  | 13 => { c with accel := clampNat 0 2000 v }
  | 16 => { c with margin := clampNat 0 200 v }
  | 17 => { c with settle := clampNat 0 500 v }
  | 18 => { c with clampLimit := clampNat 50 10000 v }
  | 19 => { c with releaseLimit := clampNat 100 60000 v }
  | 21 => { c with transitLimit := clampNat 1000 600000 v }
  | 23 => { c with stopLimit := clampNat 100 10000 v }
  | n => if h : n - 2 < 8 then { c with stops := upd c.stops ⟨n - 2, h⟩ (fun _ => BitVec.ofNat 16 v) } else c

/-- R66: words of this row that are written only at an OUT station: the stop angles and the zero offset. -/
def isGeometryWord (w : Nat) : Bool := decide (2 ≤ w) && decide (w ≤ 10)

def stationConfigBody (m : Msg) (s : State) : Eff :=
  atWord m s (fun _ =>
    match cfgStation? m with
    | none => writeSays m .badAddr s
    | some st =>
      if isGeometryWord (addrWord m) && !isOut s st then writeSays m .wrongMode s
      else
        let v := if addrWord m = 21 then latched m s else m.argB.toNat
        let s1 := if addrWord m = 21 then clearLatch s else s
        let c := writeCfg (s.station st).cfg (addrWord m) v
        let s2 := modCfg st (fun _ => c) s1
        only (writeDone m ((cfgWord c (addrWord m)).getD 0)
          (if isGeometryWord (addrWord m) then recheckGeometry s2 else s2)))

/-- STATION_CONFIG_WRITE. -/
def execStationConfigWrite (s : State) : Host.Outcome State Fault Refusal := takeAs .stationConfigWrite stationConfigBody s

/-- R66: the wind of a referenced station no longer fits its limit less its tolerance. -/
def windOutOfRange (r : Station) : Bool := r.referenced && decide ((r.cfg.windLimit : Int) - r.cfg.tol < r.w.natAbs)

/-- R65, R66: the position tolerance (word 11) or the wind limit's low word (word 15). -/
def windTolBody (m : Msg) (s : State) : Eff :=
  atWord m s (fun _ =>
    match cfgStation? m with
    | none => writeSays m .badAddr s
    | some st =>
      if !isOut s st then writeSays m .wrongMode s
      else
        let v := if addrWord m = 15 then clampNat 33024 262144 (latched m s) else clampNat 0 255 m.argB.toNat
        let s1 := if addrWord m = 15 then clearLatch s else s
        let s2 := recheckGeometry (modCfg st (fun c =>
          if addrWord m = 15 then { c with windLimit := v } else { c with tol := v }) s1)
        let s3 := writeDone m v s2
        only (if windOutOfRange (s3.station st) then clearReference st s3 else s3))

/-- WIND_LIMIT_TOLERANCE_WRITE. -/
def execWindLimitToleranceWrite (s : State) : Host.Outcome State Fault Refusal :=
  takeAs .windLimitToleranceWrite windTolBody s

/-- R66: the TRAP cause of one station. -/
def placeTrap (st : Stn) (on : Bool) (i : Stn) (r : Station) : Station :=
  if i = st then { r with holds := { r.holds with trap := on } } else r

/-- R66: a zone write at an OUT station moves its TRAP cause to match the new zone. -/
def zoneBody (m : Msg) (s : State) : Eff :=
  atWord m s (fun _ =>
    match cfgStation? m with
    | none => writeSays m .badAddr s
    | some st =>
      if !isOut s st then writeSays m .wrongMode s
      else
        let z : Zone := if m.argB = 0 then .a else .b
        let s1 := writeDone m (zoneNo z) (modCfg st (fun c => { c with zone := z }) s)
        endHolds (changeHolds (placeTrap st (s.zone z).trapped) s1) false)

/-- ZONE_WRITE. -/
def execZoneWrite (s : State) : Host.Outcome State Fault Refusal := takeAs .zoneWrite zoneBody s

/-- R65, R93: the approach capacity, with the re-evaluation of the route waiters. -/
def capacityBody (m : Msg) (s : State) : Eff :=
  atWord m s (fun _ =>
    match cfgStation? m with
    | none => writeSays m .badAddr s
    | some st =>
      let v := clampNat 1 8 m.argB.toNat
      (writeDone m v (modCfg st (fun c => { c with capacity := v }) s), [.reroute]))

/-- APPROACH_CAPACITY_WRITE. -/
def execApproachCapacityWrite (s : State) : Host.Outcome State Fault Refusal := takeAs .approachCapacityWrite capacityBody s

/-! ### Designation and controller node (R61, R67, R187) -/

/-- R61: a used step of the ACTIVE or the RETIRING bank names the station. -/
def namedByBank (s : State) (st : Stn) : Bool :=
  s.rcs.banks.toList.any (fun b =>
    (b.bstate == .active || b.bstate == .retiring)
      && b.recipes.toList.any (fun r => (r.steps.toList.take r.len).any (fun k => k.group.has st)))

/-- The stations of a list are all OUT. -/
def allOut (s : State) (l : List Stn) : Bool := l.all (isOut s)

/-- R67, R82: a station that loses or gains a designation has its process context reset. -/
def resetProcs (l : List Stn) (s : State) : State := l.foldl (fun s st => s.modProc st (fun _ => resetProcess)) s

/-- R67: the load station number. -/
def loadWrite (m : Msg) (s : State) : Eff :=
  if h : m.argB.toNat < 16 then
    let st : Stn := ⟨m.argB.toNat, h⟩
    if s.stb.rework = some st then writeSays m .badArg s
    else if st = s.stb.load then only (writeDone m st.val s)
    else if !allOut s [s.stb.load, st] then writeSays m .wrongMode s
    else if namedByBank s st then writeSays m .bankInUse s
    else
      let s1 := writeDone m st.val (resetProcs [s.stb.load, st] s)
      only { s1 with stb := { s1.stb with load := st }, ptb := { s1.ptb with pendingAdm := none } }
  else writeSays m .badArg s

/-- R67: the value of a rework station write: a station, none at 255, or no value at all. -/
def reworkValue (m : Msg) : Option (Option Stn) :=
  if h : m.argB.toNat < 16 then some (some ⟨m.argB.toNat, h⟩) else if m.argB = 255 then some none else none

/-- R67: the rework station number. -/
def reworkWrite (m : Msg) (s : State) : Eff :=
  match reworkValue m with
  | none => writeSays m .badArg s
  | some v =>
    if v = some s.stb.load then writeSays m .badArg s
    else if v = s.stb.rework then only (writeDone m (stnWord v) s)
    else
      let concerned := s.stb.rework.toList ++ v.toList
      if !allOut s concerned then writeSays m .wrongMode s
      else if v.any (namedByBank s) then writeSays m .bankInUse s
      else
        let s1 := writeDone m (stnWord v) (resetProcs concerned s)
        only { s1 with stb := { s1.stb with rework := v } }

def designationBody (m : Msg) (s : State) : Eff :=
  atWord m s (fun _ => if addrWord m = 2 then loadWrite m s else reworkWrite m s)

/-- DESIGNATION_WRITE. -/
def execDesignationWrite (s : State) : Host.Outcome State Fault Refusal := takeAs .designationWrite designationBody s

/-- R187: the controller node is 0..62. -/
def controllerBody (m : Msg) (s : State) : Eff :=
  atWord m s (fun _ =>
    if 63 ≤ m.argB.toNat then writeSays m .badArg s
    else only (writeDone m m.argB.toNat (s.modMga (fun g => { g with controller := m.argB.setWidth 6 }))))

/-- CONTROLLER_NODE_WRITE. -/
def execControllerNodeWrite (s : State) : Host.Outcome State Fault Refusal := takeAs .controllerNodeWrite controllerBody s

/-! ### Event summary and masks (R183) -/

/-- R183: the flags of the classes set in argB are cleared. -/
def summaryBody (m : Msg) (s : State) : Eff :=
  atWord m s (fun _ =>
    let s1 := s.modMga (fun g => { g with summary := g.summary &&& ~~~(m.argB.setWidth 9) })
    only (writeDone m (s1.mga.summary &&& s1.mga.attnMask).toNat s1))

/-- EVENT_SUMMARY_WRITE. -/
def execEventSummaryWrite (s : State) : Host.Outcome State Fault Refusal := takeAs .eventSummaryWrite summaryBody s

/-- R183: bits 8..0 are stored; the notice mask always holds START. -/
def maskBody (m : Msg) (s : State) : Eff :=
  atWord m s (fun _ =>
    if addrWord m = 10 then
      let v : BitVec 9 := m.argB.setWidth 9 ||| classBit .start
      only (writeDone m v.toNat (s.modMga (fun g => { g with noticeMask := v })))
    else
      let v : BitVec 9 := m.argB.setWidth 9
      only (writeDone m v.toNat (s.modMga (fun g => { g with attnMask := v }))))

/-- MASK_WRITE. -/
def execMaskWrite (s : State) : Host.Outcome State Fault Refusal := takeAs .maskWrite maskBody s

/-! ### Trap zones (R148, R149) -/

/-- The zone of a table 0 entry 1 or 2. -/
def entryZone (m : Msg) : Zone := if addrEntry m = 1 then .a else .b

/-- PIN alone. -/
def pinCause : ZoneCauses := { noCauses with pin := true }

/-- R149: the filtered level becomes ACTIVE: PIN is added. -/
def filterActive (z : Zone) (s : State) : Eff :=
  only (zoneAdd z pinCause (s.setZone z { s.zone z with filtered := true }))

/-- R149: the filtered level becomes INACTIVE: PIN is removed in exit mode AUTO. -/
def filterInactive (z : Zone) (s : State) : Eff :=
  let s1 := s.setZone z { s.zone z with filtered := false }
  if (s.zone z).exitAuto then zoneRemove z pinCause s1 else only s1

/-- R149, R186: how long the raw input has kept its level, at least this many milliseconds. -/
def heldFor (z : ZoneState) (now : Time) (ms : Nat) : Bool := passed (after z.changedAt ms) now

/-- R149: the input has been low for the assert filter while the filtered level is INACTIVE. -/
def assertDue (s : State) (z : Zone) : Bool :=
  let v := s.zone z
  !v.filtered && !v.raw && heldFor v s.now v.assertFilter

/-- R149: the input has been high for the release filter while the filtered level is ACTIVE. -/
def releaseDue (s : State) (z : Zone) : Bool :=
  let v := s.zone z
  v.filtered && v.raw && heldFor v s.now v.releaseFilter

/-- R149: the filter of a zone is judged. -/
def judgeFilter (z : Zone) (s : State) : Eff :=
  if assertDue s z then filterActive z s else if releaseDue s z then filterInactive z s else only s

/-- R148, R149: a filter is stored and judged in the event of the write (log entry 22). -/
def filterBody (m : Msg) (s : State) : Eff :=
  atWord m s (fun _ =>
    let z := entryZone m
    let v := if addrWord m = 4 then clampNat 0 15 m.argB.toNat else clampNat 0 255 m.argB.toNat
    let f : ZoneState → ZoneState := fun q =>
      if addrWord m = 4 then { q with assertFilter := v } else { q with releaseFilter := v }
    judgeFilter z (writeDone m v (s.setZone z (f (s.zone z)))))

/-- FILTER_WRITE. -/
def execFilterWrite (s : State) : Host.Outcome State Fault Refusal := takeAs .filterWrite filterBody s

/-- R148, R149: the exit mode. -/
def exitModeBody (m : Msg) (s : State) : Eff :=
  atWord m s (fun _ =>
    let z := entryZone m
    if m.argB = 0 then only (writeDone m 0 (s.setZone z { s.zone z with exitAuto := false }))
    else if m.argB = 1 then
      let s1 := writeDone m 1 (s.setZone z { s.zone z with exitAuto := true })
      if (s1.zone z).filtered then only s1 else zoneRemove z pinCause s1
    else writeSays m .badArg s)

/-- EXIT_MODE_WRITE. -/
def execExitModeWrite (s : State) : Host.Outcome State Fault Refusal := takeAs .exitModeWrite exitModeBody s

/-! ### Interlock table (R138, R146) -/

/-- R138: a condition word: the code in bits 2..0, the stop or mode in bits 10..8. -/
def condOf? (v : Nat) : Option Condition :=
  match v % 8 with
  | 0 => some .objectEmpty
  | 1 => some .toolsRetracted
  | 2 => some .notMoving
  | 3 => some .notMachining
  | 4 => some (.atStop ⟨v / 256 % 8, Nat.mod_lt _ (by decide)⟩)
  | 5 => (modeOf? (v / 256 % 8)).map .inMode
  | _ => none

/-- R138: the commands of a mask word. -/
def cmdSetOf (v : Nat) : CmdSet :=
  { move := v.testBit 0, clampClose := v.testBit 1, clampOpen := v.testBit 2, cycle := v.testBit 3,
    release := v.testBit 4 }

/-- R138: an entry with a word stored, or none where the word is refused BAD_ARG. -/
def writeIlk (e : IlkEntry) (w v : Nat) : Option IlkEntry :=
  match w with
  | 0 => if v = 0 then some { e with valid := false } else if v = 1 then some { e with valid := true } else none
  | 1 => some { e with subjects := BitVec.ofNat 16 v }
  | 2 => some { e with cmds := cmdSetOf v }
  | 3 => if h : v < 16 then some { e with object := some ⟨v, h⟩ }
         else if v = 16 then some { e with object := none } else none
  | 4 => (condOf? v).map (fun c => { e with cond := c })
  | 5 => if v = 0 then some { e with defer := false } else if v = 1 then some { e with defer := true } else none
  | 7 => some { e with deferLimit := clampNat 100 600000 v }
  | _ => none

def interlockBody (m : Msg) (s : State) : Eff :=
  atWord m s (fun _ =>
    if s.ilk.frozen then writeSays m .frozen s
    else if h : addrEntry m < 32 then
      let n : IlkNo := ⟨addrEntry m, h⟩
      let v := if addrWord m = 7 then latched m s else m.argB.toNat
      match writeIlk (s.ilk.table.get n) (addrWord m) v with
      | none => writeSays m .badArg s
      | some e =>
        let s1 := if addrWord m = 7 then clearLatch s else s
        let s2 := recheckInterlock { s1 with ilk := { s1.ilk with table := upd s1.ilk.table n (fun _ => e) } }
        only ((writeDone m ((ilkWord e (addrWord m)).getD 0) s2).modEv (fun x => { x with passDue := true }))
    else writeSays m .badAddr s)

/-- INTERLOCK_WRITE. -/
def execInterlockWrite (s : State) : Host.Outcome State Fault Refusal := takeAs .interlockWrite interlockBody s

/-! ### Fault reaction table (R158) -/

/-- R158: the stored escalation time. -/
def escalationOf (v : Nat) : Nat := if v = 0 then 0 else clampNat 100 600000 v

def reactionBody (m : Msg) (s : State) : Eff :=
  atWord m s (fun _ =>
    if h : addrEntry m < 20 then
      let k : FaultKind := ⟨addrEntry m, h⟩
      if k = fTableIntegrity then writeSays m .notAllowed s
      else if addrWord m = 0 then
        match levelOf? m.argB.toNat with
        | none => writeSays m .badArg s
        | some l =>
          only (writeDone m (levelCode l) (recheckReaction
            { s with fcu := { s.fcu with reaction := upd s.fcu.reaction k (fun r => { r with level := l }) } }))
      else
        let v := escalationOf (latched m s)
        let s1 := clearLatch s
        only (writeDone m v (recheckReaction
          { s1 with fcu := { s1.fcu with reaction := upd s1.fcu.reaction k (fun r => { r with escalation := v }) } }))
    else writeSays m .badAddr s)

/-- REACTION_WRITE. -/
def execReactionWrite (s : State) : Host.Outcome State Fault Refusal := takeAs .reactionWrite reactionBody s

/-! ### Line monitor (R172) -/

/-- A source that is an occupancy source (R174). -/
def Source.isOcc : Source → Bool
  | .occ _ => true
  | _ => false

/-- R172: a counter with a configuration word stored, or none where the word is refused BAD_ARG. -/
def writeCounter (n : CounterNo) (c : Counter) (w v : Nat) : Option Counter :=
  match w with
  | 0 =>
    (match sourceOf? v with
     | some src => if src.isOcc && decide (4 ≤ n.val) then none else some { c with source := src }
     | none => none)
  | 1 => if h : v < 16 then some { c with stnFilter := some ⟨v, h⟩ }
         else if v = 16 then some { c with stnFilter := none } else none
  | 2 => if v < 256 then some { c with kindFilter := some (BitVec.ofNat 8 v) }
         else if v = 256 then some { c with kindFilter := none } else none
  | 3 => some { c with threshold := clampNat 0 63 v }
  | 4 => if v = 0 then some { c with invert := false } else if v = 1 then some { c with invert := true } else none
  | 5 => if v = 0 then some { c with edge := false } else if v = 1 then some { c with edge := true } else none
  | _ => none

/-- R172: an accepted write starts the counter afresh. -/
def Counter.fresh (c : Counter) : Counter := { c with count := 0, mark := false, prev := false }

def counterBody (m : Msg) (s : State) : Eff :=
  atWord m s (fun _ =>
    if h : addrEntry m < 8 then
      let n : CounterNo := ⟨addrEntry m, h⟩
      match writeCounter n (s.lmn.counters.get n) (addrWord m) m.argB.toNat with
      | none => writeSays m .badArg s
      | some c =>
        only (writeDone m ((counterWord c 0 (addrWord m)).getD 0)
          { s with lmn := { s.lmn with counters := upd s.lmn.counters n (fun _ => c.fresh) } })
    else writeSays m .badAddr s)

/-- COUNTER_CONFIG_WRITE. -/
def execCounterConfigWrite (s : State) : Host.Outcome State Fault Refusal := takeAs .counterConfigWrite counterBody s

/-! ### Pallet records (R45) -/

/-- R45: the record is PRESENT at a station that is MANUAL. -/
def recordWritable (s : State) (r : Record) : Bool :=
  match r.rstate with
  | .present l => (s.station l).mode == .manual
  | _ => false

/-- R45: the quality set of a written word. -/
def qualityOf (v : Nat) : Quality :=
  { offsetLimited := v.testBit 0, rejected := v.testBit 1, aborted := v.testBit 2, misrouted := v.testBit 3 }

/-- R45: the operation count of the record's current step. -/
def stepCount (s : State) (r : Record) : Nat :=
  match currentStep s r with
  | some k => k.count
  | none => 0

/-- R45: a record with the written field stored, clamped by its own recipe. -/
def writeRecord (s : State) (r : Record) (w v : Nat) : Record :=
  if w = 7 then { r with routeCursor := clampNat 0 (routeLen s r) v, opCursor := 0 }
  else if w = 8 then { r with opCursor := if incomplete s r then clampNat 0 (stepCount s r - 1) v else 0 }
  else { r with quality := qualityOf v }

def recordBody (m : Msg) (s : State) : Eff :=
  atWord m s (fun _ =>
    if h : addrEntry m < 48 then
      let i : Slot := ⟨addrEntry m, h⟩
      match s.ptb.slots.get i with
      | none => writeSays m .wrongMode s
      | some r =>
        if recordWritable s r then
          let r1 := writeRecord s r (addrWord m) m.argB.toNat
          only (writeDone m ((recordWord r1 (addrWord m)).getD 0) (s.setSlot i (some r1)))
        else writeSays m .wrongMode s
    else writeSays m .badAddr s)

/-- PALLET_RECORD_WRITE. -/
def execPalletRecordWrite (s : State) : Host.Outcome State Fault Refusal := takeAs .palletRecordWrite recordBody s

end Sys2Proof.Machine
end

