-- ==== Sys2Proof/Machine/Actions.lean ====
section
/-! DEFINITION. The ACTIONs of section 12.3 but RESET and SET_TIME: INDEX, CANCEL (R128), MODE (R74), FORGET and FIND (R43, R44),
COMMIT and DISCARD (R53 to R57), FREEZE (R146), TRAP_SET and TRAP_ACK (R151, R152), FAULT_ACK and CLEAR_COUNTS (R164, R165),
RECOVER with the integrity scan (R167, R169), SNAPSHOT and CLEAR_COUNTERS (R177, R178), and a code that is none of them (R180).
SET_TIME stands in Machine/Events.lean, with the events of the time. The answer is placed before what the action brings about. -/

namespace Sys2Proof.Machine

/-- An ANSWER without effect. -/
def reply (m : Msg) (st : Status) (argB : Nat) (s : State) : Eff := only (answerAction m st (BitVec.ofNat 16 argB) s)

/-! ### INDEX -/

/-- INDEX (R102). -/
def execIndex (s : State) : Host.Outcome State Fault Refusal := takeAs .index indexBody s

/-! ### CANCEL (R128) -/

/-- What CANCEL does to the active entry. -/
inductive CancelCase where
  | nothing
  | free (e : EntryNo)
  | stop (e : EntryNo) (en : Entry) (kind : Byte)
  | already
  | notCancellable
deriving DecidableEq, Repr

def cancelCase (s : State) (st : Stn) : CancelCase :=
  match activeEntry s st with
  | none => .nothing
  | some e =>
    match s.entry? e with
    | none => .nothing
    | some en =>
      match en.estate with
      | .issued =>
        (match paramsKind en.params with
         | .move => .stop e en kStop
         | .cycle => .stop e en kAbort
         | _ => .notCancellable)
      | .cancelling => .already
      | _ => .free e

/-- R128: the STOP or ABORT of an entry. -/
def stopMsg (s : State) (en : Entry) (kind : Byte) : Msg :=
  mkMsg 1 (s.station en.station).cfg.node s.mga.node kind (stnByte en.station) en.pallet 0 0

/-- R128, R112: the STOP or ABORT enters the UGQ and the entry is CANCELLING. -/
def beginCancel (e : EntryNo) (en : Entry) (kind : Byte) (s : State) : State :=
  (s.modChi (fun c => { c with ugq := c.ugq ++ [{ msg := stopMsg s en kind, entry := e }] })).modEntry e
    (fun x => { x with estate := .cancelling, cancelReq := true })

/-- R143: a CANCEL that frees an entry ends with a pass over the deferred list. -/
def duePass (s : State) : State := s.modEv (fun v => { v with passDue := true })

def cancelBody (m : Msg) (s : State) : Eff :=
  fromController m s
    (match m.stn? with
     | none => reply m .badArg 0 s
     | some st =>
       if (s.station st).mode ≠ .manual then reply m .wrongMode 0 s
       else
         let pend := pendingEntry s st
         let n := pend.toList.length
         let frees := pend.toList.map (fun e => Task.free e .cancelled)
         let after (x : State) : State := if n = 0 then x else duePass x
         let answer (st : Status) (k : Nat) : State := answerAction m st (BitVec.ofNat 16 k) s
         match cancelCase s st with
         | .nothing => (after (answer .nothing n), frees)
         | .free e => (duePass (answer .done (n + 1)), frees ++ [.free e .cancelled])
         | .stop e en kind => (after (beginCancel e en kind (answer .accepted n)), frees)
         | .already => (after (answer .accepted n), frees)
         | .notCancellable => (after (answer .notCancellable n), frees))

/-- CANCEL. -/
def execCancel (s : State) : Host.Outcome State Fault Refusal := takeAs .cancel cancelBody s

/-! ### MODE (R74) -/

/-- R74: the pending mode is set. -/
def setPending (st : Stn) (m : Option Mode) (s : State) : State := s.modStn st (fun r => { r with pendingMode := m })

/-- R85 case 1: a withdrawn pending mode lets the process go on. -/
def withdrawn (s : State) (st : Stn) : List Task := if (s.proc st).wait = .mode then [.reeval st false] else []

def modeBody (m : Msg) (s : State) : Eff :=
  fromController m s
    (match m.stn?, modeOf? m.argB.toNat with
     | some st, some md =>
       if md = (s.station st).mode then (setPending st none (answerAction m .done 0 s), withdrawn s st)
       else if hasEntry s st then only (setPending st (some md) (answerAction m .accepted 0 s))
       else if md == .auto && isMachining s st && !(s.station st).referenced then reply m .notReferenced 0 s
       else (setPending st none (answerAction m .done 0 s), [.applyMode st md])
     | _, _ => reply m .badArg 0 s)

/-- MODE. -/
def execMode (s : State) : Host.Outcome State Fault Refusal := takeAs .mode modeBody s

/-! ### FORGET and FIND (R43, R44) -/

/-- The tag of argB; a value above 4095 is no tag and no record holds it. -/
def tagOf? (m : Msg) : Option Tag := if m.argB.toNat < 4096 then some (m.argB.setWidth 12) else none

/-- The slot of the record that holds the tag of argB. -/
def namedSlot (s : State) (m : Msg) : Option Slot := (tagOf? m).bind (slotOf s)

/-- R44: the record may be freed: it is LOST, or PRESENT at the MANUAL load or rework station. -/
def forgettable (s : State) (r : Record) : Bool :=
  match r.rstate with
  | .lost _ => true
  | .present l => !isMachining s l && (s.station l).mode == .manual
  | .transit _ _ => false

def forgetBody (m : Msg) (s : State) : Eff :=
  fromController m s
    (if m.argB = 0 then reply m .badArg 0 s
     else
       match namedSlot s m with
       | none => reply m .nothing 0 s
       | some i =>
         match s.ptb.slots.get i with
         | none => reply m .nothing 0 s
         | some r =>
           if forgettable s r then
             (freeRecord i r.tag (answerAction m .done 0 s), [.retryAdmission, .retire r.tag])
           else reply m .wrongMode 0 s)

/-- FORGET. -/
def execForget (s : State) : Host.Outcome State Fault Refusal := takeAs .forget forgetBody s

def findBody (m : Msg) (s : State) : Eff :=
  fromController m s
    (if m.argB = 0 then reply m .badArg 0 s
     else
       match namedSlot s m with
       | some i => reply m .done i.val s
       | none => reply m .nothing 0 s)

/-- FIND. -/
def execFind (s : State) : Host.Outcome State Fault Refusal := takeAs .find findBody s

/-! ### COMMIT and DISCARD (R53 to R57) -/

/-- R54: the first failing check of a used step: its reason code. -/
def stepFault (s : State) (k : RouteStep) : Option Nat :=
  if k.group = 0 then some 1
  else if k.group.has s.stb.load || (match s.stb.rework with
      | some st => k.group.has st
      | none => false) then some 2
  else if k.count = 0 then some 3
  else if (k.ops.toList.take k.count).any (fun op => op.pattern == 0) then some 4
  else none

/-- R54: the first failing step of a list, with its number. -/
def stepsFault (s : State) : Nat → List RouteStep → Option (Nat × Nat)
  | _, [] => none
  | n, k :: ks =>
    match stepFault s k with
    | some reason => some (reason, n)
    | none => stepsFault s (n + 1) ks

/-- R54, R55: validation, variants and steps ascending; the answer's argB locates the first failure. -/
def recipesFault (s : State) : Nat → List Recipe → Option Nat
  | _, [] => none
  | v, r :: rs =>
    match stepsFault s 0 (r.steps.toList.take r.len) with
    | some (reason, step) => some (256 * v + 16 * reason + step)
    | none => recipesFault s (v + 1) rs

/-- R57: the next generation. -/
def nextGeneration (g : Nat) : Nat := if 65535 ≤ g then 1 else g + 1

/-- R56 steps 1 to 5: the staging bank `b` becomes ACTIVE with generation `g`. -/
def activate (b : Fin 2) (g : Nat) (s : State) : State :=
  let old := activeBank s
  let banks := match old with
    | some a =>
      if carrierCount s a = 0 then upd s.rcs.banks a (fun k => { k with bstate := .empty, generation := none })
      else upd s.rcs.banks a (fun k => { k with bstate := .retiring })
    | none => s.rcs.banks
  let banks := upd banks b (fun k => { k with bstate := .active, generation := some g })
  { s with
    rcs := { banks := banks, staging := otherBank b, genCounter := g }
    fcu := { s.fcu with
      checks := { s.fcu.checks with
        active := some (bankCheck (s.rcs.banks.get b).recipes)
        retiring := match old with
          | some a => if carrierCount s a = 0 then none else s.fcu.checks.active
          | none => none } } }

def commitBody (m : Msg) (s : State) : Eff :=
  fromController m s
    (let b := stagingBank s
     match (s.rcs.banks.get b).bstate with
     | .staged =>
       (match recipesFault s 0 (s.rcs.banks.get b).recipes.toList with
        | some at_ => reply m .badRecipe at_ s
        | none =>
          let g := nextGeneration s.rcs.genCounter
          only (notice .committed 255 0 b.val (activate b g (answerAction m .done (BitVec.ofNat 16 g) s))))
     | .empty => reply m .nothing 0 s
     | _ => reply m .bankInUse 0 s)

/-- COMMIT. -/
def execCommit (s : State) : Host.Outcome State Fault Refusal := takeAs .commit commitBody s

def discardBody (m : Msg) (s : State) : Eff :=
  fromController m s
    (let b := stagingBank s
     match (s.rcs.banks.get b).bstate with
     | .staged =>
       let s1 := answerAction m .done 0 s
       only { s1 with rcs := { s1.rcs with banks := upd s1.rcs.banks b (fun k => { k with bstate := .empty }) } }
     | .empty => reply m .nothing 0 s
     | _ => reply m .bankInUse 0 s)

/-- DISCARD. -/
def execDiscard (s : State) : Host.Outcome State Fault Refusal := takeAs .discard discardBody s

/-! ### FREEZE (R146) -/

def freezeBody (m : Msg) (s : State) : Eff :=
  fromController m s
    (let s1 := answerAction m .done 0 s
     only { s1 with ilk := { s1.ilk with frozen := true } })

/-- FREEZE. -/
def execFreeze (s : State) : Host.Outcome State Fault Refusal := takeAs .freeze freezeBody s

/-! ### TRAP_SET and TRAP_ACK (R151, R152) -/

def trapSetBody (m : Msg) (s : State) : Eff :=
  fromController m s
    (match zoneOf? m.argB.toNat with
     | none => reply m .badArg 0 s
     | some z =>
       let after := (s.zone z).causes.union { noCauses with command := true }
       only (zoneAdd z { noCauses with command := true } (answerAction m .done (BitVec.ofNat 16 (causeBits after)) s)))

/-- TRAP_SET. -/
def execTrapSet (s : State) : Host.Outcome State Fault Refusal := takeAs .trapSet trapSetBody s

/-- A fault record lists a zone among its trapped zones. -/
def ZoneSet.lists (v : ZoneSet) : Zone → Bool
  | .a => v.a
  | .b => v.b

/-- R152: the lowest kind whose PENDING record lists the zone. -/
def faultListing (s : State) (z : Zone) : Option FaultKind :=
  (List.finRange 20).find? (fun k => (s.faultRec k).pending && (s.faultRec k).zones.lists z)

/-- R152 case 3: the causes an acknowledgement removes. -/
def ackCauses (z : ZoneState) : ZoneCauses :=
  { pin := !z.filtered && !z.exitAuto, fault := true, command := true, reset := true }

def trapAckBody (m : Msg) (s : State) : Eff :=
  fromController m s
    (match zoneOf? m.argB.toNat with
     | none => reply m .badArg 0 s
     | some z =>
       let v := s.zone z
       if !v.trapped then reply m .nothing 0 s
       else
         match (if v.causes.fault then faultListing s z else none) with
         | some k => reply m .faultsPending k.val s
         | none =>
           let left := v.causes.minus (ackCauses v)
           zoneRemove z (ackCauses v)
             (answerAction m (if left.any then .inputActive else .done) (BitVec.ofNat 16 (causeBits left)) s))

/-- TRAP_ACK. -/
def execTrapAck (s : State) : Host.Outcome State Fault Refusal := takeAs .trapAck trapAckBody s

/-! ### FAULT_ACK and CLEAR_COUNTS (R164, R165) -/

/-- R164: a record cleared; count, first and last fields are kept. -/
def FaultRec.cleared (r : FaultRec) (level : Level) : FaultRec :=
  { r with pending := false, level := level, zones := { a := false, b := false }, expiry := none }

/-- R164: the record of a kind is cleared and the kind leaves every stop-cause set. -/
def clearFault (k : FaultKind) (s : State) : State :=
  let s := s.modFaultRec k (fun r => r.cleared (s.fcu.reaction.get k).level)
  { s with
    stb := { s.stb with stn := s.stb.stn.map (fun r => { r with stopCauses := r.stopCauses &&& ~~~(1#20 <<< k.val) }) } }

/-- R164: the link fault of a port that is DOWN is still active. -/
def linkStillDown (s : State) (k : FaultKind) : Bool :=
  (k == fLinkADown && !s.chi.a.up) || (k == fLinkBDown && !s.chi.b.up)

def faultAckBody (m : Msg) (s : State) : Eff :=
  fromController m s
    (if h : m.argB.toNat < 20 then
      let k : FaultKind := ⟨m.argB.toNat, h⟩
      if k = fTableIntegrity then reply m .notAllowed 0 s
      else if !(s.faultRec k).pending then reply m .nothing 0 s
      else if linkStillDown s k then reply m .stillActive 0 s
      else only (clearFault k (answerAction m .done (BitVec.ofNat 16 (s.faultRec k).count) s))
    else reply m .badArg 0 s)

/-- FAULT_ACK. -/
def execFaultAck (s : State) : Host.Outcome State Fault Refusal := takeAs .faultAck faultAckBody s

/-- R165: how many CLEAR records have a count that changes. -/
def countsCleared (s : State) : Nat :=
  (s.fcu.records.toList.filter (fun r => !r.pending && r.count != 0)).length

def clearCountsBody (m : Msg) (s : State) : Eff :=
  fromController m s
    (let s1 := answerAction m .done (BitVec.ofNat 16 (countsCleared s)) s
     only { s1 with
       fcu := { s1.fcu with records := s1.fcu.records.map (fun r => if r.pending then r else { r with count := 0 }) } })

/-- CLEAR_COUNTS. -/
def execClearCounts (s : State) : Host.Outcome State Fault Refusal := takeAs .clearCounts clearCountsBody s

/-! ### The integrity scan and RECOVER (R167, R169) -/

/-- R166, R167: the bit of a check value that exists and does not match its table. -/
def bankMismatch (s : State) (b : Option (Fin 2)) (kept : Option Word) : Bool :=
  match b, kept with
  | some i, some w => bankCheck (s.rcs.banks.get i).recipes != w
  | _, _ => false

/-- R167: the mismatch set of a scan, number n at weight 2^n. -/
def scanSet (s : State) : BitVec 5 :=
  BitVec.ofNat 5 (bitN (bankMismatch s (activeBank s) s.fcu.checks.active)
    + 2 * bitN (bankMismatch s (retiringBank s) s.fcu.checks.retiring)
    + 4 * bitN (interlockCheck s.ilk.table != s.fcu.checks.interlock)
    + 8 * bitN (geometryCheck s.stb.stn != s.fcu.checks.geometry)
    + 16 * bitN (reactionCheck s.fcu.reaction != s.fcu.checks.reaction))

/-- R167: the mismatch set replaced by a scan. -/
def scanned (s : State) : State := { s with fcu := { s.fcu with mismatch := scanSet s } }

/-- R167: a scan, with the occurrence it raises where the record is CLEAR. -/
def scan (s : State) : State :=
  let s := scanned s
  if s.fcu.mismatch ≠ 0 ∧ (s.faultRec fTableIntegrity).pending = false then occur fTableIntegrity none 0 s else s

/-- R169: the lowest kind other than 19 that is PENDING at RESTRICT. -/
def restrictingKind (s : State) : Option FaultKind :=
  (List.finRange 20).find? (fun k =>
    k != fTableIntegrity && (s.faultRec k).pending && (s.faultRec k).level == .restrict)

def recoverBody (m : Msg) (s : State) : Eff :=
  fromController m s
    (if !s.fcu.restricted then reply m .nothing 0 s
     else
       let s := scanned s
       let kind := match restrictingKind s with
         | some k => k.val
         | none => 255
       if s.fcu.mismatch ≠ 0 ∨ kind ≠ 255 then reply m .stillActive (256 * kind + s.fcu.mismatch.toNat) s
       else
         let s1 := answerAction m .done 0 s
         let s2 := if (s1.faultRec fTableIntegrity).pending then clearFault fTableIntegrity s1 else s1
         (presentWaiters { s2 with fcu := { s2.fcu with restricted := false } }, [.arbitrate, .reroute]))

/-- RECOVER. -/
def execRecover (s : State) : Host.Outcome State Fault Refusal := takeAs .recover recoverBody s

/-! ### SNAPSHOT and CLEAR_COUNTERS (R177, R178) -/

def snapshotBody (m : Msg) (s : State) : Eff :=
  fromController m s
    (let s1 := answerAction m .done (s.now.setWidth 16) s
     only { s1 with
       lmn := { counters := s1.lmn.counters.map (fun c => { c with snapCount := c.count, snapMark := c.mark }),
                snapTime := s1.now } })

/-- SNAPSHOT. -/
def execSnapshot (s : State) : Host.Outcome State Fault Refusal := takeAs .snapshot snapshotBody s

def clearCountersBody (m : Msg) (s : State) : Eff :=
  fromController m s
    (let s1 := answerAction m .done 0 s
     only { s1 with
       lmn := { s1.lmn with counters := s1.lmn.counters.map (fun c => { c with count := 0, mark := false }) } })

/-- CLEAR_COUNTERS. -/
def execClearCounters (s : State) : Host.Outcome State Fault Refusal := takeAs .clearCounters clearCountersBody s

/-- R180: an action code that is not one of 1..17. -/
def unknownBody (m : Msg) (s : State) : Eff := fromController m s (reply m .badArg 0 s)

/-- UNKNOWN_ACTION_CODE. -/
def execUnknownActionCode (s : State) : Host.Outcome State Fault Refusal := takeAs .unknownActionCode unknownBody s

end Sys2Proof.Machine
end

