-- ==== Sys2Proof/Machine/Resets.lean ====
section
/-! DEFINITION. The resets: power-on and pin reset (R185), RESET_N low (R185), and ACTION RESET with the soft reset values of
every block (R22, R46, R63, R81, R82, R133, R138, R142, R146, R156, R171, R179, R183, R185, R186). -/

namespace Sys2Proof.Machine

/-- POWER_ON_RESET: every block at its power-on values, the reset cause POWER. The commands that wait stay. -/
def execPowerOnReset (straps : Node) (rawA rawB : Bool) (s : State) : Host.Outcome State Fault Refusal :=
  .next (State.atReset .power straps rawA rawB s.pending)

/-- PIN_RESET: the release of RESET_N after it was low; the reset cause PIN. The trap inputs keep their levels. -/
def execPinReset (straps : Node) (s : State) : Host.Outcome State Fault Refusal :=
  if s.mga.inReset then .next (State.atReset .pin straps s.trp.a.raw s.trp.b.raw s.pending) else .next s

/-- A port while the device is held in reset: nothing is sent and no place is claimed. -/
def PortState.quiet (p : PortState) : PortState := { p with claimed := false, tx := none }

/-- RESET_INPUT_LOW: the device is held in reset. -/
def execResetInputLow (s : State) : Host.Outcome State Fault Refusal :=
  .next ((s.modMga (fun g => { g with inReset := true })).modChi (fun c => { c with a := c.a.quiet, b := c.b.quiet }))

/-! ### Soft reset -/

/-- R22, R23: the queues toward the line, the owed STATUS_REQs, the sent state and the HOLD that goes first. -/
def Chi.soft (c : Chi) : Chi :=
  { c with
    deq := [], ugq := [], nq := [], lastServed := .nq, sent := BitVec.allOnes 16, owed := 0, softHold := true,
    afterLoss := false }

/-- R46: no record, no list, no pending admission; offset_max is kept (R27). -/
def Ptb.soft (p : Ptb) : Ptb :=
  { slots := Vector.replicate 48 none, approach := Vector.replicate 16 [], pendingAdm := none, offsetMax := p.offsetMax }

/-- R63: a RETIRING bank becomes EMPTY; the others are kept. -/
def Rcs.soft (r : Rcs) : Rcs :=
  { r with
    banks := r.banks.map (fun b => if b.bstate = .retiring then { b with bstate := .empty, generation := none } else b) }

/-- R81: a station's live part. -/
def Station.soft (r : Station) : Station :=
  { r with
    mode := if r.mode = .auto then .manual else r.mode
    pendingMode := none, tool := .unknown, commanded := none, sensed := none, occupant := .nobody,
    holds := { operator := true, trap := true, fault := false }, stopCauses := 0 }

/-- R156: a zone: causes RESET, with PIN while the filtered level is ACTIVE. The measurement of the raw input goes on: its
start is moved with the time, which becomes 0 (log entry 23). -/
def ZoneState.soft (z : ZoneState) (now : Time) : ZoneState :=
  { z with causes := { pin := z.filtered, fault := false, command := false, reset := true }, changedAt := z.changedAt - now }

/-- R171: the records at their reset values, NORMAL, no mismatch; the reaction table and the check values are kept but that
of a RETIRING bank. -/
def Fcu.soft (f : Fcu) : Fcu :=
  { f with
    records := Vector.ofFn (fun k => resetFaultRec (f.reaction.get k))
    checks := { f.checks with retiring := none }
    mismatch := 0, restricted := false, scanClock := 0 }

/-- R179: a counter keeps its configuration. -/
def Counter.soft (c : Counter) : Counter :=
  { c with count := 0, mark := false, prev := false, snapCount := 0, snapMark := false }

def Lmn.soft (l : Lmn) : Lmn := { counters := l.counters.map Counter.soft, snapTime := 0 }

/-- R183, R185, R186: the flags cleared, the time 0, the cause SOFT, the latch 0; the addresses and the masks are kept. -/
def Mga.soft (g : Mga) : Mga := { g with summary := 0, cause := .soft, time := 0, prescaler := 0, latch := 0 }

/-- R185 step 1 and 2: every block at its soft reset values. -/
def softReset (s : State) : State :=
  { s with
    chi := s.chi.soft, ptb := s.ptb.soft, rcs := s.rcs.soft
    stb := { s.stb with stn := s.stb.stn.map Station.soft }
    idx := resetIdx, mrt := resetMrt
    ilk := { s.ilk with deferred := [] }
    trp := { a := s.trp.a.soft s.now, b := s.trp.b.soft s.now }
    fcu := s.fcu.soft, lmn := s.lmn.soft, mga := s.mga.soft, ev := clearWithin }

/-- R185 steps 1 to 4: the soft reset, then ANSWER DONE and NOTICE START behind it in the emptied NQ. -/
def resetBody (m : Msg) (s : State) : Eff :=
  fromController m s
    (only (notice .start 255 0 (causeCode .soft) (answerAction m .done 0 (softReset s))))

/-- RESET. -/
def execReset (s : State) : Host.Outcome State Fault Refusal := takeAs .reset resetBody s

end Sys2Proof.Machine
end

