-- ==== Sys2Proof/Machine/Events.lean ====
section
/-! DEFINITION. Events of the links (R2, R4, R20), of the trap inputs (R149) and of the time: INTEGRITY_SCAN (R167), the
expiries (R31, R87, R127, R145, R163), TIME_TICK with what is due at it and the samples of the line monitor, and SET_TIME
(R115, R175, R186). -/

namespace Sys2Proof.Machine

/-! ### Links (R4) -/

/-- R184: the detail of LINK_UP and LINK_DOWN. -/
def portNo : Port → Nat
  | .a => 0
  | .b => 1

/-- R20: port B coming UP sets every sent state to not held. -/
def forgetSent (p : Port) (s : State) : State :=
  match p with
  | .a => s
  | .b => s.modChi (fun c => { c with sent := 0 })

/-- LINK_UP. -/
def execLinkUp (p : Port) (s : State) : Host.Outcome State Fault Refusal :=
  whenOut s (!(s.port p).up) (fun _ =>
    only (notice .linkUp 255 0 (portNo p) (forgetSent p (s.setPort p { s.port p with up := true }))))

/-- R157: the link fault of a port. -/
def linkFault : Port → FaultKind
  | .a => fLinkADown
  | .b => fLinkBDown

/-- LINK_DOWN: a reception is discarded without MESSAGE_CRC, a transmission is cut off and counts as transmitted. -/
def execLinkDown (p : Port) (s : State) : Host.Outcome State Fault Refusal :=
  whenOut s (s.port p).up (fun _ =>
    (occur (linkFault p) none 0 (s.setPort p { up := false, claimed := false, tx := none }),
     [.flush, .note .linkDown 255 0 (portNo p)]))

/-! ### Trap inputs (R149) -/

/-- TRAP_INPUT_CHANGE: the raw level changes and the measurement starts; a filter of 0 ends it at once. In reset the level
is followed and nothing is measured (R155). A filter end that the time has reached is taken by the TIME_TICK that reaches it; in
a state that holds one untaken, the change comes first (log entry 5). -/
def execTrapInputChange (z : Zone) (s : State) : Host.Outcome State Fault Refusal :=
  if s.mga.inReset then .next (s.setZone z { s.zone z with raw := !(s.zone z).raw })
  else conclude (judgeFilter z (s.setZone z { s.zone z with raw := !(s.zone z).raw, changedAt := s.now }))

/-- TRAP_FILTER_ASSERT. -/
def execTrapFilterAssert (z : Zone) (s : State) : Host.Outcome State Fault Refusal :=
  whenOut s (assertDue s z) (fun _ => filterActive z s)

/-- TRAP_FILTER_RELEASE. -/
def execTrapFilterRelease (z : Zone) (s : State) : Host.Outcome State Fault Refusal :=
  whenOut s (releaseDue s z) (fun _ => filterInactive z s)

/-! ### Time (R175, R186) -/

/-- R174: the value of an occupancy source. -/
def occValue (s : State) (src : OccSource) (st : Option Stn) : Nat :=
  match src with
  | .mrt => usedCount s
  | .diq => s.chi.diq.length
  | .approach =>
    (match st with
     | some st => (s.ptb.approach.get st).length
     | none => (s.ptb.approach.toList.map List.length).sum)
  | .ptb => recordCount s
  | .diqStalled => bitN (diqStalled s)
  | .stationHeld =>
    (match st with
     | some st => bitN (s.held st)
     | none => bitN (allStn.any (fun st => s.held st)))

/-- R175: the condition of a sample. -/
def sampleCond (c : Counter) (v : Nat) : Bool :=
  if c.invert then decide (v < max c.threshold 1) else decide (max c.threshold 1 ≤ v)

/-- R175: the amount a sample adds. -/
def sampleAmount (c : Counter) (v : Nat) : Nat :=
  if c.edge then bitN (sampleCond c v && !c.prev) else if c.threshold = 0 then v else bitN (sampleCond c v)

/-- R175: one counter at a sample. -/
def sampleCounter (s : State) (i : CounterNo) (c : Counter) : Counter :=
  match c.source with
  | .occ src =>
    if i.val < 4 then
      let v := occValue s src c.stnFilter
      { c.add (sampleAmount c v) with prev := sampleCond c v }
    else c
  | _ => c

/-- R175: the samples of one millisecond. -/
def sampleAll (s : State) : State := s.setCounters (Vector.ofFn (fun i => sampleCounter s i (s.lmn.counters.get i)))

/-- INTEGRITY_SCAN. -/
def execIntegrityScan (s : State) : Host.Outcome State Fault Refusal :=
  whenOut s true (fun _ => only (scan { s with fcu := { s.fcu with scanClock := 0 } }))

/-- R186, R167: one period of the clock input: the millisecond prescaler and the scan's prescaler count, and a carry queues
the tick or the scan it is. In reset nothing counts. -/
def clockPeriod (s : State) : State :=
  if s.mga.inReset then s
  else
    let tick := decide (Config.msPeriods ≤ s.mga.prescaler + 1)
    let scan := decide (Config.scanPeriods ≤ s.fcu.scanClock + 1)
    { s with
      mga := { s.mga with prescaler := if tick then 0 else s.mga.prescaler + 1 }
      fcu := { s.fcu with scanClock := if scan then 0 else s.fcu.scanClock + 1 }
      pending := s.pending ++ (if tick then [.timeTick] else []) ++ (if scan then [.integrityScan] else []) }

/-! ### Expiries -/

/-- R31: the destination of a record whose transit deadline has passed. -/
def transitDue (now : Time) (r : Record) : Option Stn :=
  match r.rstate with
  | .transit d t => if passed t now then some d else none
  | _ => none

/-- TRANSIT_EXPIRY. -/
def execTransitExpiry (slot : Slot) (s : State) : Host.Outcome State Fault Refusal :=
  match s.ptb.slots.get slot with
  | none => .next s
  | some r =>
    match transitDue s.now r with
    | none => .next s
    | some d => whenOut s true (fun _ => transitExpired r d s)

/-- A time that is set has passed. -/
def timePassed (t : Option Time) (now : Time) : Bool :=
  match t with
  | some t => passed t now
  | none => false

/-- SETTLE_EXPIRY: the settle end passes, once for each start of the settle. -/
def execSettleExpiry (st : Stn) (s : State) : Host.Outcome State Fault Refusal :=
  whenOut s (timePassed (s.proc st).settleEnd s.now && !(s.proc st).settleTaken) (fun _ => settleOver st s)

/-- R109: a MOVE that expires has its wind updated from the last reported angle, and its reference judged. -/
def windUpdate (st : Stn) (p : Option Plan) (a : Angle) (s : State) : State :=
  let r := s.station st
  let w := match p with
    | some p => windAfter p r.cfg.tol a r.w
    | none => r.w
  let s1 := s.modStn st (fun r => { r with c := a, w := w })
  if r.cfg.windLimit < w.natAbs then clearReference st s1 else s1

/-- R127: the deadline of an ISSUED or CANCELLING entry has passed. -/
def entryDue (now : Time) (en : Entry) : Bool :=
  (en.estate == .issued || en.estate == .cancelling) && timePassed en.deadline now

/-- R127, R109, R143: an entry expires. -/
def expireEntry (e : EntryNo) (en : Entry) (s : State) : Eff :=
  let s1 := if paramsKind en.params = .move then windUpdate en.station (planOf en) (s.station en.station).c s else s
  (duePass s1, [.free e .timeout])

/-- ENTRY_DEADLINE_EXPIRY. -/
def execEntryDeadlineExpiry (e : EntryNo) (s : State) : Host.Outcome State Fault Refusal :=
  match s.entry? e with
  | none => .next s
  | some en => whenOut s (entryDue s.now en) (fun _ => expireEntry e en s)

/-- R145: the item of an entry whose deferral deadline has passed. -/
def deferDue (s : State) (e : EntryNo) : Option DeferItem :=
  s.ilk.deferred.find? (fun d => d.entry == e && passed d.deadline s.now)

/-- DEFER_EXPIRY. -/
def execDeferExpiry (e : EntryNo) (s : State) : Host.Outcome State Fault Refusal :=
  match deferDue s e with
  | none => .next s
  | some d => whenOut s true (fun _ => (s, [.free e (.deferTimeout d.deferring.val)]))

/-- R163: the record of a kind one level up. -/
def raised (k : FaultKind) (s : State) : State :=
  s.modFaultRec k (fun r =>
    let l := levelUp r.level
    let esc := (s.fcu.reaction.get k).escalation
    { r with level := l, expiry := if l = .restrict ∨ esc = 0 then none else some (after s.now esc) })

/-- R163: the escalation of a PENDING record, with NOTICE ESCALATED. -/
def escalate (k : FaultKind) (s : State) : State :=
  let s1 := raised k s
  let r := s1.faultRec k
  react k r.level r.lastStn (notice .escalated (stnByte? r.lastStn) r.lastPallet k.val s1)

/-- ESCALATION. -/
def execEscalation (k : FaultKind) (s : State) : Host.Outcome State Fault Refusal :=
  whenOut s ((s.faultRec k).pending && timePassed (s.faultRec k).expiry s.now) (fun _ => only (escalate k s))

/-! ### The millisecond step (R186) -/

/-- What follows an event that went through; a fault or a refusal stays. -/
def follow (o : Host.Outcome State Fault Refusal) (f : State → Host.Outcome State Fault Refusal) :
    Host.Outcome State Fault Refusal :=
  match o with
  | .next s => f s
  | .fault e => .fault e
  | .refused r => .refused r

/-- The events that depend on the time, each of which happens only where its time has passed. -/
def timedEvents : List (State → Host.Outcome State Fault Refusal) :=
  [execTrapFilterAssert .a, execTrapFilterRelease .a, execTrapFilterAssert .b, execTrapFilterRelease .b]
    ++ (List.finRange 48).map execTransitExpiry
    ++ allStn.map execSettleExpiry
    ++ allEntries.map execEntryDeadlineExpiry
    ++ allEntries.map execDeferExpiry
    ++ (List.finRange 20).map execEscalation

/-- R186, R115: every event of the time that is due, one after another. -/
def takeDue (s : State) : Host.Outcome State Fault Refusal := timedEvents.foldl follow (.next s)

/-- R186: the time advances by 1 and wraps, and the prescaler starts again. -/
def advanceTime (s : State) : State := s.modMga (fun g => { g with time := g.time + 1, prescaler := 0 })

/-- TIME_TICK: the time advances; what the new time makes due is taken, each as an event of its own (log entry 5); then the
occupancies are sampled (R175). -/
def execTimeTick (s : State) : Host.Outcome State Fault Refusal :=
  if s.mga.inReset then .next s else follow (takeDue (advanceTime s)) (fun t => conclude (only (sampleAll t)))

/-- R186: the time becomes argB × 65536 and the prescaler is cleared; no other stored time changes. -/
def setTimeBody (m : Msg) (s : State) : Eff :=
  fromController m s
    (only ((answerAction m .done m.argB s).modMga (fun g =>
      { g with time := BitVec.ofNat 32 (m.argB.toNat * 65536), prescaler := 0 })))

/-- A SET_TIME of the controller node is taken. -/
def setsTime (s : State) : Bool :=
  match nextItem s.chi.diq with
  | none => false
  | some d =>
    !s.mga.inReset && decide (rowOf s d.msg = .setTime) && canTake s d.msg && d.msg.src == s.mga.controller

/-- SET_TIME. What the moved time makes due is taken at once, each as an event of its own (R31, R115, R145, R163; log entry 5);
no sample is taken (R175). -/
def execSetTime (s : State) : Host.Outcome State Fault Refusal :=
  follow (takeAs .setTime setTimeBody s) (fun t => if setsTime s then takeDue t else .next t)

end Sys2Proof.Machine
end

