-- ==== Sys2Proof/Machine/Downlane.lean ====
section
/-! DEFINITION. The downlane: a place claimed at a receiver (R1), a message received at port A or discarded (R2), and the
station requests and forwarded messages taken from the DIQ (R7 to R10, R78, R79). -/

namespace Sys2Proof.Machine

/-! ### Reception (R1, R2) -/

/-- INGRESS_PLACE_CLAIM: the first byte of a message arrives while the device's own ready is high. -/
def execIngressPlaceClaim (p : Port) (s : State) : Host.Outcome State Fault Refusal :=
  whenOut s ((s.port p).up && readyOut s p && !(s.port p).claimed) (fun _ =>
    only (s.setPort p { s.port p with claimed := true }))

/-- R2: a message is discarded: its claimed place is released and MESSAGE_CRC is raised. -/
def discardMessage (p : Port) (s : State) : State :=
  occur fMessageCrc none 0 (s.setPort p { s.port p with claimed := false })

/-- MESSAGE_DISCARDED: a message that is not intact, or that found no place. -/
def execMessageDiscarded (p : Port) (s : State) : Host.Outcome State Fault Refusal :=
  whenOut s (s.port p).up (fun _ => only (discardMessage p s))

/-- R2: an intact message enters the DIQ in its claimed place with its time of arrival, one MSG_SEEN_DOWN event. -/
def enterDiq (m : Msg) (s : State) : State :=
  lmnEvent .msgSeenDown m.stn? (some m.kind)
    ((s.setPort .a { s.chi.a with claimed := false }).modChi (fun c =>
      { c with diq := c.diq ++ [{ msg := m, arrival := s.now }] }))

/-- DOWNLANE_RECEIVE. A message without a claimed place, or one that is not intact, is discarded (R2). -/
def execDownlaneReceive (m : Msg) (s : State) : Host.Outcome State Fault Refusal :=
  whenOut s s.chi.a.up (fun _ =>
    only (if s.chi.a.claimed && m.intact then enterDiq m s else discardMessage .a s))

/-! ### HOLD and RESUME (R78, R79) -/

/-- R78: OPERATOR added to the stations of a set. -/
def addOperator (v : StnSet) (i : Stn) (r : Station) : Station :=
  if v.has i then { r with holds := { r.holds with operator := true } } else r

def holdBody (m : Msg) (s : State) : Eff :=
  if m.src ≠ s.mga.controller then only (refuse m .access 0 s)
  else only (changeHolds (addOperator (namedStations m)) s).1

/-- HOLD. -/
def execHold (s : State) : Host.Outcome State Fault Refusal := takeAs .hold holdBody s

/-- R79: a kind of a stop-cause set is PENDING. -/
def stopCausePending (s : State) (v : BitVec 20) : Bool :=
  (List.finRange 20).any (fun k => v.getLsbD k.val && (s.faultRec k).pending)

/-- R79 steps 1 and 2: OPERATOR removed, and FAULT where no stop cause is PENDING. -/
def resumeStation (s : State) (v : StnSet) (i : Stn) (r : Station) : Station :=
  if v.has i then
    if r.holds.fault && !stopCausePending s r.stopCauses then
      { r with holds := { r.holds with operator := false, fault := false }, stopCauses := 0 }
    else { r with holds := { r.holds with operator := false } }
  else r

/-- R79 step 3: the stations of the set that stay held, ascending, each with its REFUSED. -/
def refuseStillHeld (m : Msg) (v : StnSet) (s : State) : State :=
  (v.members.filter (fun st => s.held st)).foldl (fun x st =>
    refuseHeld m (if (s.station st).holds.trap then .heldByTrap else .heldByFault) st x) s

def resumeBody (m : Msg) (s : State) : Eff :=
  if m.src ≠ s.mga.controller then only (refuse m .access 0 s)
  else if s.fcu.restricted then only (refuse m .restricted 0 s)
  else
    let v := namedStations m
    let r := changeHolds (resumeStation s v) s
    endHolds (refuseStillHeld m v r.1, r.2) true

/-- RESUME. -/
def execResume (s : State) : Host.Outcome State Fault Refusal := takeAs .resume resumeBody s

/-! ### Station commands (R9, R10) -/

/-- CLAMP. -/
def execClamp (s : State) : Host.Outcome State Fault Refusal := takeAs .clamp requestBody s

/-- CYCLE. -/
def execCycle (s : State) : Host.Outcome State Fault Refusal := takeAs .cycle requestBody s

/-- RELEASE. -/
def execRelease (s : State) : Host.Outcome State Fault Refusal := takeAs .release requestBody s

/-- R7 row 3, R8, R10: a JOG or REFER. -/
def jogReferBody (m : Msg) (s : State) : Eff :=
  if m.dst = s.mga.node then only (refuse m .notAllowed 0 s)
  else
    match checkRequest s m with
    | .error r => only (refuse m r 0 s)
    | .ok st =>
      if (s.station st).mode ≠ .out then only (refuse m .wrongMode 0 s)
      else if (s.station st).tool = .retracted then only (forward m s)
      else only (refuse m .hardInterlock 0 s)

/-- JOG. -/
def execJog (s : State) : Host.Outcome State Fault Refusal := takeAs .jog jogReferBody s

/-- REFER. -/
def execRefer (s : State) : Host.Outcome State Fault Refusal := takeAs .refer jogReferBody s

/-- R7 rows 3 and 4: a MOVE, STOP or ABORT is source-checked and refused NOT_ALLOWED. -/
def notAllowedBody (m : Msg) (s : State) : Eff :=
  if m.dst = s.mga.node then only (refuse m .notAllowed 0 s)
  else if m.src ≠ s.mga.controller then only (refuse m .access 0 s)
  else only (refuse m .notAllowed 0 s)

/-- MOVE. -/
def execMove (s : State) : Host.Outcome State Fault Refusal := takeAs .move notAllowedBody s

/-- STOP. -/
def execStop (s : State) : Host.Outcome State Fault Refusal := takeAs .stop notAllowedBody s

/-- ABORT. -/
def execAbort (s : State) : Host.Outcome State Fault Refusal := takeAs .abort notAllowedBody s

/-- R7 rows 3, 7 and 8: a message addressed to the device is refused NOT_ALLOWED, any other is placed in the DEQ. -/
def forwardBody (m : Msg) (s : State) : Eff :=
  if m.dst = s.mga.node then only (refuse m .notAllowed 0 s) else only (forward m s)

/-- STATUS_REQ. -/
def execStatusReq (s : State) : Host.Outcome State Fault Refusal := takeAs .statusReq forwardBody s

/-- DOWNLANE_FORWARD. -/
def execDownlaneForward (s : State) : Host.Outcome State Fault Refusal := takeAs .downlaneForward forwardBody s

end Sys2Proof.Machine
end

