-- ==== Sys2Proof/Machine/Transmit.lean ====
section
/-! DEFINITION. Transmission on the two ports (R1, R15 to R19, R29, R71, R73, R110 to R112, R122), the waiting producers of
the DEQ (R14, R19), and the delivery of kept refusals (R132). -/

namespace Sys2Proof.Machine

/-- A transmitter starts a message. -/
def startTx (p : Port) (m : Msg) (s : State) : State := s.setPort p { s.port p with tx := some m }

/-- TRANSMISSION_END. -/
def execTransmissionEnd (p : Port) (s : State) : Host.Outcome State Fault Refusal :=
  whenOut s (s.port p).tx.isSome (fun _ => only (s.setPort p { s.port p with tx := none }))

/-! ### Port A (R11, R15) -/

/-- R15: the queue served next: the one not served last when both hold a message, else the one that does. -/
def nextServed (c : Chi) : Option Served :=
  match c.uiq, c.nq with
  | [], [] => none
  | _ :: _, [] => some .uiq
  | [], _ :: _ => some .nq
  | _ :: _, _ :: _ => some (if c.lastServed = .uiq then .nq else .uiq)

/-- R15: the head of the served queue is sent and leaves its queue. -/
def serveA (v : Served) (s : State) : State :=
  match v with
  | .uiq =>
    (match s.chi.uiq with
     | m :: rest => (startTx .a m s).modChi (fun c => { c with uiq := rest, lastServed := .uiq })
     | [] => s)
  | .nq =>
    (match s.chi.nq with
     | m :: rest => (startTx .a m s).modChi (fun c => { c with nq := rest, lastServed := .nq })
     | [] => s)

/-- PORT_A_TRANSMIT. -/
def execPortATransmit (ready : Bool) (s : State) : Host.Outcome State Fault Refusal :=
  match nextServed s.chi with
  | none => .next s
  | some v => whenOut s (canStart s .a ready) (fun _ => only (serveA v s))

/-- KEPT_REFUSAL_DELIVERY: the oldest kept refusal takes a free NQ place (R132). -/
def execKeptRefusalDelivery (s : State) : Host.Outcome State Fault Refusal :=
  match s.mrt.kept with
  | [] => .next s
  | m :: rest =>
    whenOut s (decide (s.chi.nq.length < Config.nqCap)) (fun _ =>
      only ((({ s with mrt := { s.mrt with kept := rest } } : State)).modChi (fun c => { c with nq := c.nq ++ [m] })))

/-! ### The hold image (R18, R19, R22) -/

/-- R18: a HOLD or RESUME of a set of stations. -/
def holdMsg (s : State) (kind : Byte) (v : StnSet) : Msg := mkMsg 1 63 s.mga.node kind 255 0 v 0

/-- R18, R22: the set of the next HOLD: all 16 stations after a soft reset, else those newly held. -/
def holdSet (s : State) : StnSet := if s.chi.softHold then BitVec.allOnes 16 else holdDue s

/-- PORT_B_HOLD. -/
def execPortBHold (ready : Bool) (s : State) : Host.Outcome State Fault Refusal :=
  whenOut s (canStart s .b ready && (s.chi.softHold || holdDue s != 0)) (fun _ =>
    only ((startTx .b (holdMsg s kHold (holdSet s)) s).modChi (fun c =>
      { c with sent := c.sent ||| holdSet s, softHold := false })))

/-- R19: the STATUS_REQ of a station. -/
def statusReqMsg (s : State) (st : Stn) : Msg :=
  mkMsg 0 (s.station st).cfg.node s.mga.node kStatusReq (stnByte st) 0 0 0

/-- R14, R19: an owed STATUS_REQ can enter the DEQ: a place is free and no SENDING entry waits for it. -/
def owedRoom (s : State) : Bool := decide (0 < deqRoom s) && (sendingWaiters s).isEmpty

/-- R19: the STATUS_REQ of station `st` enters the DEQ. -/
def enqueueOwed (st : Stn) (s : State) : State :=
  (pushDeq (statusReqMsg s st) none s).modChi (fun c => { c with owed := c.owed &&& ~~~StnSet.one st })

/-- R19: owed STATUS_REQs enter the DEQ, lowest station first, while there is room. -/
def enqueueAllOwed (s : State) : State :=
  s.chi.owed.members.foldl (fun x st => if owedRoom x then enqueueOwed st x else x) s

/-- PORT_B_RESUME. -/
def execPortBResume (ready : Bool) (s : State) : Host.Outcome State Fault Refusal :=
  whenOut s (canStart s .b ready && !s.chi.softHold && holdDue s == 0 && resumeDue s != 0) (fun _ =>
    only (enqueueAllOwed ((startTx .b (holdMsg s kResume (resumeDue s)) s).modChi (fun c =>
      { c with sent := c.sent &&& ~~~resumeDue s, owed := c.owed ||| resumeDue s }))))

/-- OWED_STATUS_REQ_ENQUEUE. -/
def execOwedStatusReqEnqueue (s : State) : Host.Outcome State Fault Refusal :=
  match s.chi.owed.members with
  | [] => .next s
  | st :: _ => whenOut s (owedRoom s) (fun _ => only (enqueueOwed st s))

/-- SENDING_ENTRY_ENQUEUE. -/
def execSendingEntryEnqueue (s : State) : Host.Outcome State Fault Refusal :=
  match firstSending s with
  | none => .next s
  | some e => whenOut s (decide (0 < deqRoom s)) (fun _ => only (enqueueCommand e s))

/-! ### The UGQ and the DEQ (R16, R17) -/

/-- R16: the transmitter can start a message and no hold image update is due. -/
def pastImage (s : State) (ready : Bool) : Bool := canStart s .b ready && !imageDue s

/-- R112, R128: the CANCELLING entry's deadline, or its remaining time while its station is held. -/
def setStopLimit (held : Bool) (now : Time) (limit : Nat) (en : Entry) : Entry :=
  if held then { en with cancelReq := false, deadline := none, remaining := some limit }
  else { en with cancelReq := false, deadline := some (after now limit), remaining := none }

/-- R16, R112: the UGQ head is transmitted without a check. -/
def transmitStop (u : UgqItem) (rest : List UgqItem) (s : State) : State :=
  let s1 := (startTx .b u.msg s).modChi (fun c => { c with ugq := rest })
  match s.entry? u.entry with
  | some en =>
    s1.modEntry u.entry (setStopLimit (s.held en.station) s.now (s.station en.station).cfg.stopLimit)
  | none => s1

/-- STOP_ABORT_TRANSMIT. -/
def execStopAbortTransmit (ready : Bool) (s : State) : Host.Outcome State Fault Refusal :=
  match s.chi.ugq with
  | [] => .next s
  | u :: rest => whenOut s (pastImage s ready) (fun _ => only (transmitStop u rest s))

/-- R111: the operation a controller CYCLE names, in the recipe of the pallet PRESENT at its station. -/
def namedOperation (s : State) (st : Stn) (op : Nat) : Option Operation :=
  (s.trackedOcc st).bind (fun t => (s.record? t).bind (fun r =>
    if r.rstate = .present st then (currentStep s r).bind (fun k => k.op? op) else none))

/-- R111: the operation of a dispatch CYCLE, in the recipe of its station's process pallet as it stands at the transmission.
Where the process was given up the entry's own pallet stands in (log entry 33). -/
def processOperation (s : State) (en : Entry) (op : Nat) : Option Operation :=
  (s.record? ((s.proc en.station).pallet.getD en.pallet)).bind (fun r => (currentStep s r).bind (fun k => k.op? op))

/-- R110, R111: the duration of an entry's command. A dispatch CYCLE whose operation is no longer found keeps the limit it was
created with (log entry 33). -/
def commandDuration (s : State) (en : Entry) : Nat :=
  let cfg := (s.station en.station).cfg
  match en.params with
  | .move _ _ p => (p.bind (·.timeout)).getD 0
  | .clamp _ => cfg.clampLimit
  | .release _ => cfg.releaseLimit
  | .cycle _ op (some limit) =>
    match processOperation s en op.toNat with
    | some o => o.limit * 100
    | none => limit * 100
  | .cycle _ op none =>
    match namedOperation s en.station op.toNat with
    | some o => o.limit * 100
    | none => Config.longestCycle

/-- R122: an entry becomes ISSUED at its transmission. -/
def issueEntry (e : EntryNo) (s : State) : State :=
  match s.entry? e with
  | some en =>
    s.modEntry e (fun x => { x with estate := .issued, deadline := some (after s.now (commandDuration s en)) })
  | none => s

/-- R32: the entry of a transmitted RELEASE keeps the tag it made TRANSIT. -/
def noteReleased (e : Option EntryNo) (t : Option Tag) (s : State) : State :=
  match e with
  | some e => s.modEntry e (fun x => { x with released := t })
  | none => s

/-- R29, R71, R73: what a transmitted message does to its station: a CLAMP's pattern, a RELEASE's pallet, a JOG's loss of
reference. -/
def transmitted (m : Msg) (e : Option EntryNo) (s : State) : Eff :=
  match m.stn? with
  | none => only s
  | some st =>
    if m.kind = kClamp then only (s.modStn st (fun r => { r with commanded := some (argPattern m) }))
    else if m.kind = kRelease then
      releaseTransmitted st m.argA (noteReleased e ((releasedTag s st).map (·.1)) s)
    else if m.kind = kJog then only (clearReference st s)
    else only s

/-- R17: the hard-wired check of the DEQ head, for a station command. -/
def lateCheck (s : State) (m : Msg) : Option Nat :=
  match judgedMsg? m, m.stn? with
  | some j, some st => hardCheck s st j
  | _, _ => none

/-- R17, R122: the DEQ head is transmitted, or discarded with INTERLOCK_LATE. -/
def transmitHead (d : DeqItem) (rest : List DeqItem) (s : State) : Eff :=
  let s1 := s.modChi (fun c => { c with deq := rest })
  match lateCheck s d.msg with
  | none =>
    let s2 := startTx .b d.msg s1
    transmitted d.msg d.entry (match d.entry with
      | some e => issueEntry e s2
      | none => s2)
  | some _ =>
    match d.entry with
    | some e => (s1, [.free e .interlockLate])
    | none => only (occur fInterlockLate d.msg.stn? d.msg.pallet s1)

/-- DEQ_TRANSMIT. -/
def execDeqTransmit (ready : Bool) (s : State) : Host.Outcome State Fault Refusal :=
  match s.chi.deq with
  | [] => .next s
  | d :: rest => whenOut s (pastImage s ready && s.chi.ugq.isEmpty) (fun _ => transmitHead d rest s)

end Sys2Proof.Machine
end

