-- ==== Sys2Proof/Machine/Reports.lean ====
section
/-! DEFINITION. The uplane (R11, R12): reports that are applied, each by its rule (TAG R33 to R41, AT R68, R69, R108, R109,
R123, R129, CLAMPED R73, R124, TOOL R72, CYCLE_END R125, R129, GONE R42, R126, NODE_FAULT R161), and messages that are only
forwarded. -/

namespace Sys2Proof.Machine

/-! ### Reception at port B -/

/-- R2, R11: an intact message enters the UIQ in its claimed place, one MSG_SEEN_UP event. -/
def enterUiq (m : Msg) (s : State) : State :=
  lmnEvent .msgSeenUp m.stn? (some m.kind)
    ((s.setPort .b { s.chi.b with claimed := false }).modChi (fun c => { c with uiq := c.uiq ++ [m] }))

/-- R12: the station that a report is applied at. -/
def reporter (s : State) (m : Msg) : Option Stn :=
  m.stn?.bind (fun st => if m.src = (s.station st).cfg.node then some st else none)

/-- R11, R12, R143: a report of a kind enters the UIQ and is applied at its station; a pass over the deferred list follows.
A report with another source or station is forwarded and not applied. -/
def reportAs (kind : Byte) (apply : Stn → Msg → State → Eff) (m : Msg) (s : State) : Host.Outcome State Fault Refusal :=
  whenOut s (s.chi.b.up && m.kind == kind) (fun _ =>
    if s.chi.b.claimed && m.intact then
      match reporter s m with
      | some st => apply st m (duePass (enterUiq m s))
      | none => only (enterUiq m s)
    else only (discardMessage .b s))

/-- A message that R11 applies: a report kind from the node of the station it names. -/
def applies (s : State) (m : Msg) : Bool := isReportKind m.kind && (reporter s m).isSome

/-- UPLANE_FORWARD: a message of another kind, or a report that is not applied, is forwarded only. -/
def execUplaneForward (m : Msg) (s : State) : Host.Outcome State Fault Refusal :=
  whenOut s (s.chi.b.up && !applies s m) (fun _ =>
    only (if s.chi.b.claimed && m.intact then enterUiq m s else discardMessage .b s))

/-! ### TAG (R33, R37) -/

def applyTag (st : Stn) (m : Msg) (s : State) : Eff :=
  if st = s.stb.load then tagAtLoad st m.pallet (tagVariant m) (rawOffset m) s else tagElsewhere st m.pallet s

/-- TAG. -/
def execTag (m : Msg) (s : State) : Host.Outcome State Fault Refusal := reportAs kTag applyTag m s

/-! ### AT (R68) -/

/-- R109: the plan of a MOVE that is SENDING, ISSUED or CANCELLING starts anew at the reference angle. -/
def restartPlan (st : Stn) (a : Angle) (en : Entry) : Entry :=
  if en.station = st ∧ (en.estate = .sending ∨ en.estate = .issued ∨ en.estate = .cancelling) then
    match en.params with
    | .move k t (some p) => { en with params := .move k t (some { p with start := a }) }
    | _ => en
  else en

/-- R68, R109: AT REFERENCED. -/
def atReferenced (st : Stn) (a : Angle) (s : State) : State :=
  let s := s.modStn st (fun r => { r with c := a, w := 0, referenced := true })
  { s with mrt := { s.mrt with entries := s.mrt.entries.map (Option.map (restartPlan st a)) } }

/-- R69: an AT without a MOVE in flight: uncommanded motion is found by the circular difference. -/
def atUncommanded (st : Stn) (a : Angle) (s : State) : State :=
  let r := s.station st
  let s1 := s.modStn st (fun r => { r with c := a })
  if r.mode ≠ .out ∧ r.cfg.tol < circDiff r.c a then
    let p := occPallet s st
    let s2 := clearReference st (recordFault fUncommandedMotion (some st) p s1)
    react fUncommandedMotion (s2.faultRec fUncommandedMotion).level (some st) s2
  else s1

/-- R123, R129: how an AT IN_POSITION (`pos`) or STOPPED at angle `a` ends a MOVE entry. -/
def moveEnding (en : Entry) (tol : Nat) (pos : Bool) (a : Angle) : Ending :=
  let at_ : Bool := match en.params with
    | .move _ t _ => atTarget tol a t
    | _ => false
  match en.estate with
  | .cancelling => if pos && at_ then .done none true else .cancelled
  | _ => if pos && at_ then .done none false else .positionError

/-- R68: the AT report. -/
def applyAt (st : Stn) (m : Msg) (s : State) : Eff :=
  let a : Angle := m.argA
  let status := m.argB.toNat
  if status = 3 then only (atReferenced st a s)
  else if 4 ≤ status then only (occur fNodeFault (some st) (occPallet s st) s)
  else
    match inFlight s st .move with
    | none => only (atUncommanded st a s)
    | some e =>
      match s.entry? e with
      | none => only s
      | some en =>
        if status = 1 then only (s.modStn st (fun r => { r with c := a }))
        else
          (windUpdate st (planOf en) a s, [.free e (moveEnding en (s.station st).cfg.tol (status == 0) a)])

/-- AT. -/
def execAt (m : Msg) (s : State) : Host.Outcome State Fault Refusal := reportAs kAt applyAt m s

/-! ### CLAMPED (R73, R124) -/

/-- R124: the station's ISSUED CLAMP entry that a sensed pattern confirms. -/
def confirmedClamp (s : State) (st : Stn) (p : Pattern) : Option EntryNo :=
  (entriesWhere s (fun en => en.station == st && en.estate == .issued && en.params == .clamp p)).head?

def applyClamped (st : Stn) (m : Msg) (s : State) : Eff :=
  let p := argPattern m
  let s1 := s.modStn st (fun r => { r with sensed := some p })
  match confirmedClamp s1 st p with
  | some e => (s1, [.free e (.done none false)])
  | none => only s1

/-- CLAMPED. -/
def execClamped (m : Msg) (s : State) : Host.Outcome State Fault Refusal := reportAs kClamped applyClamped m s

/-! ### TOOL (R72) -/

/-- R72 condition 2: an opening of circuits is under way and not yet confirmed. -/
def openingUnconfirmed (s : State) (st : Stn) : Bool :=
  !(entriesWhere s (fun en => en.station == st && en.estate == .issued && paramsKind en.params == .clamp)).isEmpty
    && (match (s.station st).sensed, (s.station st).commanded with
        | none, _ => true
        | some q, some c => q &&& ~~~c != 0
        | some q, none => q != 0)

/-- R72: the tool advances while the fixture is unsafe. -/
def toolConflict (s : State) (st : Stn) : Bool :=
  (inFlight s st .move).isSome || openingUnconfirmed s st || !atAStop s st

def applyTool (st : Stn) (m : Msg) (s : State) : Eff :=
  let s1 := s.modStn st (fun r => { r with tool := toolOf m.argA })
  if m.argA = 1 ∧ (s1.station st).mode ≠ .out ∧ toolConflict s1 st = true then
    only (occur fToolConflict (some st) (occPallet s1 st) s1)
  else only s1

/-- TOOL. -/
def execTool (m : Msg) (s : State) : Host.Outcome State Fault Refusal := reportAs kTool applyTool m s

/-! ### CYCLE_END (R125, R129) -/

/-- R125: the entry is a CYCLE of the operation. -/
def isCycleOf (op : Word) (en : Entry) : Bool :=
  match en.params with
  | .cycle _ o _ => o == op
  | _ => false

/-- R125, R129: how a CYCLE_END ends a CYCLE entry. -/
def cycleEnding (en : Entry) (r : CycleResult) : Ending :=
  match en.estate, r with
  | .cancelling, .aborted => .cancelled
  | .cancelling, r => .done (some r) true
  | _, r => .done (some r) false

def applyCycleEnd (st : Stn) (m : Msg) (s : State) : Eff :=
  match inFlight s st .cycle with
  | none => only s
  | some e =>
    match s.entry? e with
    | none => only s
    | some en =>
      if isCycleOf m.argA en then (s, [.free e (cycleEnding en (cycleResultOf m.argB))]) else only s

/-- CYCLE_END. -/
def execCycleEnd (m : Msg) (s : State) : Host.Outcome State Fault Refusal := reportAs kCycleEnd applyCycleEnd m s

/-! ### GONE (R42, R100, R126) -/

/-- R126: the RELEASE entries of the station that a GONE ends, the PENDING one first. -/
def goneFrees (s : State) (st : Stn) : List Task :=
  let rel (en : Entry) : Bool := en.station == st && paramsKind en.params == .release
  (entriesWhere s (fun en => rel en && en.estate == .pending)).map (fun e => .free e .cancelled)
    ++ (entriesWhere s (fun en => rel en && untransmittedRelease en && en.estate != .pending)).map
        (fun e => .free e .cancelled)
    ++ (entriesWhere s (fun en => rel en && en.estate == .issued)).map (fun e => .free e (.done none false))

/-- R42, R94, R99, R100, R126: the occupant, then the process, then the RELEASE entry. -/
def applyGone (st : Stn) (_m : Msg) (s : State) : Eff := (onGone st (goneOccupant st s), goneFrees s st)

/-- GONE. -/
def execGone (m : Msg) (s : State) : Host.Outcome State Fault Refusal := reportAs kGone applyGone m s

/-! ### NODE_FAULT (R161) -/

def applyNodeFault (st : Stn) (_m : Msg) (s : State) : Eff := only (occur fNodeFault (some st) (occPallet s st) s)

/-- NODE_FAULT. -/
def execNodeFault (m : Msg) (s : State) : Host.Outcome State Fault Refusal := reportAs kNodeFault applyNodeFault m s

end Sys2Proof.Machine
end

