-- ==== Sys2Proof/Machine/Dispatch.lean ====
section
/-! DEFINITION. The dispatch: one arm for each command, each a direct call of its meaning. -/

namespace Sys2Proof.Machine

def exec (i : Instr) (s : State) : Host.Outcome State Fault Refusal :=
  match i with
  | .powerOnReset straps rawA rawB => Sys2Proof.Machine.execPowerOnReset straps rawA rawB s
  | .pinReset straps => Sys2Proof.Machine.execPinReset straps s
  | .linkUp p => Sys2Proof.Machine.execLinkUp p s
  | .linkDown p => Sys2Proof.Machine.execLinkDown p s
  | .trapInputChange z => Sys2Proof.Machine.execTrapInputChange z s
  | .trapFilterAssert z => Sys2Proof.Machine.execTrapFilterAssert z s
  | .trapFilterRelease z => Sys2Proof.Machine.execTrapFilterRelease z s
  | .timeTick => Sys2Proof.Machine.execTimeTick s
  | .integrityScan => Sys2Proof.Machine.execIntegrityScan s
  | .transitExpiry slot => Sys2Proof.Machine.execTransitExpiry slot s
  | .settleExpiry st => Sys2Proof.Machine.execSettleExpiry st s
  | .entryDeadlineExpiry e => Sys2Proof.Machine.execEntryDeadlineExpiry e s
  | .deferExpiry e => Sys2Proof.Machine.execDeferExpiry e s
  | .escalation k => Sys2Proof.Machine.execEscalation k s
  | .downlaneReceive m => Sys2Proof.Machine.execDownlaneReceive m s
  | .messageDiscarded p => Sys2Proof.Machine.execMessageDiscarded p s
  | .hold => Sys2Proof.Machine.execHold s
  | .resume => Sys2Proof.Machine.execResume s
  | .clamp => Sys2Proof.Machine.execClamp s
  | .cycle => Sys2Proof.Machine.execCycle s
  | .release => Sys2Proof.Machine.execRelease s
  | .jog => Sys2Proof.Machine.execJog s
  | .refer => Sys2Proof.Machine.execRefer s
  | .move => Sys2Proof.Machine.execMove s
  | .stop => Sys2Proof.Machine.execStop s
  | .abort => Sys2Proof.Machine.execAbort s
  | .statusReq => Sys2Proof.Machine.execStatusReq s
  | .downlaneForward => Sys2Proof.Machine.execDownlaneForward s
  | .tblRead => Sys2Proof.Machine.execTblRead s
  | .tblWrite => Sys2Proof.Machine.execTblWrite s
  | .wideHighWordWrite => Sys2Proof.Machine.execWideHighWordWrite s
  | .recipeWrite => Sys2Proof.Machine.execRecipeWrite s
  | .stationConfigWrite => Sys2Proof.Machine.execStationConfigWrite s
  | .windLimitToleranceWrite => Sys2Proof.Machine.execWindLimitToleranceWrite s
  | .zoneWrite => Sys2Proof.Machine.execZoneWrite s
  | .approachCapacityWrite => Sys2Proof.Machine.execApproachCapacityWrite s
  | .designationWrite => Sys2Proof.Machine.execDesignationWrite s
  | .controllerNodeWrite => Sys2Proof.Machine.execControllerNodeWrite s
  | .eventSummaryWrite => Sys2Proof.Machine.execEventSummaryWrite s
  | .maskWrite => Sys2Proof.Machine.execMaskWrite s
  | .filterWrite => Sys2Proof.Machine.execFilterWrite s
  | .exitModeWrite => Sys2Proof.Machine.execExitModeWrite s
  | .interlockWrite => Sys2Proof.Machine.execInterlockWrite s
  | .reactionWrite => Sys2Proof.Machine.execReactionWrite s
  | .counterConfigWrite => Sys2Proof.Machine.execCounterConfigWrite s
  | .palletRecordWrite => Sys2Proof.Machine.execPalletRecordWrite s
  | .index => Sys2Proof.Machine.execIndex s
  | .cancel => Sys2Proof.Machine.execCancel s
  | .mode => Sys2Proof.Machine.execMode s
  | .forget => Sys2Proof.Machine.execForget s
  | .find => Sys2Proof.Machine.execFind s
  | .commit => Sys2Proof.Machine.execCommit s
  | .discard => Sys2Proof.Machine.execDiscard s
  | .freeze => Sys2Proof.Machine.execFreeze s
  | .trapSet => Sys2Proof.Machine.execTrapSet s
  | .trapAck => Sys2Proof.Machine.execTrapAck s
  | .faultAck => Sys2Proof.Machine.execFaultAck s
  | .clearCounts => Sys2Proof.Machine.execClearCounts s
  | .recover => Sys2Proof.Machine.execRecover s
  | .snapshot => Sys2Proof.Machine.execSnapshot s
  | .clearCounters => Sys2Proof.Machine.execClearCounters s
  | .setTime => Sys2Proof.Machine.execSetTime s
  | .reset => Sys2Proof.Machine.execReset s
  | .tagReport m => Sys2Proof.Machine.execTag m s
  | .atReport m => Sys2Proof.Machine.execAt m s
  | .clampedReport m => Sys2Proof.Machine.execClamped m s
  | .toolReport m => Sys2Proof.Machine.execTool m s
  | .cycleEndReport m => Sys2Proof.Machine.execCycleEnd m s
  | .goneReport m => Sys2Proof.Machine.execGone m s
  | .nodeFaultReport m => Sys2Proof.Machine.execNodeFault m s
  | .uplaneForward m => Sys2Proof.Machine.execUplaneForward m s
  | .portATransmit ready => Sys2Proof.Machine.execPortATransmit ready s
  | .portBHold ready => Sys2Proof.Machine.execPortBHold ready s
  | .portBResume ready => Sys2Proof.Machine.execPortBResume ready s
  | .stopAbortTransmit ready => Sys2Proof.Machine.execStopAbortTransmit ready s
  | .deqTransmit ready => Sys2Proof.Machine.execDeqTransmit ready s
  | .owedStatusReqEnqueue => Sys2Proof.Machine.execOwedStatusReqEnqueue s
  | .sendingEntryEnqueue => Sys2Proof.Machine.execSendingEntryEnqueue s
  | .keptRefusalDelivery => Sys2Proof.Machine.execKeptRefusalDelivery s
  | .ingressPlaceClaim p => Sys2Proof.Machine.execIngressPlaceClaim p s
  | .transmissionEnd p => Sys2Proof.Machine.execTransmissionEnd p s
  | .resetInputLow => Sys2Proof.Machine.execResetInputLow s
  | .unknownActionCode => Sys2Proof.Machine.execUnknownActionCode s

end Sys2Proof.Machine
end

