-- ==== Sys2Proof/Safety.lean ====
section
/-! DEFINITION. The terms in which the statements about the TP16 speak: when a command takes a DIQ message, the states that
answers and refusals lead to, a calm line, the values after power-on, what every event keeps, and which commands take their
message from the DIQ, write a table, or are events of the time. -/

namespace Sys2Proof.Machine

/-! ### When a command takes its message -/

/-- R5, R6, R7: the device is out of reset, `d` is the DIQ's next message, it is of the row, and it can be taken. -/
abbrev Takes (row : Instr) (d : DiqItem) (s : State) : Prop :=
  s.mga.inReset = false ∧ nextItem s.chi.diq = some d ∧ rowOf s d.msg = row ∧ canTake s d.msg = true

/-- The model's marks are clear, as they are between events. -/
abbrev BetweenEvents (s : State) : Prop := s.ev = clearWithin

/-- The message comes from the configured controller node (R8, R180). -/
abbrev FromController (d : DiqItem) (s : State) : Prop := d.msg.src = s.mga.controller

/-- An event out of reset, with the marks clear. -/
abbrev Running (s : State) : Prop := BetweenEvents s ∧ s.mga.inReset = false

/-- Nobody waits for another: no process waits or has a command due, no command is deferred, and an entry is free, so that
no message of the DIQ waits for one (R82, R119, R142). -/
abbrev NobodyWaits (s : State) : Prop :=
  s.ilk.deferred = [] ∧ (freeEntry s).isSome = true ∧
    ∀ st, (s.proc st).wait = .nothing ∧ (s.proc st).due = none ∧ (s.proc st).replan = false

/-- R11, R12: an intact message of a report kind has come at port B into its claimed place, from the node of the station it
names: the report is applied at `st`. -/
abbrev ReportAt (kind : Byte) (m : Msg) (st : Stn) (s : State) : Prop :=
  s.mga.inReset = false ∧ s.chi.b.up = true ∧ s.chi.b.claimed = true ∧ m.intact = true ∧ m.kind = kind
    ∧ m.station.toNat = st.val ∧ m.src = (s.station st).cfg.node

/-- R1, R16: the port B transmitter can start a message and no hold image update is due. -/
abbrev PortBFree (s : State) : Prop := canStart s .b true = true ∧ imageDue s = false

/-! ### Which row a message is of (R7, R180) -/

/-- The rows that a message's kind gives, whatever its dst. A row of R7 that refuses it comes later. -/
def kindRows : List (Byte × Instr) :=
  [(kHold, .hold), (kResume, .resume), (kMove, .move), (kStop, .stop), (kAbort, .abort), (kClamp, .clamp), (kCycle, .cycle),
   (kRelease, .release), (kJog, .jog), (kRefer, .refer), (kStatusReq, .statusReq)]

/-- The rows that the code of an ACTION gives (section 12.3). -/
def actionRows : List (Nat × Instr) :=
  [(1, .index), (2, .cancel), (3, .mode), (4, .forget), (5, .find), (6, .commit), (7, .discard), (8, .freeze), (9, .trapSet),
   (10, .trapAck), (11, .faultAck), (12, .clearCounts), (13, .recover), (14, .snapshot), (15, .clearCounters), (16, .setTime),
   (17, .reset)]

/-- The rows of TBL_WRITE that have a behaviour of their own: the table, the entries and the words of each (section 12.3). -/
def writeRows : List (Nat × List Nat × List Nat × Instr) :=
  [(0, [0], [1], .controllerNodeWrite), (0, [0], [2, 3], .designationWrite), (0, [0], [9], .eventSummaryWrite),
   (0, [0], [10, 11], .maskWrite), (0, [1, 2], [4, 5], .filterWrite), (0, [1, 2], [6], .exitModeWrite),
   (1, List.range 16, [1], .zoneWrite), (1, List.range 16, [11, 15], .windLimitToleranceWrite),
   (1, List.range 16, [22], .approachCapacityWrite), (1, List.range 16, [14, 20], .wideHighWordWrite),
   (1, List.range 16, [0, 2, 3, 4, 5, 6, 7, 8, 9, 10, 12, 13, 16, 17, 18, 19, 21, 23], .stationConfigWrite),
   (2, List.range 128, List.range 32, .recipeWrite),
   (4, List.range 32, [6], .wideHighWordWrite), (4, List.range 32, [0, 1, 2, 3, 4, 5, 7], .interlockWrite),
   (5, List.range 20, [1], .wideHighWordWrite), (5, List.range 20, [0, 2], .reactionWrite),
   (6, List.range 8, [0, 1, 2, 3, 4, 5], .counterConfigWrite), (7, List.range 48, [7, 8, 9], .palletRecordWrite)]

/-- A message addresses a word of such a row. -/
abbrev Addresses (m : Msg) (r : Nat × List Nat × List Nat × Instr) : Prop :=
  addrTable m = r.1 ∧ addrEntry m ∈ r.2.1 ∧ addrWord m ∈ r.2.2.1

/-! ### What the taking of a message needs (R6) -/

/-- R8: a CLAMP, CYCLE, RELEASE, JOG or REFER for station `st` passes every check. -/
abbrev PassesRequestChecks (m : Msg) (st : Stn) (s : State) : Prop :=
  m.src = s.mga.controller ∧ m.station.toNat = st.val ∧ m.dst = (s.station st).cfg.node ∧ s.fcu.restricted = false
    ∧ stationTrapped s st = false

/-- R7, R9, R10: taking the message would place it in the DEQ as it is: a STATUS_REQ, a kind that no row names, or a request for an
OUT station that passes its hard-wired checks, a JOG or REFER the one of the tool. -/
def WouldEnterDeq (m : Msg) (s : State) : Prop :=
  m.dst ≠ s.mga.node ∧
    ((m.kind = kStatusReq ∨ ∀ r ∈ kindRows, m.kind ≠ r.1) ∨
     ∃ st : Stn, PassesRequestChecks m st s ∧ (s.station st).mode = .out ∧
      (((m.kind = kJog ∨ m.kind = kRefer) ∧ (s.station st).tool = .retracted)
        ∨ (m.kind = kClamp ∧ hardCheck s st (.clamp (m.argA.setWidth 4)) = none)
        ∨ (m.kind = kCycle ∧ hardCheck s st .cycle = none) ∨ (m.kind = kRelease ∧ hardCheck s st .release = none)))

/-- R9, R102, R117: taking the message would create an MRT entry: a CLAMP, CYCLE or RELEASE for a MANUAL station with room, or an
ACTION INDEX that passes its checks and is not at its target. -/
def WouldCreateEntry (m : Msg) (s : State) : Prop :=
  (m.dst ≠ s.mga.node ∧ (m.kind = kClamp ∨ m.kind = kCycle ∨ m.kind = kRelease) ∧
    ∃ st : Stn, PassesRequestChecks m st s ∧ (s.station st).mode = .manual
      ∧ ¬ ((activeEntry s st).isSome = true ∧ (pendingEntry s st).isSome = true)) ∨
  (m.dst = s.mga.node ∧ m.kind = kAction ∧ m.argA = 1 ∧ m.src = s.mga.controller ∧ s.fcu.restricted = false ∧
    ∃ (st : Stn) (k : Fin 8), m.station.toNat = st.val ∧ m.argB.toNat = k.val ∧ stationTrapped s st = false
      ∧ isMachining s st = true ∧ (s.station st).mode = .manual ∧ (s.station st).referenced = true
      ∧ ¬ (hasEntry s st = false ∧ (s.station st).isAt (targetOf (s.station st).cfg k (occOffset s st)) = true)
      ∧ ¬ ((activeEntry s st).isSome = true ∧ (pendingEntry s st).isSome = true))

/-- R6: an ACTION CANCEL naming a station whose active entry is an ISSUED MOVE or CYCLE. -/
def CancelsIssued (m : Msg) (s : State) : Prop :=
  m.dst = s.mga.node ∧ m.kind = kAction ∧ m.argA = 2 ∧
    ∃ st : Stn, m.station.toNat = st.val ∧ ∃ e ∈ activeEntry s st, ∃ en ∈ s.entry? e,
      en.estate = .issued ∧ (paramsKind en.params = .move ∨ paramsKind en.params = .cycle)

/-! ### The interlock checker's terms (R134, R135, R139, R140) -/

/-- R134: a command of a kind is under way at a station. -/
def UnderWay (k : CmdKind) (st : Stn) (s : State) : Prop :=
  ∃ e, ∃ en ∈ s.entry? e, en.station = st ∧ paramsKind en.params = k
    ∧ (en.estate = .sending ∨ en.estate = .issued ∨ en.estate = .cancelling)

/-- R68, R72: a MOVE is in flight at a station. -/
def MoveInFlight (st : Stn) (s : State) : Prop :=
  ∃ e, ∃ en ∈ s.entry? e, en.station = st ∧ paramsKind en.params = .move ∧ (en.estate = .issued ∨ en.estate = .cancelling)

/-- R104, R134: C is at the target of stop `k`, with the occupant's offset. -/
abbrev AtStopTarget (k : Fin 8) (st : Stn) (s : State) : Prop :=
  circDiff (s.station st).c (targetOf (s.station st).cfg k (occOffset s st)) ≤ (s.station st).cfg.tol

/-- R134: the fixture is at a stop. -/
abbrev FixtureAtAStop (st : Stn) (s : State) : Prop := (s.station st).referenced = true ∧ ∃ k, AtStopTarget k st s

/-- R134: a CLAMP of pattern `p` lacks a circuit of the sensed pattern, or that is UNKNOWN. -/
abbrev CircuitOpening (p : Pattern) (sensed : Option Pattern) : Prop :=
  ∀ q ∈ sensed, ∃ c : Fin 4, q.getLsbD c = true ∧ p.getLsbD c = false

/-- R134: a CLAMP of pattern `p` holds a circuit that the sensed pattern lacks, or any while that is UNKNOWN. -/
abbrev CircuitClosing (p : Pattern) (sensed : Option Pattern) : Prop :=
  (sensed = none ∧ p ≠ 0) ∨ ∃ q ∈ sensed, ∃ c : Fin 4, p.getLsbD c = true ∧ q.getLsbD c = false

/-- R73: the sensed pattern equals the commanded one; UNKNOWN equals no pattern. -/
abbrev ClampedAsCommanded (st : Stn) (s : State) : Prop := ∃ q ∈ (s.station st).sensed, (s.station st).commanded = some q

/-- R135: the hard-wired check of a command's kind passes: H1 a MOVE, H2 a circuit-opening CLAMP, H3 a CYCLE, H4 a RELEASE. -/
def KindCheckPasses (st : Stn) (j : Judged) (s : State) : Prop :=
  let r := s.station st
  match j with
  | .move => r.tool = .retracted ∧ ClampedAsCommanded st s ∧ r.referenced = true
  | .clamp p => CircuitOpening p r.sensed → r.tool = .retracted ∧ ¬ UnderWay .move st s
  | .cycle => ClampedAsCommanded st s ∧ r.sensed ≠ some 0 ∧ FixtureAtAStop st s ∧ ¬ UnderWay .move st s
  | .release => r.sensed = some 0 ∧ r.tool = .retracted ∧ (st ≠ s.stb.load → s.stb.rework ≠ some st → AtStopTarget 0 st s)

/-- R135: the number of the check of a command's kind. -/
def kindCheckNumber : Judged → Nat
  | .move => 1
  | .clamp _ => 2
  | .cycle => 3
  | .release => 4

/-- R139: an interlock entry judges a command of station `st`. -/
def JudgesCommand (e : IlkEntry) (st : Stn) (j : Judged) (s : State) : Prop :=
  e.valid = true ∧ e.subjects.getLsbD st.val = true ∧
    match j with
    | .move => e.cmds.move = true
    | .clamp p => (CircuitOpening p (s.station st).sensed ∧ e.cmds.clampOpen = true)
        ∨ (CircuitClosing p (s.station st).sensed ∧ e.cmds.clampClose = true)
    | .cycle => e.cmds.cycle = true
    | .release => e.cmds.release = true

/-- R140: a condition holds at the object station. -/
def ConditionHolds (c : Condition) (o : Stn) (s : State) : Prop :=
  match c with
  | .objectEmpty => (s.station o).occupant = .nobody
  | .toolsRetracted => (s.station o).tool = .retracted
  | .notMoving => ¬ UnderWay .move o s
  | .notMachining => ¬ UnderWay .cycle o s
  | .atStop k => (s.station o).referenced = true ∧ AtStopTarget k o s
  | .inMode m => (s.station o).mode = m

/-! ### What a reaction traps (R159) -/

/-- R150, R159: a reaction at a level adds FAULT to the cause set of a zone: to the zone of its station at ZONE_TRAP, to both at
LINE_TRAP and RESTRICT, and to both where a level that needs a station has none. -/
def TrapsZone (l : Level) (st : Option Stn) (z : Zone) (s : State) : Prop :=
  match l with
  | .report => False
  | .stationStop => st = none
  | .zoneTrap => ∀ x ∈ st, (s.station x).cfg.zone = z
  | .lineTrap => True
  | .restrict => True

/-! ### Answers and refusals -/

/-- The message `d` taken and an ANSWER to its ACTION placed (R182). -/
def answered (d : DiqItem) (st : Status) (argB : Nat) (s : State) : State :=
  answerAction d.msg st (BitVec.ofNat 16 argB) (removeDiq d s)

/-- The message `d` taken and an ANSWER to its table request placed (R182). -/
def tableAnswered (d : DiqItem) (st : Status) (argB : Nat) (s : State) : State :=
  answerTable d.msg st (BitVec.ofNat 16 argB) (removeDiq d s)

/-- The message `d` taken and its REFUSED placed and counted, to the end of the event (R13, R173). -/
def refusedFor (d : DiqItem) (reason : Status) (detail : Nat) (s : State) : State :=
  closeEvent (refuse d.msg reason detail (removeDiq d s))

/-- The message `d` taken and placed in the DEQ unchanged (R7). -/
def forwarded (d : DiqItem) (s : State) : State :=
  { s with chi := { s.chi with diq := s.chi.diq.erase d, deq := s.chi.deq ++ [{ msg := d.msg, entry := none }] } }

/-- The messages that wait for port A from the device itself, oldest first: the NQ, then the kept refusals (R132). -/
def outgoing (s : State) : List Msg := s.chi.nq ++ s.mrt.kept

/-! ### What an event leads to -/

/-- An event whose own effect is `s`, followed by the pass over the deferred list alone (R143). -/
def passEvent (s : State) : Host.Outcome State Fault Refusal := conclude (duePass s, [])

/-- An event whose own effect is `s`, followed by the promotion of the READY entry `e` (R120). -/
def promoteEvent (e : EntryNo) (s : State) : Host.Outcome State Fault Refusal := conclude (s, [.promote e])

/-- R183, R184, R23: from `s` to `t` an event is told: the flag of its class is set, and with its class in the notice mask and four
places free its NOTICE waits for port A. -/
def Tells (ev : Event) (station : Byte) (pallet : Tag) (detail : Nat) (s t : State) : Prop :=
  t.mga.summary.getLsbD (classCode (eventClass ev)) = true ∧
  (s.mga.noticeMask.getLsbD (classCode (eventClass ev)) = true → s.chi.nq.length + s.mrt.kept.length ≤ 12 →
    ∃ n ∈ outgoing t, n.kind = kNotice ∧ n.station = station ∧ n.pallet = pallet
      ∧ n.argA.toNat / 256 = eventCode ev ∧ n.argA.toNat % 128 = detail % 128)

/-- R160: one more occurrence of a fault kind, with its station and pallet, and no other record changed. -/
def Raises (k : FaultKind) (st : Option Stn) (p : Tag) (s t : State) : Prop :=
  (t.faultRec k).pending = true ∧ (t.faultRec k).count = min 255 ((s.faultRec k).count + 1)
    ∧ (t.faultRec k).lastStn = st ∧ (t.faultRec k).lastPallet = p ∧ ∀ j, j ≠ k → t.faultRec j = s.faultRec j

/-- R99: the station is BLOCKED, its process without a pallet. -/
def Blocks (st : Stn) (t : State) : Prop := (t.proc st).pstate = .blocked ∧ (t.proc st).pallet = none

/-- The occupants after a TAG at `st`: `o` there, the others as they were (R33). -/
def OccupiedBy (st : Stn) (o : Occupant) (s t : State) : Prop :=
  (t.station st).occupant = o ∧ ∀ x, x ≠ st → (t.station x).occupant = (s.station x).occupant

/-- Slot `i` holds record `r`, the one record of its tag `p` (R24). -/
abbrev HasRecord (p : Tag) (i : Slot) (r : Record) (s : State) : Prop :=
  s.ptb.slots.get i = some r ∧ r.tag = p ∧ ∀ j q, s.ptb.slots.get j = some q → q.tag = p → j = i

/-- No record holds the tag (R24). -/
abbrev NoRecord (p : Tag) (s : State) : Prop := ∀ j q, s.ptb.slots.get j = some q → q.tag ≠ p

/-- A station's entry can leave the table with nothing else following: no process waits, has a command due or is to be
re-planned, the station has no other entry and no pending mode, and another entry is free (R119, R130). -/
abbrev LeavesAlone (e : EntryNo) (en : Entry) (s : State) : Prop :=
  en.origin = .controller ∧ (s.station en.station).pendingMode = none
    ∧ (∀ y, (s.proc y).wait = .nothing ∧ (s.proc y).due = none ∧ (s.proc y).replan = false)
    ∧ (∀ j q, s.entry? j = some q → q.station = en.station → j = e) ∧ (freeEntry s).isSome = true

/-- R130, R132: entry `e` is freed REFUSED: it has left the table, and a REFUSED with the reason and the detail waits for port A,
to the controller. -/
def FreedRefused (e : EntryNo) (en : Entry) (reason : Status) (detail : Nat) (s t : State) : Prop :=
  t.entry? e = none ∧ (∀ j, j ≠ e → t.entry? j = s.entry? j)
    ∧ t.ilk = { s.ilk with deferred := s.ilk.deferred.filter (fun it => it.entry != e) }
    ∧ (∃ x ∈ outgoing t, x.kind = kRefused ∧ x.dst = s.mga.controller ∧ x.station.toNat = en.station.val
        ∧ x.pallet = en.pallet ∧ x.argA.toNat = statusCode reason
        ∧ x.argB = cmdCode (paramsKind en.params) ++ BitVec.ofNat 8 detail)
    ∧ t.stb = s.stb ∧ t.ptb = s.ptb ∧ t.rcs = s.rcs ∧ t.trp = s.trp ∧ t.fcu = s.fcu

/-- R130, R131: entry `e` is freed DONE without a cycle result: it has left the table, and COMMAND is told. -/
def FreedDone (e : EntryNo) (en : Entry) (s t : State) : Prop :=
  t.entry? e = none ∧ (∀ j, j ≠ e → t.entry? j = s.entry? j)
    ∧ t.ilk = { s.ilk with deferred := s.ilk.deferred.filter (fun it => it.entry != e) }
    ∧ Tells .command (stnByte en.station) en.pallet (32 * cmdNo (paramsKind en.params)) s t
    ∧ t.stb = s.stb ∧ t.ptb = s.ptb ∧ t.rcs = s.rcs ∧ t.trp = s.trp ∧ t.fcu = s.fcu

/-- R130, R131: entry `e` has left the table, the others stay as they are, and COMMAND is told with the outcome's code. -/
def FreedTold (e : EntryNo) (en : Entry) (code : Nat) (s t : State) : Prop :=
  t.entry? e = none ∧ (∀ j, j ≠ e → t.entry? j = s.entry? j)
    ∧ Tells .command (stnByte en.station) en.pallet (32 * cmdNo (paramsKind en.params) + code) s t

/-! ### What the end of a hold leads to -/

/-- The holds of some stations end with nothing to promote: no entry of theirs is READY, none settles in no time, and no command is
deferred (R77, R87, R121, R143). -/
def EndsCalmly (ended : Stn → Prop) (s : State) : Prop :=
  s.ilk.deferred = []
    ∧ (∀ e en, s.entry? e = some en → ended en.station → en.estate ≠ .ready)
    ∧ ∀ x, ended x → (s.proc x).pstate = .settling → (s.station x).cfg.settle ≠ 0

/-- R114, R87: the holds of some stations have ended: each of their entries with a remaining time has its deadline again, each
settle its end in full, and no other entry and no other process changes. -/
def Released (ended : Stn → Prop) (s t : State) : Prop :=
  (∀ e, s.entry? e = none → t.entry? e = none)
    ∧ (∀ e en, s.entry? e = some en → ended en.station → en.remaining = none → t.entry? e = some en)
    ∧ (∀ e en n, s.entry? e = some en → ended en.station → en.remaining = some n →
        t.entry? e = some { en with deadline := some (s.mga.time + BitVec.ofNat 32 n), remaining := none })
    ∧ (∀ e en, s.entry? e = some en → ¬ ended en.station → t.entry? e = some en)
    ∧ (∀ x, ended x → (s.proc x).pstate = .settling → t.proc x = { s.proc x with
        settleEnd := some (s.mga.time + BitVec.ofNat 32 (s.station x).cfg.settle), settleTaken := false })
    ∧ ∀ x, ¬ (ended x ∧ (s.proc x).pstate = .settling) → t.proc x = s.proc x

/-- R120: an entry can be promoted to the DEQ at once when its station is not held: the hard-wired check of its kind passes, no
interlock entry is valid, and the DEQ has a place that no SENDING entry waits for. -/
abbrev CanBeSent (st : Stn) (j : Judged) (s : State) : Prop :=
  kindCheck s st j = none ∧ (∀ n, (s.ilk.table.get n).valid = false) ∧ sendingWaiters s = [] ∧ s.chi.deq.length < 16

/-- R120, R106: the READY entry `e` is SENDING, a MOVE planned anew, and its command stands at the tail of the DEQ. -/
def Sent (e : EntryNo) (en : Entry) (s t : State) : Prop :=
  t.entry? e = some { planEntry s en with estate := .sending }
    ∧ t.chi.deq = s.chi.deq ++ [{ msg := commandMsg s (planEntry s en), entry := some e }]

/-- R85 case 4, R118, R120: the process of `st` works on pallet `p` in state `ps` with a new entry `e` in the table: READY where the
station is held, otherwise SENDING with its command at the tail of the DEQ. -/
def Commanded (st : Stn) (e : EntryNo) (params : Params) (p : Tag) (ps : PState) (held : Bool) (s t : State) : Prop :=
  let en : Entry := { station := st, params := params, origin := .dispatch, pallet := p, received := none, estate := .ready,
                      cancelReq := false, acceptance := s.mga.time, deadline := none, remaining := none, released := none }
  (t.proc st).pstate = ps ∧ (t.proc st).pallet = some p ∧ (∀ j, j ≠ e → t.entry? j = s.entry? j)
    ∧ (held = true → t.entry? e = some en ∧ t.chi.deq = s.chi.deq)
    ∧ (held = false → t.entry? e = some { en with estate := .sending }
        ∧ t.chi.deq = s.chi.deq ++ [{ msg := commandMsg s en, entry := some e }])

/-! ### What the time makes due -/

/-- R31, R87, R115, R127, R145, R149, R163: at the time of `s` no trap input filter is over and no transit deadline, settle end,
entry deadline, deferral deadline or escalation expiry has passed. -/
structure NothingDue (s : State) : Prop where
  filters : ∀ z, assertDue s z = false ∧ releaseDue s z = false
  transits : ∀ i r, s.ptb.slots.get i = some r → transitDue s.mga.time r = none
  settles : ∀ st, (s.proc st).settleTaken = false → timePassed (s.proc st).settleEnd s.mga.time = false
  entries : ∀ e en, s.entry? e = some en → entryDue s.mga.time en = false
  deferrals : ∀ it ∈ s.ilk.deferred, passed it.deadline s.mga.time = false
  escalations : ∀ k, (s.faultRec k).pending = true → timePassed (s.faultRec k).expiry s.mga.time = false

/-! ### The values after power-on and pin reset -/

/-- R80, R65: a station's values after power-on and pin reset. -/
structure StationAtReset (st : Stn) (r : Station) : Prop where
  node : r.cfg.node = BitVec.ofNat 6 (st.val + 2)
  zone : r.cfg.zone = .a
  stops : ∀ k, r.cfg.stops.get k = 0
  zero : r.cfg.zero = 0
  tol : r.cfg.tol = 32
  rate : r.cfg.rate = 64
  accel : r.cfg.accel = 200
  windLimit : r.cfg.windLimit = 131072
  margin : r.cfg.margin = 25
  settle : r.cfg.settle = 50
  clampLimit : r.cfg.clampLimit = 1500
  releaseLimit : r.cfg.releaseLimit = 8000
  stopLimit : r.cfg.stopLimit = 2000
  transitLimit : r.cfg.transitLimit = 60000
  capacity : r.cfg.capacity = 2
  mode : r.mode = .out
  pendingMode : r.pendingMode = none
  angle : r.c = 0
  wind : r.w = 0
  referenced : r.referenced = false
  tool : r.tool = .unknown
  commanded : r.commanded = none
  sensed : r.sensed = none
  occupant : r.occupant = .nobody
  holds : r.holds = { operator := false, trap := true, fault := false }
  stopCauses : r.stopCauses = 0

/-- R155: a zone's values after power-on and pin reset, its input at level `raw`. -/
structure ZoneAtReset (raw : Bool) (z : ZoneState) : Prop where
  causes : z.causes = { pin := true, fault := false, command := false, reset := true }
  filtered : z.filtered = true
  level : z.raw = raw
  assertFilter : z.assertFilter = 3
  releaseFilter : z.releaseFilter = 50
  exitMode : z.exitAuto = false

/-- R160, R158: a fault record is CLEAR with nothing counted, at the configured level. -/
structure RecordAtReset (c : Reaction) (r : FaultRec) : Prop where
  clear : r.pending = false
  count : r.count = 0
  first : r.firstStn = none ∧ r.firstPallet = 0
  last : r.lastStn = none ∧ r.lastPallet = 0
  level : r.level = c.level
  zones : r.zones = { a := false, b := false }
  expiry : r.expiry = none

/-- R179: a counter is off with nothing counted. -/
structure CounterAtReset (c : Counter) : Prop where
  source : c.source = .off
  threshold : c.threshold = 0
  flags : c.invert = false ∧ c.edge = false
  count : c.count = 0 ∧ c.mark = false ∧ c.prev = false
  snapshot : c.snapCount = 0 ∧ c.snapMark = false

/-- What power-on and pin reset leave (R21, R27, R46, R62, R64, R80, R82, R133, R138, R146, R155, R160, R170, R179, R183,
R185, R186). -/
structure AfterReset (cause : ResetCause) (straps : Node) (rawA rawB : Bool) (t : State) : Prop where
  node : t.mga.node = if straps = 63 then 62 else straps
  controller : t.mga.controller = 0
  resetCause : t.mga.cause = cause
  time : t.mga.time = 0 ∧ t.mga.prescaler = 0
  latch : t.mga.latch = 0
  released : t.mga.inReset = false
  summary : t.mga.summary = 0x100
  masks : t.mga.noticeMask = 0x1FF ∧ t.mga.attnMask = 0x111
  links : t.chi.a.up = false ∧ t.chi.b.up = false
  ports : t.chi.a.claimed = false ∧ t.chi.b.claimed = false ∧ t.chi.a.tx = none ∧ t.chi.b.tx = none
  queues : t.chi.diq = [] ∧ t.chi.uiq = [] ∧ t.chi.deq = [] ∧ t.chi.ugq = []
  start : ∃ m, t.chi.nq = [m] ∧ m.kind = kNotice ∧ m.dst = 0 ∧ m.src = t.mga.node ∧ m.station = 255 ∧ m.pallet = 0
    ∧ m.argA = BitVec.ofNat 16 (256 * eventCode .start + causeCode cause)
  served : t.chi.lastServed = .nq
  image : t.chi.sent = 0 ∧ t.chi.owed = 0 ∧ t.chi.softHold = false
  loss : t.chi.afterLoss = false
  slots : ∀ i, t.ptb.slots.get i = none
  lists : ∀ st, t.ptb.approach.get st = []
  admission : t.ptb.pendingAdm = none
  offsetMax : t.ptb.offsetMax = 512
  banks : ∀ b, (t.rcs.banks.get b).bstate = .empty ∧ (t.rcs.banks.get b).generation = none
  generation : t.rcs.genCounter = 0 ∧ t.rcs.staging = 0
  designation : t.stb.load = 0 ∧ t.stb.rework = none
  stations : ∀ st, StationAtReset st (t.station st)
  processes : ∀ st, (t.proc st).pstate = .empty ∧ (t.proc st).pallet = none ∧ (t.proc st).stepEnded = false
    ∧ (t.proc st).settleEnd = none ∧ (t.proc st).settleSucc = none ∧ (t.proc st).wait = .nothing
    ∧ (t.proc st).waitingSince = none
  entries : ∀ e, t.entry? e = none
  kept : t.mrt.kept = []
  interlocks : ∀ i, (t.ilk.table.get i).valid = false
  deferred : t.ilk.deferred = []
  frozen : t.ilk.frozen = false
  zones : ZoneAtReset rawA t.trp.a ∧ ZoneAtReset rawB t.trp.b
  reactions : ∀ k, (t.fcu.reaction.get k).level = defaultLevel k ∧ (t.fcu.reaction.get k).escalation = 0
  records : ∀ k, RecordAtReset (t.fcu.reaction.get k) (t.faultRec k)
  normal : t.fcu.restricted = false ∧ t.fcu.mismatch = 0
  bankChecks : t.fcu.checks.active = none ∧ t.fcu.checks.retiring = none
  counters : ∀ i, CounterAtReset (t.lmn.counters.get i)
  snapTime : t.lmn.snapTime = 0

/-! ### What every event keeps -/

/-- R1, R28, R142: no queue and no list holds more than its capacity, a claimed ingress place counted with its queue. -/
structure WithinCapacity (s : State) : Prop where
  diq : s.chi.diq.length + bitN s.chi.a.claimed ≤ 16
  uiq : s.chi.uiq.length + bitN s.chi.b.claimed ≤ 32
  deq : s.chi.deq.length ≤ 16
  ugq : s.chi.ugq.length ≤ 4
  nq : s.chi.nq.length ≤ 16
  deferred : s.ilk.deferred.length ≤ 8
  approach : ∀ st, (s.ptb.approach.get st).length ≤ 8

/-- R24, R28, R31, R41: the pallet table is in order. -/
structure PalletTable (s : State) : Prop where
  tagged : ∀ i r, s.ptb.slots.get i = some r → r.tag ≠ 0
  oneRecord : ∀ i j r q, s.ptb.slots.get i = some r → s.ptb.slots.get j = some q → r.tag = q.tag → i = j
  oncePerList : ∀ st, (s.ptb.approach.get st).Nodup
  listOfDestination : ∀ st p, p ∈ s.ptb.approach.get st ↔
    ∃ i r dl, s.ptb.slots.get i = some r ∧ r.tag = p ∧ r.rstate = .transit st dl
  admission : ∀ a, s.ptb.pendingAdm = some a → a.tag ≠ 0 ∧ NoRecord a.tag s

/-- R116, R120, R121, R142: the motion request table is in order: a station has at most one active entry and at most one PENDING
one, the deferred list holds exactly the DEFERRED entries, each once, and the DEQ holds an entry's command at most once and only
while the entry is SENDING. -/
structure EntryTable (s : State) : Prop where
  oneActive : ∀ e f x y, s.entry? e = some x → s.entry? f = some y → x.station = y.station →
    x.estate ≠ .pending → y.estate ≠ .pending → e = f
  onePending : ∀ e f x y, s.entry? e = some x → s.entry? f = some y → x.station = y.station →
    x.estate = .pending → y.estate = .pending → e = f
  deferred : ∀ e, (∃ it ∈ s.ilk.deferred, it.entry = e) ↔ ∃ en, s.entry? e = some en ∧ en.estate = .deferred
  deferredOnce : (s.ilk.deferred.map (·.entry)).Nodup
  commands : ∀ d ∈ s.chi.deq, ∀ e, d.entry = some e → ∃ en, s.entry? e = some en ∧ en.estate = .sending
  commandsOnce : (s.chi.deq.filterMap (·.entry)).Nodup

/-- The command takes its message from the DIQ. -/
def takesFromDiq : Instr → Bool
  | .hold | .resume | .clamp | .cycle | .release | .jog | .refer | .move | .stop | .abort | .statusReq
  | .downlaneForward | .tblRead | .tblWrite | .wideHighWordWrite | .recipeWrite | .stationConfigWrite
  | .windLimitToleranceWrite | .zoneWrite | .approachCapacityWrite | .designationWrite | .controllerNodeWrite
  | .eventSummaryWrite | .maskWrite | .filterWrite | .exitModeWrite | .interlockWrite | .reactionWrite
  | .counterConfigWrite | .palletRecordWrite | .index | .cancel | .mode | .forget | .find | .commit | .discard
  | .freeze | .trapSet | .trapAck | .faultAck | .clearCounts | .recover | .snapshot | .clearCounters | .setTime
  | .reset | .unknownActionCode => true
  | _ => false

/-- A TBL_READ or one of the rows of TBL_WRITE (R180). -/
def isTableRow : Instr → Bool
  | .tblRead | .tblWrite | .wideHighWordWrite | .recipeWrite | .stationConfigWrite | .windLimitToleranceWrite
  | .zoneWrite | .approachCapacityWrite | .designationWrite | .controllerNodeWrite | .eventSummaryWrite | .maskWrite
  | .filterWrite | .exitModeWrite | .interlockWrite | .reactionWrite | .counterConfigWrite | .palletRecordWrite => true
  | _ => false

/-- An ACTION, a code that is none of the 17 included (R180). -/
def isActionRow : Instr → Bool
  | .index | .cancel | .mode | .forget | .find | .commit | .discard | .freeze | .trapSet | .trapAck | .faultAck
  | .clearCounts | .recover | .snapshot | .clearCounters | .setTime | .reset | .unknownActionCode => true
  | _ => false

/-- The events that depend on the time alone: the trap input filters and the expiries (R31, R87, R115, R127, R145, R149, R163). -/
def isTimed : Instr → Bool
  | .trapFilterAssert _ | .trapFilterRelease _ | .transitExpiry _ | .settleExpiry _ | .entryDeadlineExpiry _
  | .deferExpiry _ | .escalation _ => true
  | _ => false

/-- The resets that power-on and the pin give (R185). -/
def isHardReset : Instr → Bool
  | .powerOnReset _ _ _ | .pinReset _ => true
  | _ => false

end Sys2Proof.Machine
end

