-- ==== Sys2Proof/Certificates/Slice0/Obligations.lean ====
section
/-! DEFINITION. The statements for the provers, from the numbered rules of the manual. The first part is about the machine as
a whole, the second about the operations that many commands share, the rest about the commands, family by family. -/

open Sys2Proof Sys2Proof.Machine

/-! ### The machine as a whole -/

/-- A step carries out the command at the front of the queue on the state with the queue's rest. -/
def Obligations.StepRunsFront : Prop :=
  ∀ (c : Instr) (rest : List Instr) (s : State), s.pending = c :: rest →
    step s = exec c { s with pending := rest }

/-- R186, R167, the model's choice for an empty queue (log entry 4): in reset the state stays; out of reset both prescalers
count one clock period, the millisecond prescaler carries at 25000 and the scan's at 6250000, and a carry queues the tick or
the scan. Nothing else changes. -/
def Obligations.IdleStepIsAClockPeriod : Prop :=
  ∀ s : State, s.pending = [] →
    (s.mga.inReset = true → step s = .next s) ∧
    (s.mga.inReset = false → ∃ t, step s = .next t
      ∧ t = { s with
          mga := { s.mga with prescaler := t.mga.prescaler }
          fcu := { s.fcu with scanClock := t.fcu.scanClock }
          pending := t.pending }
      ∧ (s.mga.prescaler < 24999 → t.mga.prescaler = s.mga.prescaler + 1 ∧ Instr.timeTick ∉ t.pending)
      ∧ (24999 ≤ s.mga.prescaler → t.mga.prescaler = 0 ∧ t.pending.head? = some .timeTick)
      ∧ (s.fcu.scanClock < 6249999 → t.fcu.scanClock = s.fcu.scanClock + 1 ∧ Instr.integrityScan ∉ t.pending)
      ∧ (6249999 ≤ s.fcu.scanClock → t.fcu.scanClock = 0 ∧ t.pending.getLast? = some .integrityScan))

/-- R185, R21, R80, R155: POWER_ON_RESET in any state, and PIN_RESET in a state held in reset, lead to the values after reset
with the straps read and the trap inputs at their levels; RESET_INPUT_LOW holds the device in reset, with nothing sent and no
place claimed. The model's choices beside these rules: PIN_RESET outside reset and RESET_INPUT_LOW beyond the ports change nothing
(log entries 1 and 17), the commands that wait stay (log entry 1), and the state the model starts from has these values with the
straps and the trap inputs unconnected and no command waiting (log entry 2). -/
def Obligations.HardResets : Prop :=
  AfterReset .power 63 false false State.reset ∧ State.reset.pending = [] ∧
  (∀ (straps : Node) (rawA rawB : Bool) (s : State), ∃ t, exec (.powerOnReset straps rawA rawB) s = .next t
    ∧ AfterReset .power straps rawA rawB t ∧ t.pending = s.pending ∧ BetweenEvents t) ∧
  (∀ (straps : Node) (s : State), s.mga.inReset = true → ∃ t, exec (.pinReset straps) s = .next t
    ∧ AfterReset .pin straps s.trp.a.raw s.trp.b.raw t ∧ t.pending = s.pending ∧ BetweenEvents t) ∧
  (∀ (straps : Node) (s : State), s.mga.inReset = false → exec (.pinReset straps) s = .next s) ∧
  (∀ s : State, exec .resetInputLow s = .next
    { s with
      mga := { s.mga with inReset := true }
      chi := { s.chi with
        a := { s.chi.a with claimed := false, tx := none }
        b := { s.chi.b with claimed := false, tx := none } } })

/-- R185: while RESET_N is low both ready lines are low and ATTN_N is high. That no command but a reset or a change of a trap
input's level then changes any state is the model's reading (log entry 17, which marks it as deduced, and log entry 1). -/
def Obligations.HeldInReset : Prop :=
  ∀ s : State, s.mga.inReset = true →
    readyA s = false ∧ readyB s = false ∧ attnN s = true ∧
    ∀ i : Instr, isHardReset i = false → i ≠ .resetInputLow → (∀ z, i ≠ .trapInputChange z) → exec i s = .next s

/-- R5: the next message of the DIQ is the oldest urgent one, or the oldest where none is urgent. R7, R180: which command a
message is, by its kind, and by its table word (section 12.3) or its action code where it is a management request to the device.
R6: a message can be taken when the DEQ has a free place for a normal one and for an urgent one that would enter it, the NQ has
the places that its replies can need, an MRT entry is free for a normal one that would create one, and the UGQ has a place for a
CANCEL of an ISSUED MOVE or CYCLE. The model's readings of it: a place that a SENDING entry, an owed STATUS_REQ or a kept
refusal waits for is not a free one (log entry 38), and an urgent command accepted into the MRT asks for no DEQ place (log entry
44). Of the commands that take a message from the DIQ, one for which the next message is not of its row, or cannot be taken,
changes nothing (log entry 1). -/
def Obligations.OnlyTheNextMessageIsTaken : Prop :=
  (∀ q : List DiqItem,
    (q = [] → nextItem q = none) ∧
    (∀ front d back, q = front ++ d :: back → d.msg.urgent = true → (∀ x ∈ front, x.msg.urgent = false) →
      nextItem q = some d) ∧
    (∀ d back, q = d :: back → (∀ x ∈ q, x.msg.urgent = false) → nextItem q = some d)) ∧
  (∀ (s : State) (m : Msg),
    (∀ r ∈ kindRows, m.kind = r.1 → rowOf s m = r.2) ∧
    (m.dst = s.mga.node → m.kind = kTblRead → rowOf s m = .tblRead) ∧
    (m.dst = s.mga.node → m.kind = kTblWrite → (∀ r ∈ writeRows, Addresses m r → rowOf s m = r.2.2.2)
      ∧ ((∀ r ∈ writeRows, ¬ Addresses m r) → rowOf s m = .tblWrite)) ∧
    (m.dst = s.mga.node → m.kind = kAction → (∀ r ∈ actionRows, m.argA.toNat = r.1 → rowOf s m = r.2)
      ∧ ((∀ r ∈ actionRows, m.argA.toNat ≠ r.1) → rowOf s m = .unknownActionCode)) ∧
    ((∀ r ∈ kindRows, m.kind ≠ r.1) →
      (m.dst ≠ s.mga.node ∨ (m.kind ≠ kTblRead ∧ m.kind ≠ kTblWrite ∧ m.kind ≠ kAction)) → rowOf s m = .downlaneForward)) ∧
  (∀ (s : State) (m : Msg), canTake s m = true ↔
    (m.urgent = false ∨ WouldEnterDeq m s → s.chi.deq.length < 16 ∧ sendingWaiters s = [] ∧ s.chi.owed = 0)
    ∧ s.chi.nq.length + s.mrt.kept.length
        + (if m.kind = kResume then max 1 (stationCount (namedStations m)) else 1) ≤ 16
    ∧ (m.urgent = false → WouldCreateEntry m s → ∃ e, s.entry? e = none)
    ∧ (CancelsIssued m s → s.chi.ugq.length < 4)) ∧
  ∀ (i : Instr) (s : State), takesFromDiq i = true → (¬ ∃ d, Takes i d s) → exec i s = .next s

/-- R1, R28, R142: no command and no clock period takes a queue, the deferred list or an approach list past its capacity. -/
def Obligations.EveryStepKeepsCapacities : Prop :=
  ∀ s t : State, WithinCapacity s → step s = .next t → WithinCapacity t

/-- R24, R28, R31, R41: no command and no clock period breaks the pallet table: no two records hold one tag and none holds tag 0,
a record in TRANSIT stands once in the approach list of its destination and no list holds anything else, and a pending admission
is of a tag that no record holds. -/
def Obligations.EveryStepKeepsThePalletTable : Prop :=
  ∀ s t : State, PalletTable s → step s = .next t → PalletTable t

/-- R116, R142, R120, R121: no command and no clock period breaks the motion request table: a station has at most one active entry
and at most one PENDING one, the deferred list holds exactly the DEFERRED entries, each once, and the DEQ holds an entry's command at
most once and only while the entry is SENDING. -/
def Obligations.EveryStepKeepsTheEntryTable : Prop :=
  ∀ s t : State, EntryTable s → step s = .next t → EntryTable t

/-- R1, R24, R28, R116, R142: the state after power-on is within every capacity, and its pallet table and its motion request table
are in order. -/
def Obligations.InvariantsHoldAtReset : Prop :=
  WithinCapacity State.reset ∧ PalletTable State.reset ∧ EntryTable State.reset

/-- R146: once FREEZE has set the flag, no command but a power-on or pin reset changes the interlock table or the flag. -/
def Obligations.FrozenTableStays : Prop :=
  ∀ (i : Instr) (s t : State), s.ilk.frozen = true → isHardReset i = false → exec i s = .next t →
    t.ilk.frozen = true ∧ t.ilk.table = s.ilk.table

/-- R168: while the device is RESTRICTED no command but RECOVER and the resets brings it back to NORMAL, and none creates an
MRT entry: a free entry stays free. -/
def Obligations.NoEntryIsCreatedWhileRestricted : Prop :=
  ∀ (i : Instr) (s t : State), s.fcu.restricted = true → isHardReset i = false → i ≠ .reset → i ≠ .recover →
    exec i s = .next t →
    t.fcu.restricted = true ∧ ∀ e, s.entry? e = none → t.entry? e = none

/-- R70: a station's referenced flag goes from clear to set at an AT REFERENCED of that station alone. -/
def Obligations.OnlyAReferenceRunSetsTheFlag : Prop :=
  ∀ (i : Instr) (s t : State) (st : Stn), exec i s = .next t →
    (s.station st).referenced = false → (t.station st).referenced = true →
    ∃ m, i = .atReport m ∧ m.argB = 3 ∧ m.station.toNat = st.val

/-! ### Shared operations -/

/-- R182, R13, R23, R132: an ANSWER to an ACTION, an ANSWER to a table request and a REFUSED go to the source of the message with
the fields the rules name, and into the NQ while it has a place and no refusal is kept; the message leaves the DIQ, and nothing else
of the first two changes. The model's readings beside these rules: the pallet field of an ANSWER holds the low 12 bits of any action
code (log entry 27), and a reply goes behind the refusals that are kept (log entry 38). -/
def Obligations.RepliesGoBehindTheOthers : Prop :=
  (∀ (d : DiqItem) (st : Status) (v : Nat) (s : State), ∃ m : Msg,
    outgoing (answered d st v s) = outgoing s ++ [m] ∧ m.intact = true ∧ m.kind = kAnswer ∧ m.urgent = false
    ∧ m.dst = d.msg.src ∧ m.src = s.mga.node ∧ m.station = d.msg.station ∧ m.pallet = d.msg.argA.setWidth 12
    ∧ m.argA.toNat = statusCode st ∧ m.argB = BitVec.ofNat 16 v
    ∧ (s.chi.nq.length < 16 → s.mrt.kept = [] → (answered d st v s).chi.nq = s.chi.nq ++ [m])
    ∧ answered d st v s = { s with
        chi := { s.chi with diq := s.chi.diq.erase d, nq := (answered d st v s).chi.nq }
        mrt := { s.mrt with kept := (answered d st v s).mrt.kept } }) ∧
  (∀ (d : DiqItem) (st : Status) (v : Nat) (s : State), ∃ m : Msg,
    outgoing (tableAnswered d st v s) = outgoing s ++ [m] ∧ m.intact = true ∧ m.kind = kAnswer ∧ m.urgent = false
    ∧ m.dst = d.msg.src ∧ m.src = s.mga.node ∧ m.station = 255
    ∧ m.pallet.toNat = d.msg.argA.toNat / 32 % 4096
    ∧ m.argA.toNat = statusCode st ∧ m.argB = BitVec.ofNat 16 v
    ∧ (s.chi.nq.length < 16 → s.mrt.kept = [] → (tableAnswered d st v s).chi.nq = s.chi.nq ++ [m])
    ∧ tableAnswered d st v s = { s with
        chi := { s.chi with diq := s.chi.diq.erase d, nq := (tableAnswered d st v s).chi.nq }
        mrt := { s.mrt with kept := (tableAnswered d st v s).mrt.kept } }) ∧
  (∀ (m : Msg) (r : Status) (detail : Nat) (s : State), ∃ x : Msg,
    outgoing (refuse m r detail s) = outgoing s ++ [x] ∧ x.intact = true ∧ x.kind = kRefused ∧ x.urgent = false
    ∧ x.dst = m.src ∧ x.src = s.mga.node ∧ x.station = m.station ∧ x.pallet = m.pallet
    ∧ x.argA.toNat = statusCode r ∧ x.argB.toNat = 256 * m.kind.toNat + detail % 256
    ∧ (refuse m r detail s).chi.diq = s.chi.diq
    ∧ ∀ i, ((refuse m r detail s).lmn.counters.get i).count
        = (s.lmn.counters.get i).count + (if (s.lmn.counters.get i).sees .refused m.stn? (some m.kind) then 1 else 0))

/-- R23, R183, R184, R132: an event with its NOTICE sets the flag of its class in any case. Where the class is in the notice mask
and four places are free the NOTICE goes to the tail of the NQ, behind the kept refusals, which take their places before it, with
the after-loss mark in the top bit of its detail, and the mark is cleared; with fewer places it is lost and the mark is set; where
the class is not in the mask none is sent. A place that a kept refusal waits for is not a free one (log entry 38). -/
def Obligations.NoticeAdmission : Prop :=
  ∀ (ev : Event) (station : Byte) (pallet : Tag) (detail : Nat) (s : State),
    let t := notice ev station pallet detail s
    let on := s.mga.noticeMask.getLsbD (classCode (eventClass ev))
    t.mga = { s.mga with summary := s.mga.summary ||| (1#9 <<< classCode (eventClass ev)) } ∧
    (on = false → t.chi = s.chi ∧ t.mrt = s.mrt ∧ t.lmn = s.lmn) ∧
    (on = true → s.chi.nq.length + s.mrt.kept.length ≤ 12 → ∃ m : Msg,
      t.chi = { s.chi with nq := s.chi.nq ++ s.mrt.kept ++ [m], afterLoss := false }
      ∧ t.mrt = { s.mrt with kept := [] } ∧ t.lmn = s.lmn
      ∧ m.intact = true ∧ m.kind = kNotice ∧ m.urgent = false ∧ m.dst = s.mga.controller ∧ m.src = s.mga.node
      ∧ m.station = station ∧ m.pallet = pallet
      ∧ m.argA.toNat = 256 * eventCode ev + detail % 128 + 128 * bitN s.chi.afterLoss
      ∧ m.argB = s.mga.time.setWidth 16) ∧
    (on = true → 12 < s.chi.nq.length + s.mrt.kept.length →
      t.chi = { s.chi with afterLoss := true } ∧ t.mrt = s.mrt) ∧
    t = { s with mga := t.mga, chi := t.chi, mrt := t.mrt, lmn := t.lmn, ev := t.ev }

/-- R160, R161: an occurrence of a kind raises its count by one, up to 255, and stores the last station and pallet; the first
ones, the applied level and the escalation expiry are set where the record was CLEAR and kept where it was PENDING; the trapped
zones only grow; no other record changes. R159: at REPORT nothing beyond the record, the notice and its line monitor event
changes; at STATION_STOP with a station the station gets FAULT and the kind as a stop cause, and is held. R159, R150: at
ZONE_TRAP the zone of the station, at LINE_TRAP and RESTRICT both zones, and at STATION_STOP or ZONE_TRAP with no station both
zones, get FAULT, are listed in the record, and, from RUN, hold their stations by TRAP; the other zones and their stations stay.
R168: RESTRICT alone makes the device RESTRICTED. -/
def Obligations.FaultOccurrence : Prop :=
  ∀ (k : FaultKind) (st : Option Stn) (p : Tag) (s : State),
    let r := s.faultRec k
    let c := s.fcu.reaction.get k
    let t := occur k st p s
    let q := t.faultRec k
    q.pending = true ∧ q.count = min 255 (r.count + 1) ∧ q.lastStn = st ∧ q.lastPallet = p
    ∧ (r.pending = true → q.firstStn = r.firstStn ∧ q.firstPallet = r.firstPallet ∧ q.level = r.level
        ∧ q.expiry = r.expiry)
    ∧ (r.pending = false → q.firstStn = st ∧ q.firstPallet = p ∧ q.level = c.level
        ∧ q.expiry = (if c.escalation ≠ 0 ∧ c.level ≠ .restrict then some (s.mga.time + BitVec.ofNat 32 c.escalation) else none))
    ∧ (r.zones.a = true → q.zones.a = true) ∧ (r.zones.b = true → q.zones.b = true)
    ∧ (∀ j, j ≠ k → t.faultRec j = s.faultRec j)
    ∧ (q.level = .report → q.zones = r.zones ∧ t =
        { s with
          fcu := t.fcu, chi := t.chi, mga := t.mga, lmn := t.lmn, ev := t.ev
          mrt := { s.mrt with kept := t.mrt.kept } })
    ∧ (∀ x, st = some x → q.level = .stationStop →
        (t.station x).holds = { (s.station x).holds with fault := true }
        ∧ (t.station x).stopCauses = (s.station x).stopCauses ||| (1#20 <<< k.val)
        ∧ t.held x = true
        ∧ ∀ y, y ≠ x → (t.station y).holds = (s.station y).holds ∧ (t.station y).stopCauses = (s.station y).stopCauses)
    ∧ (∀ z, let listed (v : FaultRec) : Bool := match z with | .a => v.zones.a | .b => v.zones.b
        (TrapsZone q.level st z s → listed q = true
          ∧ t.zone z = { s.zone z with causes := { (s.zone z).causes with fault := true } }
          ∧ ∀ x, (s.station x).cfg.zone = z → (t.station x).stopCauses = (s.station x).stopCauses
            ∧ (t.station x).holds = (if (s.zone z).trapped then (s.station x).holds else { (s.station x).holds with trap := true }))
        ∧ (¬ TrapsZone q.level st z s → listed q = listed r ∧ t.zone z = s.zone z
          ∧ (q.level ≠ .stationStop → ∀ x, (s.station x).cfg.zone = z → (t.station x).holds = (s.station x).holds)))
    ∧ (q.level = .restrict → t.fcu.restricted = true) ∧ (q.level ≠ .restrict → t.fcu.restricted = s.fcu.restricted)

/-- R103: the target of a stop is the sum of the stop angle, the zero offset and the pallet's offset, modulo 65536. R105: a MOVE
planned away from its target, on a station whose wind limit and tolerance are in their ranges, turns the shorter way where the
wind limit allows it and the other way otherwise, forward where the target is exactly half a turn away; the distance is the one
of its direction, and one direction is always allowed. Where the wind is within the limit, the planned end wind lies within the
limit less the tolerance. R106, R110: the plan starts at the fixture's angle and has a timeout of 20 to 30000 ms. -/
def Obligations.TargetsAndPlannedMoves : Prop :=
  (∀ (c : StationCfg) (k : Fin 8) (o : Int), -2047 ≤ o → o ≤ 2047 →
    ((targetOf c k o).toNat : Int) = ((c.stops.get k).toNat + c.zero.toNat + o) % 65536) ∧
  (∀ (r : Station) (target : Angle),
    33024 ≤ r.cfg.windLimit → r.cfg.tol ≤ 255 → atTarget r.cfg.tol r.c target = false →
    let p := planMove r target
    let f := (target - r.c).toNat
    let forward : Prop := r.w + f + r.cfg.tol ≤ r.cfg.windLimit
    let reverse : Prop := -(r.cfg.windLimit : Int) ≤ r.w - (65536 - f : Nat) - r.cfg.tol
    let endWind : Int := if p.rev then r.w - p.dist else r.w + p.dist
    p.start = r.c
    ∧ (p.rev = false → p.dist = f) ∧ (p.rev = true → p.dist = 65536 - f)
    ∧ (forward ∨ reverse)
    ∧ (f ≤ 32768 → (p.rev = false ↔ forward))
    ∧ (32768 < f → (p.rev = true ↔ reverse))
    ∧ (r.w.natAbs ≤ r.cfg.windLimit → endWind.natAbs + r.cfg.tol ≤ r.cfg.windLimit)
    ∧ ∃ n, p.timeout = some n ∧ 20 ≤ n ∧ n ≤ 30000)

/-- R141, R135, R139, R140: the interlock checker passes a command exactly when the hard-wired check of its kind passes and no
configured entry that judges it fails; a refusal for a configured entry names the lowest failing refusing entry, and a deferral
comes only with none of those. R135: the check of the command's kind, H1 to H4, passes as its table says, and its number names
it where it fails. R139, R140: an entry fails where it is valid, names the station and the command's class, and its condition is
false at its object station. -/
def Obligations.VerdictFollowsTheEntries : Prop :=
  ∀ (s : State) (st : Stn) (j : Judged),
    (KindCheckPasses st j s → kindCheck s st j = none) ∧ (¬ KindCheckPasses st j s → kindCheck s st j = some (kindCheckNumber j)) ∧
    (∀ i, let e := s.ilk.table.get i
      ilkFails s st j e = true ↔ JudgesCommand e st j s ∧ ¬ ConditionHolds e.cond (e.object.getD st) s) ∧
    (verdict s st j = .pass ↔ kindCheck s st j = none ∧ ∀ i, ilkFails s st j (s.ilk.table.get i) = false) ∧
    (∀ n, verdict s st j = .refuse .hardInterlock n ↔ kindCheck s st j = some n) ∧
    (∀ n, verdict s st j = .refuse .interlock n →
      kindCheck s st j = none ∧ ∃ i : IlkNo, i.val = n ∧ ilkFails s st j (s.ilk.table.get i) = true
        ∧ (s.ilk.table.get i).defer = false
        ∧ ∀ k : IlkNo, k < i → (s.ilk.table.get k).defer = false → ilkFails s st j (s.ilk.table.get k) = false) ∧
    (∀ i lim, verdict s st j = .defer i lim →
      kindCheck s st j = none ∧ ilkFails s st j (s.ilk.table.get i) = true ∧ (s.ilk.table.get i).defer = true
      ∧ (∀ k, (s.ilk.table.get k).defer = false → ilkFails s st j (s.ilk.table.get k) = false)
      ∧ (∀ k, ilkFails s st j (s.ilk.table.get k) = true → lim ≤ (s.ilk.table.get k).deferLimit ∧ i ≤ k)
      ∧ ∃ k, ilkFails s st j (s.ilk.table.get k) = true ∧ lim = (s.ilk.table.get k).deferLimit)

/-- R120, R106, R14, R141, R142: promotion of a READY entry at a station that is not held. A MOVE is planned anew, and an entry whose
plan is satisfied is freed DONE. On PASS the entry is SENDING and its command enters the DEQ while that has a place; on DEFER it is
DEFERRED, the last item of the deferred list, with its deadline, or refused DEFER_FULL; on REFUSE it is freed. R143, R144: the pass
judges the items of the deferred list in the same way, oldest first; a deferral keeps the item with its new deferring entry, and a
PASS at a station that is held leaves it. (The order of the pass is stated for two items and no interlock entry.) -/
def Obligations.PromotionAndPassFollowTheVerdict : Prop :=
  (∀ (s : State) (e : EntryNo) (en : Entry), BetweenEvents s → s.entry? e = some en → en.estate = .ready →
    s.held en.station = false →
    let p := planEntry s en
    let v := verdict s en.station (judgedOf en.params)
    let put (es : EState) : State :=
      { s with mrt := { s.mrt with entries := upd s.mrt.entries e (fun _ => some { p with estate := es }) } }
    (planSatisfied p = true → LeavesAlone e en s → ∃ t, promoteEvent e s = .next t ∧ FreedDone e en s t) ∧
    (planSatisfied p = false →
      (v = .pass → sendingWaiters s = [] →
        (s.chi.deq.length < 16 → promoteEvent e s = .next
          { put .sending with
            chi := { s.chi with deq := s.chi.deq ++ [{ msg := commandMsg s p, entry := some e }] } }) ∧
        (16 ≤ s.chi.deq.length → promoteEvent e s = .next (put .sending))) ∧
      (∀ i lim, v = .defer i lim →
        (s.ilk.deferred.length < 8 → ∃ t, promoteEvent e s = .next t
          ∧ t.mrt.entries = (put .deferred).mrt.entries
          ∧ t.ilk = { s.ilk with deferred := s.ilk.deferred ++
              [{ entry := e, deadline := s.mga.time + BitVec.ofNat 32 lim, deferring := i }] }
          ∧ t.chi.deq = s.chi.deq ∧ t.chi.ugq = s.chi.ugq ∧ t.stb = s.stb ∧ t.ptb = s.ptb ∧ t.rcs = s.rcs
          ∧ t.idx = s.idx ∧ t.fcu = s.fcu) ∧
        (8 ≤ s.ilk.deferred.length → LeavesAlone e en s → ∃ t, promoteEvent e s = .next t
          ∧ FreedRefused e en .deferFull i.val s t)) ∧
      (∀ r n, v = .refuse r n → LeavesAlone e en s → ∃ t, promoteEvent e s = .next t ∧ FreedRefused e en r n s t))) ∧
  (∀ (s : State) (e : EntryNo) (en : Entry) (it : DeferItem), BetweenEvents s → s.ilk.deferred = [it] → it.entry = e →
    s.entry? e = some en → en.estate = .deferred →
    let p := planEntry s en
    let v := verdict s en.station (judgedOf en.params)
    let put (es : EState) (l : List DeferItem) : State :=
      { s with
        mrt := { s.mrt with entries := upd s.mrt.entries e (fun _ => some { p with estate := es }) }
        ilk := { s.ilk with deferred := l } }
    (planSatisfied p = true → LeavesAlone e en s → ∃ t, passEvent s = .next t ∧ FreedDone e en s t) ∧
    (planSatisfied p = false →
      (v = .pass → s.held en.station = true → passEvent s = .next (put .deferred [it])) ∧
      (v = .pass → s.held en.station = false → sendingWaiters s = [] → s.chi.deq.length < 16 → passEvent s = .next
        { put .sending [] with
          chi := { s.chi with deq := s.chi.deq ++ [{ msg := commandMsg s p, entry := some e }] } }) ∧
      (∀ i lim, v = .defer i lim → passEvent s = .next (put .deferred [{ it with deferring := i }])) ∧
      (∀ r n, v = .refuse r n → LeavesAlone e en s → ∃ t, passEvent s = .next t ∧ FreedRefused e en r n s t))) ∧
  (∀ (s : State) (a b : DeferItem) (x y : Entry), BetweenEvents s → s.ilk.deferred = [a, b] → a.entry ≠ b.entry →
    s.entry? a.entry = some x → s.entry? b.entry = some y → x.station ≠ y.station → x.estate = .deferred →
    y.estate = .deferred → (∀ i, (s.ilk.table.get i).valid = false) → hardCheck s x.station (judgedOf x.params) = none →
    hardCheck s y.station (judgedOf y.params) = none → planSatisfied (planEntry s x) = false →
    planSatisfied (planEntry s y) = false → sendingWaiters s = [] → s.chi.deq.length ≤ 14 → ∃ t,
    passEvent s = .next t
    ∧ t.ilk = { s.ilk with deferred := [] }
    ∧ t.chi.deq = s.chi.deq ++ [{ msg := commandMsg s (planEntry s x), entry := some a.entry },
        { msg := commandMsg s (planEntry s y), entry := some b.entry }])

/-! ### Requests to the management agent: reads and writes of the tables -/

/-- R180: a table request or an ACTION from another node than the controller is answered ACCESS; a table request whose address does
not exist is answered BAD_ADDR, and an action code that is none of 1 to 17 BAD_ARG. None of them has any other effect. -/
def Obligations.RequestsAreChecked : Prop :=
  (∀ (i : Instr) (d : DiqItem) (s : State), isTableRow i = true → BetweenEvents s → Takes i d s →
    (d.msg.src ≠ s.mga.controller → exec i s = .next (tableAnswered d .access 0 s)) ∧
    (FromController d s → addressed s d.msg = none → exec i s = .next (tableAnswered d .badAddr 0 s))) ∧
  (∀ (i : Instr) (d : DiqItem) (s : State), isActionRow i = true → BetweenEvents s → Takes i d s →
    (d.msg.src ≠ s.mga.controller → exec i s = .next (answered d .access 0 s)) ∧
    (FromController d s → i = .unknownActionCode → exec i s = .next (answered d .badArg 0 s)))

/-- R180, R52: a TBL_READ of a word that exists is answered DONE with the word, table 3 NOTHING while no bank is ACTIVE, and changes
nothing else. R50, R52: the words of table 2 are those of the staging bank, or while it is EMPTY those of the ACTIVE bank. -/
def Obligations.ReadsAnswerTheWord : Prop :=
  ∀ (d : DiqItem) (s : State) (w : Nat), BetweenEvents s → Takes .tblRead d s → FromController d s →
    addressed s d.msg = some w →
    (addrTable d.msg = 3 → activeBank s = none → exec .tblRead s = .next (tableAnswered d .nothing 0 s)) ∧
    (addrTable d.msg ≠ 3 ∨ activeBank s ≠ none → exec .tblRead s = .next (tableAnswered d .done w s)) ∧
    (addrTable d.msg = 2 → (s.rcs.banks.get (stagingBank s)).bstate ≠ .empty →
      bankWord (s.rcs.banks.get (stagingBank s)).recipes (addrEntry d.msg) (addrWord d.msg) = some w) ∧
    (addrTable d.msg = 2 → (s.rcs.banks.get (stagingBank s)).bstate = .empty → ∀ a, activeBank s = some a →
      bankWord (s.rcs.banks.get a).recipes (addrEntry d.msg) (addrWord d.msg) = some w)

/-- R27, R180: a TBL_WRITE to offset_max stores the value clamped into 0..2047 and changes no other state; every other word of
the row is read-only and answered NOT_ALLOWED, that of a free slot or entry too, which is the model's reading (log entry 18).
R181, R166: an accepted write to the high word of a writable wide field stores argB in the latch and changes no field, and the
check value of a checked table is computed over the table as it stands; the wind limit's needs an OUT station, the defer limit's
a table that is not frozen, the escalation time's a kind other than 19. R143: the defer limit's is a write to table 4, so the
pass over the deferred list follows it. That a high-word write computes the check value, and that this pass follows it, are the
model's readings too (log entry 20). -/
def Obligations.PlainAndHighWordWrites : Prop :=
  (∀ (d : DiqItem) (s : State) (w : Nat), BetweenEvents s → Takes .tblWrite d s → FromController d s →
    addressed s d.msg = some w →
    (d.msg.argA = 4 → exec .tblWrite s = .next
      { tableAnswered d .done (min 2047 d.msg.argB.toNat) s with
        ptb := { s.ptb with offsetMax := min 2047 d.msg.argB.toNat } }) ∧
    (d.msg.argA ≠ 4 → exec .tblWrite s = .next (tableAnswered d .notAllowed 0 s))) ∧
  (∀ (d : DiqItem) (s : State) (w : Nat), BetweenEvents s → Takes .wideHighWordWrite d s → FromController d s →
    addressed s d.msg = some w →
    let stored (c : Checks) : State :=
      { tableAnswered d .done d.msg.argB.toNat s with
        mga := { s.mga with latch := d.msg.argB }, fcu := { s.fcu with checks := c } }
    (∀ st, addrTable d.msg = 1 → addrWord d.msg = 14 → cfgStation? d.msg = some st →
      ((s.station st).mode = .out → exec .wideHighWordWrite s = .next
        (stored { s.fcu.checks with geometry := geometryCheck s.stb.stn })) ∧
      ((s.station st).mode ≠ .out → exec .wideHighWordWrite s = .next (tableAnswered d .wrongMode 0 s))) ∧
    (addrTable d.msg = 1 → addrWord d.msg = 20 → exec .wideHighWordWrite s = .next (stored s.fcu.checks)) ∧
    (addrTable d.msg = 4 → s.ilk.frozen = false →
      exec .wideHighWordWrite s
        = passEvent (stored { s.fcu.checks with interlock := interlockCheck s.ilk.table }) ∧
      (s.ilk.deferred = [] → exec .wideHighWordWrite s = .next
        (stored { s.fcu.checks with interlock := interlockCheck s.ilk.table }))) ∧
    (addrTable d.msg = 4 → s.ilk.frozen = true → exec .wideHighWordWrite s = .next (tableAnswered d .frozen 0 s)) ∧
    (addrTable d.msg = 5 → addrEntry d.msg ≠ 19 → exec .wideHighWordWrite s = .next
      (stored { s.fcu.checks with reaction := reactionCheck s.fcu.reaction })) ∧
    (addrTable d.msg = 5 → addrEntry d.msg = 19 →
      exec .wideHighWordWrite s = .next (tableAnswered d .notAllowed 0 s)))

/-- R51, R48, R50: a TBL_WRITE to table 2 is refused BANK_IN_USE while the staging bank is RETIRING; otherwise the bank becomes
STAGED with the contents it read as before, but for the written word, which is stored as its field takes it. -/
def Obligations.RecipeWritesStoreOneWord : Prop :=
  ∀ (d : DiqItem) (s : State) (w : Nat), BetweenEvents s → Takes .recipeWrite d s → FromController d s →
    addressed s d.msg = some w →
    let b := stagingBank s
    let e := addrEntry d.msg
    let k := addrWord d.msg
    let v := d.msg.argB.toNat
    ((s.rcs.banks.get b).bstate = .retiring → exec .recipeWrite s = .next (tableAnswered d .bankInUse 0 s)) ∧
    ((s.rcs.banks.get b).bstate ≠ .retiring → ∃ rs stored,
      exec .recipeWrite s = .next { tableAnswered d .done stored s with
        rcs := { s.rcs with banks := upd s.rcs.banks b (fun x => { x with bstate := .staged, recipes := rs }) } }
      ∧ bankWord rs e k = some stored
      ∧ (∀ e' k', (e' ≠ e ∨ k' ≠ k) → bankWord rs e' k' = bankWord (shownRecipes s b) e' k')
      ∧ (e % 16 = 15 → stored = min 12 v)
      ∧ (e % 16 < 12 → k = 0 → stored = v)
      ∧ (e % 16 < 12 → k = 1 → stored = min 8 v)
      ∧ (e % 16 < 12 → 2 ≤ k → k % 3 = 2 → stored = v % 16 + 256 * (v / 256 % 8))
      ∧ (e % 16 < 12 → 2 ≤ k → k % 3 = 0 → stored = min 255 v)
      ∧ (e % 16 < 12 → 2 ≤ k → k % 3 = 1 → stored = max 1 (min 36000 v)))

/-- R65, R66, R181, R93: a write to a configuration word of a station stores the value clamped into the field's range and answers
DONE with it, and changes no other word of that station and no other station; a stop angle or the zero offset is written only at
an OUT station and recomputes check value 3; the transit limit takes its upper half from the latch, which returns to 0. The
approach capacity is stored in 1..8 (its re-evaluation of route waiters has nothing to do where nobody waits). -/
def Obligations.StationConfigurationIsClamped : Prop :=
  (∀ (d : DiqItem) (s : State) (w : Nat) (st : Stn), BetweenEvents s → Takes .stationConfigWrite d s → FromController d s →
    addressed s d.msg = some w → cfgStation? d.msg = some st →
    let k := addrWord d.msg
    let v := d.msg.argB.toNat
    let geometry := 2 ≤ k ∧ k ≤ 10
    (geometry → (s.station st).mode ≠ .out → exec .stationConfigWrite s = .next (tableAnswered d .wrongMode 0 s)) ∧
    ((geometry → (s.station st).mode = .out) → ∃ c stored t, exec .stationConfigWrite s = .next t
      ∧ t = { tableAnswered d .done stored s with
          stb := { s.stb with stn := upd s.stb.stn st (fun r => { r with cfg := c }) }
          fcu := { s.fcu with checks := { s.fcu.checks with geometry := t.fcu.checks.geometry } }
          mga := { s.mga with latch := if k = 21 then 0 else s.mga.latch } }
      ∧ cfgWord c k = some stored
      ∧ (∀ k', k' ≠ k → ¬ (k = 21 ∧ k' = 20) → cfgWord c k' = cfgWord (s.station st).cfg k')
      ∧ (geometry → stored = v ∧ t.fcu.checks.geometry = geometryCheck t.stb.stn)
      ∧ (¬ geometry → t.fcu.checks.geometry = s.fcu.checks.geometry)
      ∧ (k = 0 → stored = min 62 v) ∧ (k = 12 → stored = max 1 (min 1024 v)) ∧ (k = 13 → stored = min 2000 v)
      ∧ (k = 16 → stored = min 200 v) ∧ (k = 17 → stored = min 500 v) ∧ (k = 18 → stored = max 50 (min 10000 v))
      ∧ (k = 19 → stored = max 100 (min 60000 v)) ∧ (k = 23 → stored = max 100 (min 10000 v))
      ∧ (k = 21 → c.transitLimit = max 1000 (min 600000 (s.mga.latch.toNat * 65536 + v))))) ∧
  (∀ (d : DiqItem) (s : State) (w : Nat) (st : Stn), BetweenEvents s → Takes .approachCapacityWrite d s →
    FromController d s → addressed s d.msg = some w → cfgStation? d.msg = some st → NobodyWaits s →
    exec .approachCapacityWrite s = .next
      { tableAnswered d .done (max 1 (min 8 d.msg.argB.toNat)) s with
        stb := { s.stb with stn := upd s.stb.stn st (fun r =>
          { r with cfg := { r.cfg with capacity := max 1 (min 8 d.msg.argB.toNat) } }) } })

/-- R66, R181: the wind limit (33024..262144, its upper half from the latch) and the position tolerance (0..255) are written only
at an OUT station and recompute check value 3. The referenced flag is cleared exactly where it was set and the wind exceeds the
new limit less the tolerance. -/
def Obligations.WindLimitAndToleranceWrites : Prop :=
  ∀ (d : DiqItem) (s : State) (w : Nat) (st : Stn), BetweenEvents s → Takes .windLimitToleranceWrite d s →
    FromController d s → addressed s d.msg = some w → cfgStation? d.msg = some st →
    ((s.station st).mode ≠ .out → exec .windLimitToleranceWrite s = .next (tableAnswered d .wrongMode 0 s)) ∧
    ((s.station st).mode = .out →
      let wide := addrWord d.msg = 15
      let old := (s.station st).cfg
      let limit := if wide then max 33024 (min 262144 (s.mga.latch.toNat * 65536 + d.msg.argB.toNat)) else old.windLimit
      let tol := if wide then old.tol else min 255 d.msg.argB.toNat
      let fits := decide (((s.station st).w.natAbs : Int) ≤ limit - tol)
      ∃ t, exec .windLimitToleranceWrite s = .next t
        ∧ t = { tableAnswered d .done (if wide then limit else tol) s with
            stb := { s.stb with stn := upd s.stb.stn st (fun r =>
              { r with
                cfg := { r.cfg with windLimit := limit, tol := tol }
                referenced := r.referenced && fits }) }
            fcu := { s.fcu with checks := { s.fcu.checks with geometry := t.fcu.checks.geometry } }
            mga := { s.mga with latch := if wide then 0 else s.mga.latch } }
        ∧ t.fcu.checks.geometry = geometryCheck t.stb.stn)

/-- R66: a zone write at a station that is not OUT is refused WRONG_MODE; at an OUT station the zone is stored, and the TRAP cause
is present afterwards exactly when the new zone is TRAPPED (log entry 15: a value above 1 is stored as zone B). Where the station
stays held or not held, no other block changes; where it becomes held its entries freeze, and where the cause was its only one its
hold ends (R77, R87, R114; no entry of it is READY, its settle takes its time and no command is deferred here). -/
def Obligations.ZoneWriteMovesTheTrapCause : Prop :=
  ∀ (d : DiqItem) (s : State) (w : Nat) (st : Stn), BetweenEvents s → Takes .zoneWrite d s → FromController d s →
    addressed s d.msg = some w → cfgStation? d.msg = some st →
    ((s.station st).mode ≠ .out → exec .zoneWrite s = .next (tableAnswered d .wrongMode 0 s)) ∧
    ((s.station st).mode = .out →
      let z : Zone := if d.msg.argB = 0 then .a else .b
      let trap := (s.zone z).trapped
      let h := (s.station st).holds
      (h.held = (h.operator || h.fault || trap) →
        exec .zoneWrite s = .next { tableAnswered d .done (zoneNo z) s with
          stb := { s.stb with stn := upd s.stb.stn st (fun r =>
            { r with cfg := { r.cfg with zone := z }, holds := { r.holds with trap := trap } }) } }) ∧
      (h.held = false → trap = true → ∃ t, exec .zoneWrite s = .next t
        ∧ (t.station st).cfg = { (s.station st).cfg with zone := z } ∧ (t.station st).holds = { h with trap := true }
        ∧ (∀ x, x ≠ st → t.station x = s.station x)
        ∧ (∀ e en, s.entry? e = some en → en.station ≠ st → t.entry? e = some en)
        ∧ (∀ e en, s.entry? e = some en → en.station = st → t.entry? e = some (freezeEntry s.mga.time en))) ∧
      (h = { operator := false, trap := true, fault := false } → trap = false → EndsCalmly (· = st) s → ∃ t,
        exec .zoneWrite s = .next t
        ∧ (t.station st).cfg = { (s.station st).cfg with zone := z } ∧ (t.station st).holds = { h with trap := false }
        ∧ (∀ x, x ≠ st → t.station x = s.station x) ∧ Released (· = st) s t
        ∧ t.ptb = s.ptb ∧ t.rcs = s.rcs ∧ t.trp = s.trp))

/-- R67, R61: a write of the load or rework station number is checked in the rule's order; a write of the value stored changes
nothing, and an accepted change stores the number, resets the process of each station that loses or gains the designation, and
discards a pending admission where the load station changes. -/
def Obligations.DesignationWrites : Prop :=
  ∀ (d : DiqItem) (s : State) (w : Nat), BetweenEvents s → Takes .designationWrite d s → FromController d s →
    addressed s d.msg = some w →
    (addrWord d.msg = 2 →
      (16 ≤ d.msg.argB.toNat → exec .designationWrite s = .next (tableAnswered d .badArg 0 s)) ∧
      (∀ st : Stn, d.msg.argB.toNat = st.val →
        (s.stb.rework = some st → exec .designationWrite s = .next (tableAnswered d .badArg 0 s)) ∧
        (s.stb.rework ≠ some st → st = s.stb.load → exec .designationWrite s = .next (tableAnswered d .done st.val s)) ∧
        (s.stb.rework ≠ some st → st ≠ s.stb.load →
          ((s.station s.stb.load).mode ≠ .out ∨ (s.station st).mode ≠ .out) →
          exec .designationWrite s = .next (tableAnswered d .wrongMode 0 s)) ∧
        (s.stb.rework ≠ some st → st ≠ s.stb.load → (s.station s.stb.load).mode = .out → (s.station st).mode = .out →
          (namedByBank s st = true → exec .designationWrite s = .next (tableAnswered d .bankInUse 0 s)) ∧
          (namedByBank s st = false → ∃ t, exec .designationWrite s = .next t
            ∧ t = { tableAnswered d .done st.val s with
                stb := { s.stb with load := st }
                ptb := { s.ptb with pendingAdm := none }
                idx := t.idx }
            ∧ ∀ x, t.proc x = if x = s.stb.load ∨ x = st then resetProcess else s.proc x)))) ∧
    (addrWord d.msg = 3 →
      (16 ≤ d.msg.argB.toNat → d.msg.argB ≠ 255 → exec .designationWrite s = .next (tableAnswered d .badArg 0 s)) ∧
      (∀ v : Option Stn, d.msg.argB.toNat = stnWord v →
        (v = some s.stb.load → exec .designationWrite s = .next (tableAnswered d .badArg 0 s)) ∧
        (v ≠ some s.stb.load → v = s.stb.rework →
          exec .designationWrite s = .next (tableAnswered d .done (stnWord v) s)) ∧
        (v ≠ some s.stb.load → v ≠ s.stb.rework →
          (∃ x, (s.stb.rework = some x ∨ v = some x) ∧ (s.station x).mode ≠ .out) →
          exec .designationWrite s = .next (tableAnswered d .wrongMode 0 s)) ∧
        (v ≠ some s.stb.load → v ≠ s.stb.rework →
          (∀ x, s.stb.rework = some x ∨ v = some x → (s.station x).mode = .out) →
          ((∃ x, v = some x ∧ namedByBank s x = true) →
            exec .designationWrite s = .next (tableAnswered d .bankInUse 0 s)) ∧
          ((∀ x, v = some x → namedByBank s x = false) → ∃ t, exec .designationWrite s = .next t
            ∧ t = { tableAnswered d .done (stnWord v) s with stb := { s.stb with rework := v }, idx := t.idx }
            ∧ ∀ x, t.proc x = if s.stb.rework = some x ∨ v = some x then resetProcess else s.proc x))))

/-- R187, R183: the controller node is stored where it is 0..62 and refused BAD_ARG otherwise; a write to the event summary
clears the flags of the classes in argB and answers those that stay set and in the attention mask; a mask stores bits 8..0, the
START bit of the notice mask always set. No other state changes. R148, R149: a filter is stored clamped into its range; where
the input's level has not lasted the filter in force afterwards nothing else changes, and where it has, the filtered level
changes in the event of the write as in TRAP_FILTER_ASSERT or TRAP_FILTER_RELEASE, which is the model's reading (log entry 22).
The exit mode is stored; a value that is neither is refused BAD_ARG; setting AUTO while the filtered level is INACTIVE and PIN
is not the zone's last cause removes PIN, where it is a cause, and changes no other state; where PIN is the last cause the zone
returns to RUN, and the holds of its stations that TRAP alone held end with it (R114, R87; none of them has a READY entry or a
settle time of 0, and no command is deferred here). -/
def Obligations.AgentFilterAndExitModeWrites : Prop :=
  (∀ (d : DiqItem) (s : State) (w : Nat), BetweenEvents s → Takes .controllerNodeWrite d s → FromController d s →
    addressed s d.msg = some w →
    (63 ≤ d.msg.argB.toNat → exec .controllerNodeWrite s = .next (tableAnswered d .badArg 0 s)) ∧
    (d.msg.argB.toNat < 63 → exec .controllerNodeWrite s = .next
      { tableAnswered d .done d.msg.argB.toNat s with
        mga := { s.mga with controller := BitVec.ofNat 6 d.msg.argB.toNat } })) ∧
  (∀ (d : DiqItem) (s : State) (w : Nat), BetweenEvents s → Takes .eventSummaryWrite d s → FromController d s →
    addressed s d.msg = some w →
    let left := s.mga.summary &&& ~~~(d.msg.argB.setWidth 9)
    exec .eventSummaryWrite s = .next
      { tableAnswered d .done (left &&& s.mga.attnMask).toNat s with mga := { s.mga with summary := left } }) ∧
  (∀ (d : DiqItem) (s : State) (w : Nat), BetweenEvents s → Takes .maskWrite d s → FromController d s →
    addressed s d.msg = some w →
    let v : BitVec 9 := d.msg.argB.setWidth 9
    (addrWord d.msg = 10 → exec .maskWrite s = .next
      { tableAnswered d .done (v ||| 0x100#9).toNat s with mga := { s.mga with noticeMask := v ||| 0x100#9 } }) ∧
    (addrWord d.msg = 11 → exec .maskWrite s = .next
      { tableAnswered d .done v.toNat s with mga := { s.mga with attnMask := v } })) ∧
  (∀ (d : DiqItem) (s : State) (w : Nat), BetweenEvents s → Takes .filterWrite d s → FromController d s →
    addressed s d.msg = some w →
    let z : Zone := if addrEntry d.msg = 1 then .a else .b
    let v := if addrWord d.msg = 4 then min 15 d.msg.argB.toNat else min 255 d.msg.argB.toNat
    let q := if addrWord d.msg = 4 then { s.zone z with assertFilter := v } else { s.zone z with releaseFilter := v }
    let t := (tableAnswered d .done v s).setZone z q
    let lasted (raw : Bool) (ms : Nat) : Prop :=
      (t.zone z).raw = raw ∧ (t.zone z).filtered = raw ∧ ((t.zone z).changedAt + BitVec.ofNat 32 ms - s.mga.time).toInt ≤ 0
    (¬ lasted false (t.zone z).assertFilter → ¬ lasted true (t.zone z).releaseFilter → exec .filterWrite s = .next t) ∧
    (lasted false (t.zone z).assertFilter → exec .filterWrite s = exec (.trapFilterAssert z) t ∧ ∃ u, exec .filterWrite s = .next u
      ∧ u.zone z = { t.zone z with filtered := true, causes := { (s.zone z).causes with pin := true } }
      ∧ (∀ y, y ≠ z → u.zone y = s.zone y)) ∧
    (lasted true (t.zone z).releaseFilter → exec .filterWrite s = exec (.trapFilterRelease z) t
      ∧ ((s.zone z).exitAuto = false → exec .filterWrite s = .next (t.setZone z { t.zone z with filtered := false })))) ∧
  (∀ (d : DiqItem) (s : State) (w : Nat), BetweenEvents s → Takes .exitModeWrite d s → FromController d s →
    addressed s d.msg = some w →
    let z : Zone := if addrEntry d.msg = 1 then .a else .b
    let q := s.zone z
    (1 < d.msg.argB.toNat → exec .exitModeWrite s = .next (tableAnswered d .badArg 0 s)) ∧
    (d.msg.argB = 0 → exec .exitModeWrite s = .next
      ((tableAnswered d .done 0 s).setZone z { q with exitAuto := false })) ∧
    (d.msg.argB = 1 → q.filtered = true → exec .exitModeWrite s = .next
      ((tableAnswered d .done 1 s).setZone z { q with exitAuto := true })) ∧
    (d.msg.argB = 1 → q.filtered = false →
      (q.causes.fault || q.causes.command || q.causes.reset) = true ∨ q.causes.pin = false → exec .exitModeWrite s = .next
        ((tableAnswered d .done 1 s).setZone z { q with exitAuto := true, causes := { q.causes with pin := false } })) ∧
    (d.msg.argB = 1 → q.filtered = false → q.causes = { pin := true, fault := false, command := false, reset := false } →
      let ended (x : Stn) : Prop := (s.station x).cfg.zone = z ∧
        (s.station x).holds = { operator := false, trap := true, fault := false }
      EndsCalmly ended s → ∃ t, exec .exitModeWrite s = .next t
      ∧ (t.zone z).trapped = false ∧ (t.zone z).exitAuto = true ∧ (∀ y, y ≠ z → t.zone y = s.zone y)
      ∧ (∀ x, (s.station x).cfg.zone = z → (t.station x).holds = { (s.station x).holds with trap := false })
      ∧ (∀ x, (s.station x).cfg.zone ≠ z → t.station x = s.station x) ∧ Released ended s t
      ∧ t.ptb = s.ptb ∧ t.rcs = s.rcs ∧ t.fcu = s.fcu))

/-- R138, R146, R181: a write to an interlock entry is refused FROZEN while the flag is set and BAD_ARG where its word cannot take
the value; otherwise the entry reads back the value at that word, its other words and the other entries are kept, and check value
2 is recomputed; the defer limit is clamped into 100..600000 with its upper half from the latch. R158: the same for a reaction
level and an escalation time, whose check value is 4, and kind 19 is refused NOT_ALLOWED. (The pass over the deferred list that an
interlock write brings has nothing to do where the list is empty.) The model's readings beside these rules: the bits of a commands
word and of a condition word that mean nothing are ignored (log entry 14), and a write of a reaction level leaves the applied level of
a record as it is (log entry 36). -/
def Obligations.InterlockAndReactionWrites : Prop :=
  (∀ (d : DiqItem) (s : State) (w : Nat) (n : IlkNo), BetweenEvents s → Takes .interlockWrite d s → FromController d s →
    addressed s d.msg = some w → addrEntry d.msg = n.val →
    let k := addrWord d.msg
    let v := d.msg.argB.toNat
    let fits := (k = 0 → v ≤ 1) ∧ (k = 3 → v ≤ 16) ∧ (k = 4 → v % 8 ≤ 4 ∨ (v % 8 = 5 ∧ v / 256 % 8 ≤ 2)) ∧ (k = 5 → v ≤ 1)
    (s.ilk.frozen = true → exec .interlockWrite s = .next (tableAnswered d .frozen 0 s)) ∧
    (s.ilk.frozen = false → ¬ fits → exec .interlockWrite s = .next (tableAnswered d .badArg 0 s)) ∧
    (s.ilk.frozen = false → fits → s.ilk.deferred = [] → ∃ e stored t, exec .interlockWrite s = .next t
      ∧ t = { tableAnswered d .done stored s with
          ilk := { s.ilk with table := upd s.ilk.table n (fun _ => e) }
          fcu := { s.fcu with checks := { s.fcu.checks with interlock := t.fcu.checks.interlock } }
          mga := { s.mga with latch := if k = 7 then 0 else s.mga.latch } }
      ∧ t.fcu.checks.interlock = interlockCheck t.ilk.table
      ∧ ilkWord e k = some stored
      ∧ (∀ k', k' ≠ k → ¬ (k = 7 ∧ k' = 6) → ilkWord e k' = ilkWord (s.ilk.table.get n) k')
      ∧ (k = 0 ∨ k = 1 ∨ k = 3 ∨ k = 5 → stored = v) ∧ (k = 2 → stored = v % 32)
      ∧ (k = 4 → v % 8 < 4 → stored = v % 8) ∧ (k = 4 → 4 ≤ v % 8 → stored = v % 8 + 256 * (v / 256 % 8))
      ∧ (k = 7 → e.deferLimit = max 100 (min 600000 (s.mga.latch.toNat * 65536 + v))))) ∧
  (∀ (d : DiqItem) (s : State) (w : Nat) (n : FaultKind), BetweenEvents s → Takes .reactionWrite d s → FromController d s →
    addressed s d.msg = some w → addrEntry d.msg = n.val →
    let v := d.msg.argB.toNat
    let wide := s.mga.latch.toNat * 65536 + v
    (n = 19 → exec .reactionWrite s = .next (tableAnswered d .notAllowed 0 s)) ∧
    (n ≠ 19 → addrWord d.msg = 0 → 4 < v → exec .reactionWrite s = .next (tableAnswered d .badArg 0 s)) ∧
    (∀ l, n ≠ 19 → addrWord d.msg = 0 → levelCode l = v → ∃ t, exec .reactionWrite s = .next t
      ∧ t = { tableAnswered d .done v s with
          fcu := { s.fcu with
            reaction := upd s.fcu.reaction n (fun r => { r with level := l })
            checks := { s.fcu.checks with reaction := t.fcu.checks.reaction } } }
      ∧ t.fcu.checks.reaction = reactionCheck t.fcu.reaction) ∧
    (n ≠ 19 → addrWord d.msg = 2 → ∃ t, exec .reactionWrite s = .next t
      ∧ t = { tableAnswered d .done (if wide = 0 then 0 else max 100 (min 600000 wide)) s with
          fcu := { s.fcu with
            reaction := upd s.fcu.reaction n (fun r =>
              { r with escalation := if wide = 0 then 0 else max 100 (min 600000 wide) })
            checks := { s.fcu.checks with reaction := t.fcu.checks.reaction } }
          mga := { s.mga with latch := 0 } }
      ∧ t.fcu.checks.reaction = reactionCheck t.fcu.reaction))

/-- R172: a write to a configuration word of a counter is refused BAD_ARG where the word cannot take the value; otherwise the word
is stored, the count becomes 0, the overflow mark and the previous condition are cleared, and the snapshot copies, the other words
and the other counters are kept. -/
def Obligations.CounterWritesStartAfresh : Prop :=
  ∀ (d : DiqItem) (s : State) (w : Nat) (n : CounterNo), BetweenEvents s → Takes .counterConfigWrite d s →
    FromController d s → addressed s d.msg = some w → addrEntry d.msg = n.val →
    let k := addrWord d.msg
    let v := d.msg.argB.toNat
    let old := s.lmn.counters.get n
    let fits := (k = 0 → v ≤ 10 ∨ (16 ≤ v ∧ v ≤ 21 ∧ n.val < 4)) ∧ (k = 1 → v ≤ 16) ∧ (k = 2 → v ≤ 256)
      ∧ (k = 4 ∨ k = 5 → v ≤ 1)
    (¬ fits → exec .counterConfigWrite s = .next (tableAnswered d .badArg 0 s)) ∧
    (fits → ∃ c, exec .counterConfigWrite s = .next
        { tableAnswered d .done (if k = 3 then min 63 v else v) s with
          lmn := { s.lmn with counters := upd s.lmn.counters n (fun _ => c) } }
      ∧ counterWord c s.lmn.snapTime k = some (if k = 3 then min 63 v else v)
      ∧ (∀ k', k' < 6 → k' ≠ k → counterWord c s.lmn.snapTime k' = counterWord old s.lmn.snapTime k')
      ∧ c.count = 0 ∧ c.mark = false ∧ c.prev = false ∧ c.snapCount = old.snapCount ∧ c.snapMark = old.snapMark)

/-- R45: a write to a record's route cursor, op cursor or quality set is refused WRONG_MODE at a free slot and where the record is
not PRESENT at a MANUAL station; otherwise the field is stored, clamped by the record's own recipe, and nothing else changes but
the op cursor, which a route cursor write sets to 0. -/
def Obligations.RecordWritesAreClamped : Prop :=
  ∀ (d : DiqItem) (s : State) (w : Nat) (i : Slot), BetweenEvents s → Takes .palletRecordWrite d s → FromController d s →
    addressed s d.msg = some w → addrEntry d.msg = i.val →
    let k := addrWord d.msg
    let v := d.msg.argB.toNat
    let put (stored : Nat) (r : Record) : State :=
      { tableAnswered d .done stored s with ptb := { s.ptb with slots := upd s.ptb.slots i (fun _ => some r) } }
    (s.ptb.slots.get i = none → exec .palletRecordWrite s = .next (tableAnswered d .wrongMode 0 s)) ∧
    (∀ r, s.ptb.slots.get i = some r → (∀ st, r.rstate = .present st → (s.station st).mode ≠ .manual) →
      exec .palletRecordWrite s = .next (tableAnswered d .wrongMode 0 s)) ∧
    (∀ r st, s.ptb.slots.get i = some r → r.rstate = .present st → (s.station st).mode = .manual →
      (k = 7 → exec .palletRecordWrite s = .next
        (put (min (routeLen s r) v) { r with routeCursor := min (routeLen s r) v, opCursor := 0 })) ∧
      (∀ step, k = 8 → currentStep s r = some step → exec .palletRecordWrite s = .next
        (put (min (step.count - 1) v) { r with opCursor := min (step.count - 1) v })) ∧
      (k = 8 → routeLen s r ≤ r.routeCursor → exec .palletRecordWrite s = .next (put 0 { r with opCursor := 0 })) ∧
      (k = 9 → exec .palletRecordWrite s = .next
        (put (v % 16) { r with
          quality := { offsetLimited := v.testBit 0, rejected := v.testBit 1, aborted := v.testBit 2,
                       misrouted := v.testBit 3 } })))

/-! ### Actions -/

/-- R43: FIND answers DONE with the slot of the record that holds the tag, NOTHING where none does and BAD_ARG for tag 0, and
changes no state but the queues of the message and its answer. -/
def Obligations.FindAnswersTheSlot : Prop :=
  ∀ (d : DiqItem) (s : State), BetweenEvents s → Takes .find d s → FromController d s →
    let holds (i : Slot) : Prop := ∃ r, s.ptb.slots.get i = some r ∧ r.tag.toNat = d.msg.argB.toNat
    (d.msg.argB = 0 → exec .find s = .next (answered d .badArg 0 s)) ∧
    (∀ i : Slot, d.msg.argB ≠ 0 → holds i → (∀ j, j < i → ¬ holds j) →
      exec .find s = .next (answered d .done i.val s)) ∧
    (d.msg.argB ≠ 0 → (∀ i, ¬ holds i) → exec .find s = .next (answered d .nothing 0 s))

/-- R53: DISCARD makes a STAGED staging bank EMPTY and answers DONE; what was written to it is lost, so that it reads as the
ACTIVE bank, or cleared while there is none (R52). It answers NOTHING where the bank is EMPTY and BANK_IN_USE where it is
RETIRING. No other bank, no generation counter and no pallet record changes. R54 to R57: COMMIT of an EMPTY staging bank answers
NOTHING and of a RETIRING one BANK_IN_USE; a STAGED one that fails the validation answers BAD_RECIPE with the place of the first
failure and changes nothing else; one that passes becomes ACTIVE under the next generation, the bank that was ACTIVE becomes
RETIRING with its check value while a record carries its generation and EMPTY otherwise, and the committed event is told. That
the ANSWER enters the NQ before the notice is the model's reading (log entry 11). That an EMPTY bank keeps contents of its own,
which its reading never shows, is the model's too (log entry 21). -/
def Obligations.CommitAndDiscard : Prop :=
  (∀ (d : DiqItem) (s : State), BetweenEvents s → Takes .discard d s → FromController d s →
    let b := stagingBank s
    ((s.rcs.banks.get b).bstate = .staged → ∃ t, exec .discard s = .next t
      ∧ t = { answered d .done 0 s with
          rcs := { s.rcs with banks := upd s.rcs.banks b (fun x => { x with bstate := .empty }) } }
      ∧ shownRecipes t b = (match activeBank s with
          | some a => (s.rcs.banks.get a).recipes
          | none => clearedRecipes)) ∧
    ((s.rcs.banks.get b).bstate = .empty → exec .discard s = .next (answered d .nothing 0 s)) ∧
    ((s.rcs.banks.get b).bstate = .retiring → exec .discard s = .next (answered d .bankInUse 0 s))) ∧
  (∀ (d : DiqItem) (s : State), BetweenEvents s → Takes .commit d s → FromController d s →
    let b := stagingBank s
    let o := otherBank b
    let bank := s.rcs.banks.get b
    let g := if 65535 ≤ s.rcs.genCounter then 1 else s.rcs.genCounter + 1
    (bank.bstate = .empty → exec .commit s = .next (answered d .nothing 0 s)) ∧
    (bank.bstate = .retiring → exec .commit s = .next (answered d .bankInUse 0 s)) ∧
    (∀ n, bank.bstate = .staged → recipesFault s 0 bank.recipes.toList = some n →
      exec .commit s = .next (answered d .badRecipe n s)) ∧
    (bank.bstate = .staged → recipesFault s 0 bank.recipes.toList = none → ∃ t,
      exec .commit s = .next (closeEvent (notice .committed 255 0 b.val t))
      ∧ t = { answered d .done g s with
          rcs := t.rcs
          fcu := { s.fcu with checks := { s.fcu.checks with
            active := some (bankCheck bank.recipes), retiring := t.fcu.checks.retiring } } }
      ∧ t.rcs.genCounter = g ∧ t.rcs.staging = o
      ∧ t.rcs.banks.get b = { bank with bstate := .active, generation := some g }
      ∧ ((s.rcs.banks.get o).bstate = .active → 0 < carrierCount s o →
          t.rcs.banks.get o = { s.rcs.banks.get o with bstate := .retiring }
          ∧ t.fcu.checks.retiring = s.fcu.checks.active)
      ∧ ((s.rcs.banks.get o).bstate = .active → carrierCount s o = 0 →
          t.rcs.banks.get o = { s.rcs.banks.get o with bstate := .empty, generation := none }
          ∧ t.fcu.checks.retiring = none)
      ∧ ((s.rcs.banks.get o).bstate ≠ .active →
          t.rcs.banks.get o = s.rcs.banks.get o ∧ t.fcu.checks.retiring = none)))

/-- R146: FREEZE sets the freeze flag and answers DONE, the flag already set or not. R186: SET_TIME sets the time to argB ×
65536, clears the prescaler and answers DONE with argB; no stored time changes. The time so moved makes what has passed happen
(R31, R115; each as an event of its own, log entry 5): with nothing passed no more follows, and with one thing passed that.
R177, R178: SNAPSHOT copies every count and overflow mark, stores the time, and answers DONE with its low half; CLEAR_COUNTERS
sets every count to 0, clears every overflow mark and answers DONE. Everything else is kept. -/
def Obligations.FreezeTimeAndMonitorActions : Prop :=
  (∀ (d : DiqItem) (s : State), BetweenEvents s → Takes .freeze d s → FromController d s →
    exec .freeze s = .next { answered d .done 0 s with ilk := { s.ilk with frozen := true } }) ∧
  (∀ (d : DiqItem) (s : State), BetweenEvents s → Takes .setTime d s → FromController d s →
    let t : State := { answered d .done d.msg.argB.toNat s with
      mga := { s.mga with time := d.msg.argB ++ 0#16, prescaler := 0 } }
    (NothingDue t → exec .setTime s = .next t) ∧
    (∀ i u, isTimed i = true → exec i t = .next u → (∀ j, isTimed j = true → j ≠ i → exec j t = .next t) → NothingDue u →
      exec .setTime s = .next u)) ∧
  (∀ (d : DiqItem) (s : State), BetweenEvents s → Takes .snapshot d s → FromController d s → ∃ t,
    exec .snapshot s = .next { answered d .done (s.mga.time.toNat % 65536) s with lmn := t }
    ∧ t.snapTime = s.mga.time
    ∧ ∀ i, t.counters.get i = { s.lmn.counters.get i with
        snapCount := (s.lmn.counters.get i).count, snapMark := (s.lmn.counters.get i).mark }) ∧
  (∀ (d : DiqItem) (s : State), BetweenEvents s → Takes .clearCounters d s → FromController d s → ∃ t,
    exec .clearCounters s = .next { answered d .done 0 s with lmn := t }
    ∧ t.snapTime = s.lmn.snapTime
    ∧ ∀ i, t.counters.get i = { s.lmn.counters.get i with count := 0, mark := false })

/-- R164: FAULT_ACK is judged in the rule's order; where no case before it matches the record is cleared, its count and its first
and last fields kept, the kind leaves every stop-cause set, and the answer is DONE with the count. R165: CLEAR_COUNTS sets the count
of every CLEAR record to 0 and answers DONE with the number of records whose count it changed; PENDING records, and the first and
last fields, are kept. -/
def Obligations.FaultAckAndClearCounts : Prop :=
  (∀ (d : DiqItem) (s : State), BetweenEvents s → Takes .clearCounts d s → FromController d s → ∃ t,
    exec .clearCounts s = .next
      { answered d .done (((List.finRange 20).filter (fun k => (t.get k).count ≠ (s.faultRec k).count)).length) s with
        fcu := { s.fcu with records := t } }
    ∧ ∀ k, t.get k = if (s.faultRec k).pending then s.faultRec k else { s.faultRec k with count := 0 }) ∧
  (∀ (d : DiqItem) (s : State), BetweenEvents s → Takes .faultAck d s → FromController d s →
    (20 ≤ d.msg.argB.toNat → exec .faultAck s = .next (answered d .badArg 0 s)) ∧
    (∀ k : FaultKind, d.msg.argB.toNat = k.val →
      (k = 19 → exec .faultAck s = .next (answered d .notAllowed 0 s)) ∧
      (k ≠ 19 → (s.faultRec k).pending = false → exec .faultAck s = .next (answered d .nothing 0 s)) ∧
      ((s.faultRec k).pending = true → (k = 14 ∧ s.chi.a.up = false ∨ k = 15 ∧ s.chi.b.up = false) →
        exec .faultAck s = .next (answered d .stillActive 0 s)) ∧
      (k ≠ 19 → (s.faultRec k).pending = true → (k = 14 → s.chi.a.up = true) → (k = 15 → s.chi.b.up = true) → ∃ t,
        exec .faultAck s = .next t
        ∧ t = { answered d .done (s.faultRec k).count s with
            fcu := { s.fcu with records := t.fcu.records }, stb := { s.stb with stn := t.stb.stn } }
        ∧ (∀ j, j ≠ k → t.faultRec j = s.faultRec j)
        ∧ t.faultRec k = { s.faultRec k with
            pending := false, level := (s.fcu.reaction.get k).level, zones := { a := false, b := false }, expiry := none }
        ∧ ∀ x, t.station x = { s.station x with stopCauses := (s.station x).stopCauses &&& ~~~(1#20 <<< k.val) })))

/-- R169: RECOVER answers NOTHING while the device is NORMAL; while RESTRICTED it scans, and answers STILL_ACTIVE where a check value
mismatches or another kind is PENDING at RESTRICT; otherwise it clears a PENDING TABLE_INTEGRITY record, returns to NORMAL and
answers DONE (its hand-over to waiting stations has nothing to do where nobody waits). -/
def Obligations.RecoverReturnsToNormal : Prop :=
  ∀ (d : DiqItem) (s : State), BetweenEvents s → Takes .recover d s → FromController d s →
    (s.fcu.restricted = false → exec .recover s = .next (answered d .nothing 0 s)) ∧
    (s.fcu.restricted = true → (scanSet s ≠ 0 ∨ restrictingKind s ≠ none) →
      exec .recover s = .next
        { answered d .stillActive
            (256 * (match restrictingKind s with | some k => k.val | none => 255) + (scanSet s).toNat) s with
          fcu := { s.fcu with mismatch := scanSet s } }) ∧
    (s.fcu.restricted = true → scanSet s = 0 → restrictingKind s = none → NobodyWaits s → ∃ t,
      exec .recover s = .next t
      ∧ t = { answered d .done 0 s with
          fcu := { s.fcu with mismatch := 0, restricted := false, records := t.fcu.records }
          stb := { s.stb with stn := t.stb.stn } }
      ∧ (∀ j, j ≠ 19 → t.faultRec j = s.faultRec j)
      ∧ (t.faultRec 19).pending = false ∧ (t.faultRec 19).count = (s.faultRec 19).count
      ∧ ((s.faultRec 19).pending = false → t.stb = s.stb)
      ∧ ∀ x, (t.station x).holds = (s.station x).holds)

/-- R185, R22, R46, R63, R81, R82, R133, R156, R171, R179, R183, R186: ACTION RESET takes every block to its soft reset values; the
links, the DIQ behind the RESET, the UIQ, the addresses, the masks, the tables and the configurations are kept; the NQ holds the
ANSWER DONE and then NOTICE START; every station is held by OPERATOR and TRAP and a HOLD of all 16 goes first on port B. That the
claimed places, the messages being sent and the arrival times of the DIQ stay is the model's reading (log entry 29), and so is that a
bank which becomes EMPTY keeps the contents that its reading no longer shows (log entry 21). -/
def Obligations.SoftResetAsSpecified : Prop :=
  ∀ (d : DiqItem) (s : State), BetweenEvents s → Takes .reset d s → FromController d s →
    s.mga.noticeMask.getLsbD 8 = true → ∃ t a n, exec .reset s = .next t
    ∧ t.chi.nq = [a, n] ∧ a.kind = kAnswer ∧ a.dst = d.msg.src ∧ a.argA = 0 ∧ a.argB = 0
    ∧ n.kind = kNotice ∧ n.dst = s.mga.controller ∧ n.argA = BitVec.ofNat 16 (256 * 18 + 2) ∧ n.argB = 0
    ∧ t.chi = { s.chi with
        diq := s.chi.diq.erase d, deq := [], ugq := [], nq := t.chi.nq, lastServed := .nq, sent := 0xFFFF, owed := 0,
        softHold := true, afterLoss := false }
    ∧ t.mga = { s.mga with summary := 0x100, cause := .soft, time := 0, prescaler := 0, latch := 0 }
    ∧ t.ptb.offsetMax = s.ptb.offsetMax ∧ t.ptb.pendingAdm = none ∧ (∀ i, t.ptb.slots.get i = none)
    ∧ (∀ x, t.ptb.approach.get x = [])
    ∧ t.rcs.genCounter = s.rcs.genCounter ∧ t.rcs.staging = s.rcs.staging
    ∧ (∀ b, t.rcs.banks.get b = if (s.rcs.banks.get b).bstate = .retiring
        then { s.rcs.banks.get b with bstate := .empty, generation := none } else s.rcs.banks.get b)
    ∧ t.stb.load = s.stb.load ∧ t.stb.rework = s.stb.rework
    ∧ (∀ x, t.station x = { s.station x with
        mode := if (s.station x).mode = .auto then .manual else (s.station x).mode
        pendingMode := none, tool := .unknown, commanded := none, sensed := none, occupant := .nobody
        holds := { operator := true, trap := true, fault := false }, stopCauses := 0 })
    ∧ (∀ x, t.proc x = resetProcess) ∧ (∀ e, t.entry? e = none) ∧ t.mrt.kept = []
    ∧ t.ilk = { s.ilk with deferred := [] }
    ∧ (∀ z, (t.zone z).causes = { pin := (s.zone z).filtered, fault := false, command := false, reset := true }
        ∧ (t.zone z).filtered = (s.zone z).filtered ∧ (t.zone z).raw = (s.zone z).raw
        ∧ (t.zone z).assertFilter = (s.zone z).assertFilter ∧ (t.zone z).releaseFilter = (s.zone z).releaseFilter
        ∧ (t.zone z).exitAuto = (s.zone z).exitAuto)
    ∧ t.fcu.reaction = s.fcu.reaction ∧ (∀ k, RecordAtReset (s.fcu.reaction.get k) (t.faultRec k))
    ∧ t.fcu.restricted = false ∧ t.fcu.mismatch = 0 ∧ t.fcu.checks = { s.fcu.checks with retiring := none }
    ∧ t.lmn.snapTime = 0
    ∧ (∀ i, t.lmn.counters.get i = { s.lmn.counters.get i with
        count := 0, mark := false, prev := false, snapCount := 0, snapMark := false })
    ∧ t.pending = s.pending

/-- R151, R154: TRAP_SET of a zone already TRAPPED adds COMMAND and changes no other state; of a zone in RUN it traps the zone,
and every station of the zone has TRAP among its causes. R152: TRAP_ACK answers NOTHING in RUN and FAULTS_PENDING with the
lowest kind whose PENDING record lists the zone; where PIN remains the other causes are removed and the answer is INPUT_ACTIVE;
otherwise the zone returns to RUN, no station of it has TRAP afterwards, and the answer is DONE; the holds of its stations that
TRAP alone held end (R114, R87; none of them has a READY entry or a settle time of 0, and no command is deferred here). The
answers carry the cause set as it then is. That the ANSWER stands before the notices of the command is the model's reading (log
entry 11). -/
def Obligations.TrapSetAndTrapAck : Prop :=
  (∀ (d : DiqItem) (s : State), BetweenEvents s → Takes .trapSet d s → FromController d s →
    (2 ≤ d.msg.argB.toNat → exec .trapSet s = .next (answered d .badArg 0 s)) ∧
    (∀ z : Zone, d.msg.argB.toNat = zoneNo z →
      let c := { (s.zone z).causes with command := true }
      ((s.zone z).trapped = true → exec .trapSet s = .next
        ((answered d .done (causeBits c) s).setZone z { s.zone z with causes := c })) ∧
      ((s.zone z).trapped = false → ∃ t, exec .trapSet s = .next t
        ∧ outgoing (answered d .done (causeBits c) s) <+: outgoing t ∧ t.chi.diq = s.chi.diq.erase d
        ∧ (t.zone z).causes = c ∧ (∀ y, y ≠ z → t.zone y = s.zone y)
        ∧ (∀ x, (s.station x).cfg.zone = z → (t.station x).holds = { (s.station x).holds with trap := true })
        ∧ (∀ x, (s.station x).cfg.zone ≠ z → t.station x = s.station x)
        ∧ t.ptb = s.ptb ∧ t.rcs = s.rcs ∧ t.ilk = s.ilk ∧ t.fcu = s.fcu))) ∧
  (∀ (d : DiqItem) (s : State), BetweenEvents s → Takes .trapAck d s → FromController d s →
    (2 ≤ d.msg.argB.toNat → exec .trapAck s = .next (answered d .badArg 0 s)) ∧
    (∀ z : Zone, d.msg.argB.toNat = zoneNo z →
      let c := (s.zone z).causes
      let lists (k : FaultKind) : Prop := (s.faultRec k).pending = true ∧ (s.faultRec k).zones.lists z = true
      ((s.zone z).trapped = false → exec .trapAck s = .next (answered d .nothing 0 s)) ∧
      (∀ k, c.fault = true → lists k → (∀ j, j < k → ¬ lists j) →
        exec .trapAck s = .next (answered d .faultsPending k.val s)) ∧
      ((s.zone z).trapped = true → (c.fault = true → ∀ k, ¬ lists k) → c.pin = true →
        ((s.zone z).filtered = true ∨ (s.zone z).exitAuto = true) →
        exec .trapAck s = .next ((answered d .inputActive 1 s).setZone z
          { s.zone z with causes := { pin := true, fault := false, command := false, reset := false } })) ∧
      ((s.zone z).trapped = true → (c.fault = true → ∀ k, ¬ lists k) →
        (c.pin = true → (s.zone z).filtered = false ∧ (s.zone z).exitAuto = false) →
        let ended (x : Stn) : Prop := (s.station x).cfg.zone = z ∧
          (s.station x).holds = { operator := false, trap := true, fault := false }
        EndsCalmly ended s → ∃ t, exec .trapAck s = .next t
        ∧ outgoing (answered d .done 0 s) <+: outgoing t ∧ t.chi.diq = s.chi.diq.erase d
        ∧ (t.zone z).trapped = false ∧ (∀ y, y ≠ z → t.zone y = s.zone y)
        ∧ (∀ x, (s.station x).cfg.zone = z → (t.station x).holds = { (s.station x).holds with trap := false })
        ∧ (∀ x, (s.station x).cfg.zone ≠ z → t.station x = s.station x) ∧ Released ended s t
        ∧ t.ptb = s.ptb ∧ t.rcs = s.rcs ∧ t.fcu = s.fcu)))

/-- R102: INDEX is refused BAD_ARG, RESTRICTED, TRAPPED, WRONG_MODE or NOT_REFERENCED by the first check that fails, after the
source check (R180, ACCESS). R117, R103: INDEX at a MANUAL machining station that is referenced, in a zone in RUN, while the
device is not RESTRICTED, answers DONE with the target where the station has no entry and its fixture is there; BUSY where it
has an active and a PENDING entry, and where no entry is free (R6: the message is urgent); and otherwise ACCEPTED with the
target, a MOVE entry of controller origin in the lowest free entry, PENDING behind an active entry, and READY otherwise, which a
station that is held keeps it; at one that is not held the promotion follows at once (R120). That the ANSWER stands before what
the promotion sends is the model's reading (log entry 11). -/
def Obligations.IndexCreatesAMove : Prop :=
  (∀ (d : DiqItem) (s : State), BetweenEvents s → Takes .index d s →
    (d.msg.src ≠ s.mga.controller → exec .index s = .next (answered d .access 0 s)) ∧
    (FromController d s → 16 ≤ d.msg.station.toNat ∨ 8 ≤ d.msg.argB.toNat → exec .index s = .next (answered d .badArg 0 s)) ∧
    (∀ (st : Stn) (k : Fin 8), FromController d s → d.msg.station.toNat = st.val → d.msg.argB.toNat = k.val →
      (s.fcu.restricted = true → exec .index s = .next (answered d .restricted 0 s)) ∧
      (s.fcu.restricted = false → stationTrapped s st = true → exec .index s = .next (answered d .trapped 0 s)) ∧
      (s.fcu.restricted = false → stationTrapped s st = false →
        st = s.stb.load ∨ s.stb.rework = some st ∨ (s.station st).mode ≠ .manual →
        exec .index s = .next (answered d .wrongMode 0 s)) ∧
      (s.fcu.restricted = false → stationTrapped s st = false → st ≠ s.stb.load → s.stb.rework ≠ some st →
        (s.station st).mode = .manual → (s.station st).referenced = false →
        exec .index s = .next (answered d .notReferenced 0 s)))) ∧
  ∀ (d : DiqItem) (s : State) (st : Stn) (k : Fin 8), BetweenEvents s → Takes .index d s → FromController d s →
    d.msg.station.toNat = st.val → d.msg.argB.toNat = k.val → s.fcu.restricted = false →
    stationTrapped s st = false → isMachining s st = true → (s.station st).mode = .manual →
    (s.station st).referenced = true →
    let target := targetOf (s.station st).cfg k (occOffset s st)
    let move (es : EState) : Entry :=
      { station := st, params := .move k target none, origin := .controller, pallet := occPallet s st, received := none,
        estate := es, cancelReq := false, acceptance := s.mga.time, deadline := none, remaining := none, released := none }
    (hasEntry s st = false → (s.station st).isAt target = true →
      exec .index s = .next (answered d .done target.toNat s)) ∧
    ((activeEntry s st).isSome = true → (pendingEntry s st).isSome = true →
      exec .index s = .next (answered d .busy 0 s)) ∧
    (hasEntry s st = true ∨ (s.station st).isAt target = false → freeEntry s = none →
      exec .index s = .next (answered d .busy 0 s)) ∧
    (∀ e, (activeEntry s st).isSome = true → pendingEntry s st = none → freeEntry s = some e →
      exec .index s = .next (closeEvent (insertEntry e (move .pending) (answered d .accepted target.toNat s)))) ∧
    (∀ e, hasEntry s st = false → (s.station st).isAt target = false → freeEntry s = some e →
      (s.held st = true →
        exec .index s = .next (closeEvent (insertEntry e (move .ready) (answered d .accepted target.toNat s)))) ∧
      (s.held st = false →
        exec .index s = promoteEvent e (insertEntry e (move .ready) (answered d .accepted target.toNat s))))

/-- R128: CANCEL at a MANUAL station without a PENDING entry answers NOTHING without an active entry, NOT_CANCELLABLE for an
ISSUED CLAMP or RELEASE, ACCEPTED for a CANCELLING entry, all without effect; an ISSUED MOVE or CYCLE becomes CANCELLING with
the flag set and its STOP or ABORT goes to the tail of the UGQ. An active entry that is READY, DEFERRED or SENDING is freed
CANCELLED and the answer is DONE, its command taken out of the DEQ and its item out of the deferred list; a PENDING entry is
freed CANCELLED in any case and counted in the answer (here the entries are of controller origin, and nobody waits for one).
That the ANSWER stands before the notices of the command is the model's reading (log entry 11). -/
def Obligations.CancelStopsTheActiveEntry : Prop :=
  ∀ (d : DiqItem) (s : State), BetweenEvents s → Takes .cancel d s → FromController d s →
    (d.msg.stn? = none → exec .cancel s = .next (answered d .badArg 0 s)) ∧
    (∀ st, d.msg.stn? = some st →
      ((s.station st).mode ≠ .manual → exec .cancel s = .next (answered d .wrongMode 0 s)) ∧
      ((s.station st).mode = .manual → pendingEntry s st = none →
        (activeEntry s st = none → exec .cancel s = .next (answered d .nothing 0 s)) ∧
        (∀ e en, activeEntry s st = some e → s.entry? e = some en →
          (en.estate = .cancelling → exec .cancel s = .next (answered d .accepted 0 s)) ∧
          (en.estate = .issued → (paramsKind en.params = .clamp ∨ paramsKind en.params = .release) →
            exec .cancel s = .next (answered d .notCancellable 0 s)) ∧
          (en.estate = .issued → (paramsKind en.params = .move ∨ paramsKind en.params = .cycle) → ∃ t m,
            exec .cancel s = .next t
            ∧ t = { answered d .accepted 0 s with
                chi := { (answered d .accepted 0 s).chi with ugq := s.chi.ugq ++ [{ msg := m, entry := e }] }
                mrt := { (answered d .accepted 0 s).mrt with entries := t.mrt.entries } }
            ∧ t.entry? e = some { en with estate := .cancelling, cancelReq := true }
            ∧ (∀ j, j ≠ e → t.entry? j = s.entry? j)
            ∧ m.urgent = true ∧ m.dst = (s.station st).cfg.node ∧ m.station.toNat = st.val ∧ m.pallet = en.pallet
            ∧ m.kind = (if paramsKind en.params = .move then kStop else kAbort) ∧ m.argA = 0 ∧ m.argB = 0))) ∧
      (∀ e en, (s.station st).mode = .manual → pendingEntry s st = none → activeEntry s st = some e → s.entry? e = some en →
        (en.estate = .ready ∨ en.estate = .deferred ∨ en.estate = .sending) → LeavesAlone e en s →
        (∀ it ∈ s.ilk.deferred, it.entry = e) → ∃ t, exec .cancel s = .next t
        ∧ FreedTold e en 4 (answered d .done 1 s) t ∧ outgoing (answered d .done 1 s) <+: outgoing t
        ∧ t.chi.deq = s.chi.deq.filter (fun x => x.entry != some e) ∧ t.ilk = { s.ilk with deferred := [] }
        ∧ t.stb = s.stb ∧ t.ptb = s.ptb ∧ t.fcu = s.fcu) ∧
      (∀ p q, (s.station st).mode = .manual → activeEntry s st = none → pendingEntry s st = some p → s.entry? p = some q →
        LeavesAlone p q s → s.ilk.deferred = [] → ∃ t, exec .cancel s = .next t
        ∧ FreedTold p q 4 (answered d .nothing 1 s) t ∧ outgoing (answered d .nothing 1 s) <+: outgoing t
        ∧ t.stb = s.stb ∧ t.ptb = s.ptb ∧ t.fcu = s.fcu) ∧
      (∀ p q e en, (s.station st).mode = .manual → pendingEntry s st = some p → s.entry? p = some q →
        activeEntry s st = some e → s.entry? e = some en → q.origin = .controller → en.origin = .controller →
        (s.station st).pendingMode = none → (freeEntry s).isSome = true →
        (∀ y, (s.proc y).wait = .nothing ∧ (s.proc y).due = none ∧ (s.proc y).replan = false) →
        (∀ j x, s.entry? j = some x → x.station = st → j = p ∨ j = e) → s.ilk.deferred = [] →
        let answers (a : Status) (n : Nat) (t : State) : Prop := exec .cancel s = .next t ∧ t.entry? p = none
          ∧ (∀ j, j ≠ p → j ≠ e → t.entry? j = s.entry? j) ∧ outgoing (answered d a n s) <+: outgoing t
        ((en.estate = .ready ∨ en.estate = .sending) → ∃ t, answers .done 2 t ∧ t.entry? e = none) ∧
        (en.estate = .issued → (paramsKind en.params = .clamp ∨ paramsKind en.params = .release) → ∃ t,
          answers .notCancellable 1 t ∧ t.entry? e = some en) ∧
        (en.estate = .cancelling → ∃ t, answers .accepted 1 t ∧ t.entry? e = some en) ∧
        (en.estate = .issued → (paramsKind en.params = .move ∨ paramsKind en.params = .cycle) → ∃ t,
          answers .accepted 1 t ∧ t.entry? e = some { en with estate := .cancelling, cancelReq := true })))

/-- R74, R76: MODE answers DONE for the current mode and withdraws a pending one; with an entry at the station another mode
becomes the pending mode, ACCEPTED; AUTO at a machining station without reference and without entries is NOT_REFERENCED; any
other mode of a station without entries is applied at once, the process given up on leaving AUTO (the re-evaluation of route
waiters has nothing to do where nobody waits). R84, R86: a station that enters AUTO takes up its occupant: none gives EMPTY, an
unmanaged one BLOCKED, a departing one RELEASING; a pallet PRESENT at a station of its current step whose clamps do not hold its
operation's pattern gets a CLAMP entry; a station BLOCKED stays so. R85: the current mode asked while a command waits for a
pending mode lets the process judge that command again, here one of its operation that is a CLAMP. That the ANSWER stands before
the notices of the command is the model's reading (log entry 11). -/
def Obligations.ModeIsAppliedOrPends : Prop :=
  ∀ (d : DiqItem) (s : State), BetweenEvents s → Takes .mode d s → FromController d s →
    ((d.msg.stn? = none ∨ 3 ≤ d.msg.argB.toNat) → exec .mode s = .next (answered d .badArg 0 s)) ∧
    (∀ st md, d.msg.stn? = some st → d.msg.argB.toNat = modeCode md →
      (md = (s.station st).mode → (s.proc st).wait ≠ .mode → exec .mode s = .next
        ((answered d .done 0 s).modStn st (fun r => { r with pendingMode := none }))) ∧
      (md ≠ (s.station st).mode → hasEntry s st = true → exec .mode s = .next
        ((answered d .accepted 0 s).modStn st (fun r => { r with pendingMode := some md }))) ∧
      (md ≠ (s.station st).mode → hasEntry s st = false → md = .auto → isMachining s st = true →
        (s.station st).referenced = false → exec .mode s = .next (answered d .notReferenced 0 s)) ∧
      (md ≠ (s.station st).mode → hasEntry s st = false → md ≠ .auto → NobodyWaits s → ∃ t, exec .mode s = .next t
        ∧ t = { answered d .done 0 s with
            stb := { s.stb with stn := upd s.stb.stn st (fun r => { r with mode := md, pendingMode := none }) }
            idx := t.idx }
        ∧ (∀ x, x ≠ st → t.proc x = s.proc x)
        ∧ ((s.station st).mode ≠ .auto → t.proc st = s.proc st)
        ∧ ((s.station st).mode = .auto → (t.proc st).pallet = none ∧
            (t.proc st).pstate = (if (s.proc st).pstate = .blocked then .blocked else .empty))) ∧
      (md ≠ (s.station st).mode → hasEntry s st = false → md = .auto →
        (isMachining s st = true → (s.station st).referenced = true) → NobodyWaits s →
        let applied (t : State) : Prop := exec .mode s = .next t
          ∧ t.stb = { s.stb with stn := upd s.stb.stn st (fun r => { r with mode := .auto, pendingMode := none }) }
          ∧ outgoing (answered d .done 0 s) <+: outgoing t ∧ (∀ x, x ≠ st → t.proc x = s.proc x) ∧ t.ptb = s.ptb
        ((s.proc st).pstate = .blocked → ∃ t, applied t ∧ t.proc st = s.proc st ∧ t.mrt.entries = s.mrt.entries) ∧
        ((s.proc st).pstate ≠ .blocked →
          ((s.station st).occupant = .nobody → ∃ t, applied t ∧ (t.proc st).pstate = .empty ∧ (t.proc st).pallet = none
            ∧ t.mrt.entries = s.mrt.entries) ∧
          (∀ g, (s.station st).occupant = .unmanaged g → ∃ t, applied t ∧ Blocks st t ∧ t.mrt.entries = s.mrt.entries) ∧
          (∀ p i r, (s.station st).occupant = .tracked p → HasRecord p i r s →
            (r.rstate ≠ .present st → ∃ t, applied t ∧ (t.proc st).pstate = .releasing ∧ (t.proc st).pallet = some p
              ∧ t.mrt.entries = s.mrt.entries) ∧
            (∀ step op e, isMachining s st = true → r.rstate = .present st → (s.proc st).stepEnded = false →
              r.quality.rejected = false → r.quality.aborted = false → currentStep s r = some step →
              step.group.getLsbD st.val = true → step.op? r.opCursor = some op → (s.station st).sensed ≠ some op.pattern →
              s.fcu.restricted = false → freeEntry s = some e →
              (s.held st = true ∨ s.held st = false ∧ CanBeSent st (.clamp op.pattern) s) → ∃ t, applied t
              ∧ Commanded st e (.clamp op.pattern) p .clamping (s.held st) s t)))) ∧
      (∀ p i r step op e, md = (s.station st).mode → (s.proc st).wait = .mode → (s.proc st).due = some .operation →
        (s.proc st).pallet = some p → HasRecord p i r s → currentStep s r = some step → step.op? r.opCursor = some op →
        (s.station st).sensed ≠ some op.pattern → hasEntry s st = false → s.fcu.restricted = false → freeEntry s = some e →
        (∀ y, (s.proc y).wait ≠ .entry) →
        (s.held st = true ∨ s.held st = false ∧ CanBeSent st (.clamp op.pattern) s) → ∃ t, exec .mode s = .next t
        ∧ t.stb = { s.stb with stn := upd s.stb.stn st (fun r => { r with pendingMode := none }) }
        ∧ outgoing (answered d .done 0 s) <+: outgoing t ∧ (∀ x, x ≠ st → t.proc x = s.proc x) ∧ (t.proc st).wait = .nothing
        ∧ Commanded st e (.clamp op.pattern) p .clamping (s.held st) s t))

/-- R44, R58, R59: FORGET is refused BAD_ARG for tag 0, answered NOTHING where no record holds the tag, and refused WRONG_MODE where
the record is neither LOST nor PRESENT at the MANUAL load or rework station. An allowed one frees the slot, answers DONE, and every
station that has the tag as its tracked occupant has it as an unmanaged tag; no other slot and no approach list changes (no
admission waits and no bank is RETIRING here). -/
def Obligations.ForgetFreesTheRecord : Prop :=
  ∀ (d : DiqItem) (s : State), BetweenEvents s → Takes .forget d s → FromController d s →
    let holds (i : Slot) (r : Record) : Prop :=
      s.ptb.slots.get i = some r ∧ r.tag.toNat = d.msg.argB.toNat
        ∧ ∀ j, j < i → ∀ q, s.ptb.slots.get j = some q → q.tag ≠ r.tag
    let allowed (r : Record) : Prop :=
      (∃ l, r.rstate = .lost l) ∨
      (∃ x, r.rstate = .present x ∧ (x = s.stb.load ∨ s.stb.rework = some x) ∧ (s.station x).mode = .manual)
    (d.msg.argB = 0 → exec .forget s = .next (answered d .badArg 0 s)) ∧
    (d.msg.argB ≠ 0 → (∀ i r, ¬ holds i r) → exec .forget s = .next (answered d .nothing 0 s)) ∧
    (∀ i r, d.msg.argB ≠ 0 → holds i r → ¬ allowed r → exec .forget s = .next (answered d .wrongMode 0 s)) ∧
    (∀ i r, d.msg.argB ≠ 0 → holds i r → allowed r → s.ptb.pendingAdm = none → retiringBank s = none → ∃ t,
      exec .forget s = .next t
      ∧ t = { answered d .done 0 s with
          ptb := { s.ptb with slots := upd s.ptb.slots i (fun _ => none) }
          stb := { s.stb with stn := t.stb.stn } }
      ∧ ∀ x, t.station x = if (s.station x).occupant = .tracked r.tag
          then { s.station x with occupant := .unmanaged r.tag } else s.station x)

/-! ### Station requests from the controller -/

/-- R78, R79, R8, R77: a HOLD from the controller adds OPERATOR to every station it names; a station that becomes held keeps its
entries with SENDING back to READY, their commands out of the DEQ, and running deadlines frozen. A RESUME is refused RESTRICTED
while the device is RESTRICTED; otherwise it removes OPERATOR, and FAULT where no stop cause is PENDING, and sends one REFUSED
for each station that stays held, lowest first (here no station whose hold ends has a READY entry, a settle time of 0 or a
process that is STALLED or ARRIVED, no command is deferred, and no counter counts refusals); the holds that end restore
deadlines and settle ends (R114, R87). From another node both are refused ACCESS. That a REFUSED with ACCESS or RESTRICTED
carries the detail 0 is the model's choice (log entry 43). -/
def Obligations.HoldAndResume : Prop :=
  (∀ (d : DiqItem) (s : State), BetweenEvents s → Takes .hold d s →
    (d.msg.src ≠ s.mga.controller → exec .hold s = .next (refusedFor d .access 0 s)) ∧
    (FromController d s →
      let named (x : Stn) : Prop := d.msg.argA.getLsbD x.val = true ∨ d.msg.station.toNat = x.val
      let begins (x : Stn) : Prop := named x ∧ s.held x = false
      ∃ t, exec .hold s = .next t
        ∧ t = { s with
            chi := { s.chi with diq := s.chi.diq.erase d, deq := t.chi.deq }
            stb := { s.stb with stn := t.stb.stn }
            mrt := { s.mrt with entries := t.mrt.entries }
            idx := t.idx }
        ∧ (∀ x, named x → t.station x = { s.station x with holds := { (s.station x).holds with operator := true } })
        ∧ (∀ x, ¬ named x → t.station x = s.station x)
        ∧ (∀ e en, s.entry? e = some en → begins en.station → t.entry? e = some (freezeEntry s.mga.time en))
        ∧ (∀ e en, s.entry? e = some en → ¬ begins en.station → t.entry? e = some en)
        ∧ (∀ e, s.entry? e = none → t.entry? e = none)
        ∧ t.chi.deq.Sublist s.chi.deq
        ∧ (∀ q ∈ s.chi.deq, q ∉ t.chi.deq ↔
            ∃ e en, q.entry = some e ∧ s.entry? e = some en ∧ begins en.station ∧ en.estate = .sending)
        ∧ (∀ x, begins x → (s.proc x).pstate = .settling → t.proc x = { s.proc x with settleEnd := none })
        ∧ ∀ x, ¬ (begins x ∧ (s.proc x).pstate = .settling) → t.proc x = s.proc x)) ∧
  (∀ (d : DiqItem) (s : State), BetweenEvents s → Takes .resume d s →
    (d.msg.src ≠ s.mga.controller → exec .resume s = .next (refusedFor d .access 0 s)) ∧
    (FromController d s → s.fcu.restricted = true → exec .resume s = .next (refusedFor d .restricted 0 s)) ∧
    (FromController d s → s.fcu.restricted = false → s.ilk.deferred = [] →
      (∀ i, (s.lmn.counters.get i).source ≠ .event .refused) →
      let named (x : Stn) : Prop := d.msg.argA.getLsbD x.val = true ∨ d.msg.station.toNat = x.val
      let faultGoes (r : Station) : Prop :=
        ∀ k : FaultKind, r.stopCauses.getLsbD k.val = true → (s.faultRec k).pending = false
      let ended (x : Stn) : Prop := named x ∧ s.held x = true ∧ (s.station x).holds.trap = false
        ∧ ((s.station x).holds.fault = true → faultGoes (s.station x))
      EndsCalmly ended s → (∀ x, ended x → (s.proc x).pstate ≠ .stalled ∧ (s.proc x).pstate ≠ .arrived) →
      ∃ (t : State) (still : List Stn), exec .resume s = .next t
        ∧ t = { s with
            chi := { s.chi with diq := s.chi.diq.erase d, nq := t.chi.nq }
            mrt := { entries := t.mrt.entries, kept := t.mrt.kept }
            stb := { s.stb with stn := t.stb.stn }
            idx := t.idx }
        ∧ Released ended s t
        ∧ (∀ x, ¬ named x → t.station x = s.station x)
        ∧ (∀ x, named x →
            let r := s.station x
            let ends := r.holds.fault = true ∧ faultGoes r
            (ends → t.station x = { r with
              holds := { operator := false, trap := r.holds.trap, fault := false }, stopCauses := 0 }) ∧
            (¬ ends → t.station x = { r with holds := { r.holds with operator := false } }))
        ∧ still.Pairwise (· < ·) ∧ (∀ x : Stn, x ∈ still ↔ named x ∧ t.held x = true)
        ∧ outgoing t = outgoing s ++ still.map (fun x =>
            mkMsg 0 d.msg.src s.mga.node kRefused d.msg.station d.msg.pallet
              (if (t.station x).holds.trap then 23 else 24) (d.msg.kind ++ BitVec.ofNat 8 x.val))))

/-- R121, R120, R106, R97: the end of a hold at a station with an entry or a process under way. A READY entry of a station whose
hold a RESUME or a TRAP_ACK ends is promoted again, a MOVE planned anew: with its check passed it is SENDING and its command at
the tail of the DEQ. A RESUME that ends the hold of an AUTO machining station in STALLED, referenced, takes its occupant up
again: none gives EMPTY, a pallet PRESENT there whose step work is not ended gets the first command of its operation, here a
CLAMP, and one whose step work is ended goes HOMING, here by a MOVE to stop 0. Without a reference, or with an entry still in
the table, the station stays STALLED. -/
def Obligations.HoldsThatEnd : Prop :=
  (∀ (i : Instr) (d : DiqItem) (s : State) (st : Stn) (e : EntryNo) (en : Entry), BetweenEvents s → Takes i d s →
    FromController d s → s.ilk.deferred = [] → s.entry? e = some en → en.station = st → en.estate = .ready →
    en.remaining = none → (∀ j q, s.entry? j = some q → q.station = st → j = e) → planSatisfied (planEntry s en) = false →
    CanBeSent st (judgedOf en.params) s → (∀ x, (s.proc x).pstate = .empty) →
    (i = .resume → s.fcu.restricted = false → (∀ x : Stn, d.msg.argA.getLsbD x.val = true ∨ d.msg.station.toNat = x.val ↔ x = st) →
      (s.station st).holds = { operator := true, trap := false, fault := false } → ∃ t, exec .resume s = .next t
      ∧ Sent e en s t ∧ t.held st = false ∧ (∀ j, j ≠ e → t.entry? j = s.entry? j) ∧ t.idx = s.idx) ∧
    (∀ z : Zone, i = .trapAck → d.msg.argB.toNat = zoneNo z → (s.zone z).trapped = true → (s.zone z).causes.fault = false →
      ((s.zone z).causes.pin = true → (s.zone z).filtered = false ∧ (s.zone z).exitAuto = false) →
      (s.station st).cfg.zone = z → (s.station st).holds = { operator := false, trap := true, fault := false } →
      (∀ x, x ≠ st → (s.station x).cfg.zone = z → ∀ j q, s.entry? j = some q → q.station = x → q.estate ≠ .ready) →
      ∃ t, exec .trapAck s = .next t ∧ Sent e en s t ∧ t.held st = false ∧ t.idx = s.idx)) ∧
  (∀ (d : DiqItem) (s : State) (st : Stn), BetweenEvents s → Takes .resume d s → FromController d s →
    s.fcu.restricted = false → s.ilk.deferred = [] →
    (∀ x : Stn, d.msg.argA.getLsbD x.val = true ∨ d.msg.station.toNat = x.val ↔ x = st) →
    (s.station st).holds = { operator := true, trap := false, fault := false } → (s.station st).mode = .auto →
    (s.station st).pendingMode = none → isMachining s st = true → (s.proc st).pstate = .stalled →
    (∀ e en, s.entry? e = some en → en.station = st → en.estate = .issued) →
    ((s.station st).referenced = false ∨ hasEntry s st = true → ∃ t, exec .resume s = .next t
      ∧ (t.proc st).pstate = .stalled ∧ (t.proc st).pallet = (s.proc st).pallet
      ∧ (t.proc st).stepEnded = (s.proc st).stepEnded ∧ t.held st = false) ∧
    ((s.station st).referenced = true → hasEntry s st = false →
      ((s.station st).occupant = .nobody → ∃ t, exec .resume s = .next t
        ∧ (t.proc st).pstate = .empty ∧ (t.proc st).pallet = none ∧ t.mrt.entries = s.mrt.entries) ∧
      (∀ p i r e, (s.station st).occupant = .tracked p → HasRecord p i r s → r.rstate = .present st →
        freeEntry s = some e → (∀ y, (s.proc y).wait ≠ .entry) →
        (∀ step op, (s.proc st).stepEnded = false ∨ (s.proc st).pallet ≠ some p → r.quality.rejected = false →
          r.quality.aborted = false → currentStep s r = some step → step.group.getLsbD st.val = true →
          step.op? r.opCursor = some op → (s.station st).sensed ≠ some op.pattern → CanBeSent st (.clamp op.pattern) s → ∃ t,
          exec .resume s = .next t ∧ Commanded st e (.clamp op.pattern) p .clamping false s t) ∧
        (let target := targetOf (s.station st).cfg 0 r.offset
         (s.proc st).stepEnded = true → (s.proc st).pallet = some p → (s.station st).isAt target = false →
          (∃ v, (s.station st).sensed = some v ∧ (s.station st).commanded = some v) → CanBeSent st .move s → ∃ t,
          exec .resume s = .next t
          ∧ Commanded st e (.move 0 target (some (planMove (s.station st) target))) p .homing false s t))))

/-- R7, R8, R9, R117, R136: a CLAMP, CYCLE or RELEASE is refused NOT_ALLOWED where it is addressed to the device, and otherwise
by the first check of R8 that fails; at an AUTO station it is refused WRONG_MODE; at an OUT station it goes to the DEQ unchanged
or is refused HARD_INTERLOCK; at a MANUAL station it becomes an entry of controller origin in the lowest free entry, PENDING
behind an active entry and READY otherwise, which a station that is held keeps it; at one that is not held the promotion follows
at once (R120). Behind a PENDING entry it is refused BUSY, and so it is where no entry is free (R6: the message is urgent). That
a REFUSED whose reason has no detail carries 0 there is the model's choice (log entry 43). -/
def Obligations.StationCommandsAreAcceptedByMode : Prop :=
  ∀ (i : Instr) (d : DiqItem) (s : State), (i = .clamp ∨ i = .cycle ∨ i = .release) → BetweenEvents s → Takes i d s →
    let m := d.msg
    let params : Params :=
      if i = .clamp then .clamp (m.argA.setWidth 4) else if i = .cycle then .cycle m.argA m.argB none else .release m.argA
    let judged : Judged :=
      if i = .clamp then .clamp (m.argA.setWidth 4) else if i = .cycle then .cycle else .release
    (m.dst = s.mga.node → exec i s = .next (refusedFor d .notAllowed 0 s)) ∧
    (m.dst ≠ s.mga.node → m.src ≠ s.mga.controller → exec i s = .next (refusedFor d .access 0 s)) ∧
    (m.dst ≠ s.mga.node → FromController d s → 16 ≤ m.station.toNat → exec i s = .next (refusedFor d .badArg 0 s)) ∧
    (∀ st : Stn, m.dst ≠ s.mga.node → FromController d s → m.station.toNat = st.val →
      (m.dst ≠ (s.station st).cfg.node → exec i s = .next (refusedFor d .badArg 0 s)) ∧
      (m.dst = (s.station st).cfg.node → s.fcu.restricted = true → exec i s = .next (refusedFor d .restricted 0 s)) ∧
      (m.dst = (s.station st).cfg.node → s.fcu.restricted = false → stationTrapped s st = true →
        exec i s = .next (refusedFor d .trapped 0 s)) ∧
      (m.dst = (s.station st).cfg.node → s.fcu.restricted = false → stationTrapped s st = false →
        ((s.station st).mode = .auto → exec i s = .next (refusedFor d .wrongMode 0 s)) ∧
        (∀ n, (s.station st).mode = .out → hardCheck s st judged = some n →
          exec i s = .next (refusedFor d .hardInterlock n s)) ∧
        ((s.station st).mode = .out → hardCheck s st judged = none → exec i s = .next (forwarded d s)) ∧
        ((s.station st).mode = .manual →
          let entry (es : EState) : Entry :=
            { station := st, params := params, origin := .controller, pallet := m.pallet, received := some m, estate := es,
              cancelReq := false, acceptance := s.mga.time, deadline := none, remaining := none, released := none }
          ((activeEntry s st).isSome = true → (pendingEntry s st).isSome = true →
            exec i s = .next (refusedFor d .busy 0 s)) ∧
          (freeEntry s = none → exec i s = .next (refusedFor d .busy 0 s)) ∧
          (∀ e, (activeEntry s st).isSome = true → pendingEntry s st = none → freeEntry s = some e →
            exec i s = .next (closeEvent (insertEntry e (entry .pending) (removeDiq d s)))) ∧
          (∀ e, activeEntry s st = none → freeEntry s = some e →
            (s.held st = true → exec i s = .next (closeEvent (insertEntry e (entry .ready) (removeDiq d s)))) ∧
            (s.held st = false → exec i s = promoteEvent e (insertEntry e (entry .ready) (removeDiq d s)))))))

/-- R7, R8, R10: a JOG or REFER that passes the checks goes to the DEQ unchanged where its station is OUT with the tool
RETRACTED, and is refused WRONG_MODE at any other mode and HARD_INTERLOCK with detail 0 at any other tool state. A MOVE, STOP or
ABORT is refused NOT_ALLOWED, ACCESS from another node than the controller. A STATUS_REQ, and a message of any other kind that
the device does not act on, goes to the DEQ unchanged. Each of them is refused NOT_ALLOWED where it is addressed to the device.
That a REFUSED whose reason has no detail carries 0 there is the model's choice (log entry 43). -/
def Obligations.OtherStationMessages : Prop :=
  (∀ (i : Instr) (d : DiqItem) (s : State), (i = .jog ∨ i = .refer) → BetweenEvents s → Takes i d s →
    (d.msg.dst = s.mga.node → exec i s = .next (refusedFor d .notAllowed 0 s)) ∧
    (∀ r, d.msg.dst ≠ s.mga.node → checkRequest s d.msg = .error r → exec i s = .next (refusedFor d r 0 s)) ∧
    (∀ st : Stn, d.msg.dst ≠ s.mga.node → FromController d s → d.msg.station.toNat = st.val →
      d.msg.dst = (s.station st).cfg.node → s.fcu.restricted = false → stationTrapped s st = false →
      ((s.station st).mode ≠ .out → exec i s = .next (refusedFor d .wrongMode 0 s)) ∧
      ((s.station st).mode = .out → (s.station st).tool ≠ .retracted → exec i s = .next (refusedFor d .hardInterlock 0 s)) ∧
      ((s.station st).mode = .out → (s.station st).tool = .retracted → exec i s = .next (forwarded d s)))) ∧
  (∀ (i : Instr) (d : DiqItem) (s : State), (i = .move ∨ i = .stop ∨ i = .abort) → BetweenEvents s → Takes i d s →
    (d.msg.dst = s.mga.node ∨ FromController d s → exec i s = .next (refusedFor d .notAllowed 0 s)) ∧
    (d.msg.dst ≠ s.mga.node → d.msg.src ≠ s.mga.controller → exec i s = .next (refusedFor d .access 0 s))) ∧
  (∀ (i : Instr) (d : DiqItem) (s : State), (i = .statusReq ∨ i = .downlaneForward) → BetweenEvents s → Takes i d s →
    (d.msg.dst = s.mga.node → exec i s = .next (refusedFor d .notAllowed 0 s)) ∧
    (d.msg.dst ≠ s.mga.node → exec i s = .next (forwarded d s)))

/-! ### Reception, links, trap inputs and time -/

/-- R1, R2, R11, R12, R173: a place is claimed where the link is UP and the device's ready is high. An intact message with its place
enters its queue at the tail, at port A with the time of its arrival, its place released and one event counted; at port B one that
is not applied, for its kind or for its source, changes nothing else. A message that is not intact is discarded, its place released,
and MESSAGE_CRC raised. That one without a claimed place is discarded alike, the ready line high or low, is the model's reading (log
entry 8). -/
def Obligations.Reception : Prop :=
  (∀ (p : Port) (s : State), Running s → (s.port p).up = true → (s.port p).claimed = false → readyOut s p = true →
    exec (.ingressPlaceClaim p) s = .next (s.setPort p { s.port p with claimed := true })) ∧
  (∀ (m : Msg) (s : State), Running s → s.chi.a.up = true → s.chi.a.claimed = true → m.intact = true → ∃ t,
    exec (.downlaneReceive m) s = .next t
    ∧ t = { s with
        chi := { s.chi with
          a := { s.chi.a with claimed := false }, diq := s.chi.diq ++ [{ msg := m, arrival := s.mga.time }]
          nq := t.chi.nq, afterLoss := t.chi.afterLoss }
        mrt := { s.mrt with kept := t.mrt.kept }
        lmn := t.lmn, mga := { s.mga with summary := t.mga.summary } }
    ∧ ∀ i, (s.lmn.counters.get i).source ≠ .event .noticeLost → (t.lmn.counters.get i).count =
        (s.lmn.counters.get i).count + (if (s.lmn.counters.get i).sees .msgSeenDown m.stn? (some m.kind) then 1 else 0)) ∧
  (∀ (i : Instr) (m : Msg) (s : State), Running s → s.chi.b.up = true → s.chi.b.claimed = true → m.intact = true →
    (i = .uplaneForward m ∧ (isReportKind m.kind = false ∨ reporter s m = none)
      ∨ reporter s m = none ∧ (i = .tagReport m ∧ m.kind = kTag ∨ i = .atReport m ∧ m.kind = kAt
        ∨ i = .clampedReport m ∧ m.kind = kClamped ∨ i = .toolReport m ∧ m.kind = kTool
        ∨ i = .cycleEndReport m ∧ m.kind = kCycleEnd ∨ i = .goneReport m ∧ m.kind = kGone
        ∨ i = .nodeFaultReport m ∧ m.kind = kNodeFault)) → ∃ t,
    exec i s = .next t
    ∧ t = { s with
        chi := { s.chi with
          b := { s.chi.b with claimed := false }, uiq := s.chi.uiq ++ [m], nq := t.chi.nq, afterLoss := t.chi.afterLoss }
        mrt := { s.mrt with kept := t.mrt.kept }
        lmn := t.lmn, mga := { s.mga with summary := t.mga.summary } }
    ∧ ∀ j, (s.lmn.counters.get j).source ≠ .event .noticeLost → (t.lmn.counters.get j).count =
        (s.lmn.counters.get j).count + (if (s.lmn.counters.get j).sees .msgSeenUp m.stn? (some m.kind) then 1 else 0)) ∧
  (∀ (p : Port) (s : State), Running s → (s.port p).up = true →
    exec (.messageDiscarded p) s
      = .next (closeEvent (occur fMessageCrc none 0 (s.setPort p { s.port p with claimed := false })))) ∧
  (∀ (m : Msg) (s : State), Running s → s.chi.a.up = true → (s.chi.a.claimed = false ∨ m.intact = false) →
    exec (.downlaneReceive m) s
      = .next (closeEvent (occur fMessageCrc none 0 (s.setPort .a { s.chi.a with claimed := false }))))

/-- R20: when port B's link changes from DOWN to UP every station's sent state becomes not held, so that the next HOLD names every
station whose intent is held and no RESUME results. R4: at port A nothing but the link changes; each is told as a LINK event. A loss
of the link discards a reception, cuts off a transmission, keeps the queues, raises the port's link fault and is told. -/
def Obligations.Links : Prop :=
  (∀ s : State, Running s → s.chi.b.up = false → ∃ t, exec (.linkUp .b) s = .next t
    ∧ t = closeEvent (notice .linkUp 255 0 1
        { s with chi := { s.chi with b := { s.chi.b with up := true }, sent := 0 } })
    ∧ t.chi.b.up = true ∧ t.chi.sent = 0 ∧ holdDue t = heldSet t ∧ resumeDue t = 0) ∧
  (∀ s : State, Running s → s.chi.a.up = false →
    exec (.linkUp .a) s
      = .next (closeEvent (notice .linkUp 255 0 0 { s with chi := { s.chi with a := { s.chi.a with up := true } } }))) ∧
  (∀ (p : Port) (s : State), Running s → (s.port p).up = true →
    let k : FaultKind := if p = .a then 14 else 15
    ∃ t, exec (.linkDown p) s = .next t
    ∧ t.port p = { up := false, claimed := false, tx := none } ∧ (∀ q, q ≠ p → t.port q = s.port q)
    ∧ t.chi.diq = s.chi.diq ∧ t.chi.uiq = s.chi.uiq ∧ t.chi.ugq = s.chi.ugq ∧ s.chi.nq <+: t.chi.nq
    ∧ (t.faultRec k).pending = true ∧ (t.faultRec k).count = min 255 ((s.faultRec k).count + 1)
    ∧ (t.faultRec k).lastStn = none ∧ (∀ j, j ≠ k → t.faultRec j = s.faultRec j)
    ∧ t.mga.summary.getLsbD 7 = true ∧ t.ptb = s.ptb ∧ t.rcs = s.rcs ∧ t.ilk = s.ilk)

/-- R149, R155: a change of a trap input flips the raw level and starts the measurement, in reset the level alone, which is the
model's reading (log entry 17); where the filter in force is not yet over nothing else changes. A filtered level that becomes
ACTIVE adds PIN, and traps a zone in RUN with every station of it; one that becomes INACTIVE leaves PIN in exit mode MANUAL, and
removes it in AUTO; where PIN was the last cause the zone returns to RUN, and the holds of its stations that TRAP alone held end
(R114, R87; none of them has a READY entry or a settle time of 0, and no command is deferred here). -/
def Obligations.TrapInputs : Prop :=
  (∀ (z : Zone) (s : State), s.mga.inReset = true →
    exec (.trapInputChange z) s = .next (s.setZone z { s.zone z with raw := !(s.zone z).raw })) ∧
  (∀ (z : Zone) (s : State), Running s →
    let t := s.setZone z { s.zone z with raw := !(s.zone z).raw, changedAt := s.mga.time }
    assertDue t z = false → releaseDue t z = false → exec (.trapInputChange z) s = .next t) ∧
  (∀ (z : Zone) (s : State), Running s → (s.zone z).filtered = false → (s.zone z).raw = false →
    heldFor (s.zone z) s.mga.time (s.zone z).assertFilter = true →
    ((s.zone z).trapped = true → exec (.trapFilterAssert z) s = .next (s.setZone z
      { s.zone z with filtered := true, causes := { (s.zone z).causes with pin := true } })) ∧
    ((s.zone z).trapped = false → ∃ t, exec (.trapFilterAssert z) s = .next t
      ∧ t.zone z = { s.zone z with filtered := true, causes := { pin := true, fault := false, command := false, reset := false } }
      ∧ (∀ y, y ≠ z → t.zone y = s.zone y)
      ∧ (∀ x, (s.station x).cfg.zone = z → (t.station x).holds = { (s.station x).holds with trap := true })
      ∧ (∀ x, (s.station x).cfg.zone ≠ z → t.station x = s.station x)
      ∧ t.mga.summary.getLsbD 4 = true ∧ t.ptb = s.ptb ∧ t.rcs = s.rcs ∧ t.ilk = s.ilk ∧ t.fcu = s.fcu)) ∧
  (∀ (z : Zone) (s : State), Running s → (s.zone z).filtered = true → (s.zone z).raw = true →
    heldFor (s.zone z) s.mga.time (s.zone z).releaseFilter = true →
    let c := (s.zone z).causes
    ((s.zone z).exitAuto = false →
      exec (.trapFilterRelease z) s = .next (s.setZone z { s.zone z with filtered := false })) ∧
    ((s.zone z).exitAuto = true → (c.fault || c.command || c.reset) = true →
      exec (.trapFilterRelease z) s = .next (s.setZone z
        { s.zone z with filtered := false, causes := { c with pin := false } })) ∧
    ((s.zone z).exitAuto = true → c = { pin := true, fault := false, command := false, reset := false } →
      let ended (x : Stn) : Prop := (s.station x).cfg.zone = z ∧
        (s.station x).holds = { operator := false, trap := true, fault := false }
      EndsCalmly ended s → ∃ t, exec (.trapFilterRelease z) s = .next t
      ∧ (t.zone z).trapped = false ∧ (t.zone z).filtered = false ∧ (∀ y, y ≠ z → t.zone y = s.zone y)
      ∧ (∀ x, (s.station x).cfg.zone = z → (t.station x).holds = { (s.station x).holds with trap := false })
      ∧ (∀ x, (s.station x).cfg.zone ≠ z → t.station x = s.station x) ∧ Released ended s t
      ∧ t.ptb = s.ptb ∧ t.rcs = s.rcs ∧ t.fcu = s.fcu))

/-- R186, R175: a tick advances the time by one, modulo 2^32. With nothing due at the new time it then samples every counter 0 to 3
with an occupancy source: it adds the value where the threshold is 0 and the edge flag clear, else one where the condition holds and,
with the edge flag, did not hold at the sample before. R115, R186: what the new time makes due is taken in the tick, here one event
of the time, before the samples. The model's choices for the time: each thing due is an event of its own (log entry 5), and a tick and
a scan act whatever their prescalers hold and clear them (log entry 6). R167: a scan replaces the mismatch set; with a mismatch and a
CLEAR record of TABLE_INTEGRITY, whose level is RESTRICT, the device becomes RESTRICTED and both zones TRAPPED. -/
def Obligations.TickAndScan : Prop :=
  (∀ s : State, Running s → NothingDue { s with mga := { s.mga with time := s.mga.time + 1 } } → ∃ t,
    exec .timeTick s = .next t
    ∧ t = { s with
        chi := { s.chi with nq := t.chi.nq, afterLoss := t.chi.afterLoss }
        mrt := { s.mrt with kept := t.mrt.kept }
        lmn := { s.lmn with counters := t.lmn.counters }
        mga := { s.mga with time := s.mga.time + 1, prescaler := 0, summary := t.mga.summary } }
    ∧ ∀ (i : CounterNo) (c : Counter), c = s.lmn.counters.get i → ∀ q, q = t.lmn.counters.get i →
      (∀ src, c.source = .occ src → i.val < 4 →
        let v := occValue s src c.stnFilter
        let holds := if c.invert then decide (v < max c.threshold 1) else decide (max c.threshold 1 ≤ v)
        q.prev = holds
        ∧ (c.edge = false → c.threshold = 0 → q.count = c.count + BitVec.ofNat 32 v)
        ∧ (c.edge = false → 0 < c.threshold → q.count = c.count + BitVec.ofNat 32 (bitN holds))
        ∧ (c.edge = true → q.count = c.count + BitVec.ofNat 32 (bitN (holds && !c.prev))))
      ∧ ((∀ src, c.source ≠ .occ src) → c.source ≠ .event .noticeLost → q = c)) ∧
  (∀ (i : Instr) (s u : State), Running s →
    let now : State := { s with mga := { s.mga with time := s.mga.time + 1, prescaler := 0 } }
    isTimed i = true → exec i now = .next u → (∀ j, isTimed j = true → j ≠ i → exec j now = .next now) → NothingDue u →
    exec .timeTick s = .next (closeEvent (sampleAll u))) ∧
  (∀ s : State, Running s →
    (scanSet s = 0 ∨ (s.faultRec 19).pending = true → exec .integrityScan s = .next
      { s with fcu := { s.fcu with mismatch := scanSet s, scanClock := 0 } }) ∧
    (scanSet s ≠ 0 → (s.faultRec 19).pending = false → (s.fcu.reaction.get 19).level = .restrict → ∃ t,
      exec .integrityScan s = .next t
      ∧ t.fcu.mismatch = scanSet s ∧ t.fcu.scanClock = 0 ∧ t.fcu.restricted = true
      ∧ (t.faultRec 19).pending = true ∧ (t.faultRec 19).count = min 255 ((s.faultRec 19).count + 1)
      ∧ (t.faultRec 19).zones = { a := true, b := true } ∧ (∀ j, j ≠ 19 → t.faultRec j = s.faultRec j)
      ∧ (∀ z, (t.zone z).causes = { (s.zone z).causes with fault := true })
      ∧ (∀ e, s.entry? e = none → t.entry? e = none)
      ∧ t.ptb = s.ptb ∧ t.rcs = s.rcs ∧ t.ilk = s.ilk))

/-! ### Expiries and the ends of entries -/

/-- R31: a record in TRANSIT whose deadline has passed becomes LOST with its destination kept, leaves that station's approach list,
and PALLET_LOST is raised with the destination and the pallet (no station waits for a route here, and no other record has the tag).
R163: a PENDING record whose escalation expiry has passed rises by one level, its expiry starting anew below RESTRICT while the kind
has an escalation time; its count and its first and last fields are kept. -/
def Obligations.TransitExpiryAndEscalation : Prop :=
  (∀ (i : Slot) (r : Record) (dest : Stn) (dl : Time) (s : State), Running s → s.ptb.slots.get i = some r →
    r.rstate = .transit dest dl → (dl - s.mga.time).toInt ≤ 0 → (∀ x, (s.proc x).wait ≠ .route) →
    (∀ j q, s.ptb.slots.get j = some q → q.tag = r.tag → j = i) → ∃ t, exec (.transitExpiry i) s = .next t
    ∧ t.ptb = { s.ptb with
        slots := upd s.ptb.slots i (fun _ => some { r with rstate := .lost (some dest) })
        approach := upd s.ptb.approach dest (fun l => l.erase r.tag) }
    ∧ (t.faultRec 7).pending = true ∧ (t.faultRec 7).count = min 255 ((s.faultRec 7).count + 1)
    ∧ (t.faultRec 7).lastStn = some dest ∧ (t.faultRec 7).lastPallet = r.tag
    ∧ (∀ j, j ≠ 7 → t.faultRec j = s.faultRec j) ∧ (∀ x, (t.station x).occupant = (s.station x).occupant)
    ∧ t.rcs = s.rcs ∧ t.ilk = s.ilk ∧ (∀ e, s.entry? e = none → t.entry? e = none)) ∧
  (∀ (k : FaultKind) (x : Time) (s : State), Running s → (s.faultRec k).pending = true → (s.faultRec k).expiry = some x →
    (x - s.mga.time).toInt ≤ 0 →
    let r := s.faultRec k
    let up := levelUp r.level
    let esc := (s.fcu.reaction.get k).escalation
    ∃ t, exec (.escalation k) s = .next t
    ∧ (t.faultRec k).level = up ∧ (t.faultRec k).pending = true ∧ (t.faultRec k).count = r.count
    ∧ (t.faultRec k).firstStn = r.firstStn ∧ (t.faultRec k).lastStn = r.lastStn
    ∧ (t.faultRec k).expiry
        = (if up = .restrict ∨ esc = 0 then none else some (s.mga.time + BitVec.ofNat 32 esc))
    ∧ (∀ j, j ≠ k → t.faultRec j = s.faultRec j)
    ∧ (up = .restrict → t.fcu.restricted = true) ∧ (up ≠ .restrict → t.fcu.restricted = s.fcu.restricted)
    ∧ (up = .lineTrap ∨ up = .restrict → ∀ z, (t.zone z).causes = { (s.zone z).causes with fault := true })
    ∧ t.mga.summary.getLsbD 0 = true ∧ t.ptb = s.ptb ∧ t.rcs = s.rcs ∧ t.ilk = s.ilk)

/-- R87, R86, R85, R118, R120: a settle whose end has passed, and was not taken yet (log entries 9 and 34), with successor
OPERATION evaluates the operation of the pallet's op cursor. Where the clamps are at its pattern and the fixture at its stop a
CYCLE is due: it takes the lowest free entry, the process is MACHINING, and with the hard-wired check passed and no interlock
entry valid its command goes to the tail of the DEQ. -/
def Obligations.SettledOperationStartsItsCycle : Prop :=
  ∀ (st : Stn) (s : State) (x : Time) (tag : Tag) (r : Record) (step : RouteStep) (op : Operation) (e : EntryNo),
    Running s → (s.proc st).settleEnd = some x → (x - s.mga.time).toInt ≤ 0 → (s.proc st).settleTaken = false →
    (s.proc st).settleSucc = some .operation →
    (s.proc st).pallet = some tag → s.record? tag = some r → currentStep s r = some step → step.op? r.opCursor = some op →
    (s.station st).sensed = some op.pattern → (s.station st).commanded = some op.pattern →
    (s.station st).isAt (targetOf (s.station st).cfg op.stop r.offset) = true →
    (s.station st).pendingMode = none → hasEntry s st = false → s.fcu.restricted = false → freeEntry s = some e →
    (∀ y, (s.proc y).wait ≠ .entry) → hardCheck s st .cycle = none → (∀ i, (s.ilk.table.get i).valid = false) →
    s.chi.deq.length < 16 → sendingWaiters s = [] →
    ∃ t m, exec (.settleExpiry st) s = .next t
    ∧ t.entry? e = some
        { station := st, params := .cycle (BitVec.ofNat 16 op.program) (BitVec.ofNat 16 r.opCursor) (some op.limit)
          origin := .dispatch, pallet := tag, received := none, estate := .sending, cancelReq := false
          acceptance := s.mga.time, deadline := none, remaining := none, released := none }
    ∧ (∀ j, j ≠ e → t.entry? j = s.entry? j)
    ∧ t.chi.deq = s.chi.deq ++ [{ msg := m, entry := some e }]
    ∧ m.kind = kCycle ∧ m.dst = (s.station st).cfg.node ∧ m.station.toNat = st.val ∧ m.pallet = tag
    ∧ m.argA = BitVec.ofNat 16 op.program ∧ m.argB = BitVec.ofNat 16 r.opCursor
    ∧ (t.proc st).pstate = .machining ∧ (t.proc st).settleEnd = none ∧ (∀ y, y ≠ st → t.proc y = s.proc y)
    ∧ t.stb = s.stb ∧ t.ptb = s.ptb ∧ t.rcs = s.rcs ∧ t.ilk = s.ilk ∧ t.trp = s.trp ∧ t.fcu = s.fcu

/-- R125, R127, R130, R131, R145, R132: an entry of controller origin, alone at a station without a pending mode while nobody
waits, is freed by the CYCLE_END of its operation (told as COMMAND, no fault), by its deadline (the timeout fault of its kind
raised with its station and pallet, and told as COMMAND; R32: a RELEASE that times out gives its pallet's record back to the
station where the pallet is still its occupant and the record in TRANSIT or LOST with that destination), and by its deferral
deadline (DEFER_TIMEOUT raised, and a REFUSED sent to the controller). -/
def Obligations.EntriesEnd : Prop :=
  (∀ (m : Msg) (st : Stn) (s : State) (e : EntryNo) (en : Entry) (p op : Word) (lim : Option Nat), BetweenEvents s →
    ReportAt kCycleEnd m st s → NobodyWaits s → s.entry? e = some en → en.station = st → en.params = .cycle p op lim →
    en.estate = .issued → en.origin = .controller → m.argA = op → (s.station st).pendingMode = none →
    (∀ j q, s.entry? j = some q → q.station = st → j = e) → ∃ t, exec (.cycleEndReport m) s = .next t
    ∧ t.entry? e = none ∧ (∀ j, j ≠ e → t.entry? j = s.entry? j)
    ∧ t.chi.uiq = s.chi.uiq ++ [m] ∧ t.mga.summary.getLsbD 3 = true
    ∧ t.fcu = s.fcu ∧ t.stb = s.stb ∧ t.ptb = s.ptb ∧ t.rcs = s.rcs ∧ t.trp = s.trp) ∧
  (∀ (s : State) (e : EntryNo) (en : Entry) (x : Time), Running s → NobodyWaits s → s.entry? e = some en →
    (en.estate = .issued ∨ en.estate = .cancelling) → en.deadline = some x → (x - s.mga.time).toInt ≤ 0 →
    en.origin = .controller → (s.station en.station).pendingMode = none →
    (∀ j q, s.entry? j = some q → q.station = en.station → j = e) →
    let k : FaultKind := match en.params with
      | .move _ _ _ => 1
      | .clamp _ => 2
      | .cycle _ _ _ => 3
      | .release _ => 4
    ∃ t, exec (.entryDeadlineExpiry e) s = .next t
    ∧ t.entry? e = none ∧ (∀ j, s.entry? j = none → t.entry? j = none)
    ∧ (t.faultRec k).pending = true ∧ (t.faultRec k).count = min 255 ((s.faultRec k).count + 1)
    ∧ (t.faultRec k).lastStn = some en.station ∧ (t.faultRec k).lastPallet = en.pallet
    ∧ (∀ j, j ≠ k → t.faultRec j = s.faultRec j) ∧ t.mga.summary.getLsbD 3 = true ∧ t.rcs = s.rcs ∧ t.ilk.table = s.ilk.table
    ∧ (paramsKind en.params ≠ .release → t.ptb = s.ptb)
    ∧ (∀ dest g i r, en.params = .release dest → en.released = some g → HasRecord g i r s →
        let back := { r with rstate := .present en.station }
        let here := (s.station en.station).occupant = .tracked g
        (∀ y dl, here → r.rstate = .transit y dl → dest.toNat = y.val → t.ptb = { s.ptb with
          slots := upd s.ptb.slots i (fun _ => some back), approach := upd s.ptb.approach y (fun l => l.erase g) }) ∧
        (∀ y, here → r.rstate = .lost (some y) → dest.toNat = y.val → t.ptb = { s.ptb with
          slots := upd s.ptb.slots i (fun _ => some back) }) ∧
        (¬ here ∨ (∃ y, r.rstate = .present y) ∨ (∃ y dl, r.rstate = .transit y dl ∧ dest.toNat ≠ y.val)
          ∨ (∃ y, r.rstate = .lost (some y) ∧ dest.toNat ≠ y.val) → t.ptb = s.ptb))) ∧
  (∀ (s : State) (e : EntryNo) (en : Entry) (it : DeferItem), Running s → s.entry? e = some en → s.ilk.deferred = [it] →
    it.entry = e → (it.deadline - s.mga.time).toInt ≤ 0 → en.estate = .deferred → en.origin = .controller →
    (freeEntry s).isSome = true → (∀ y, (s.proc y).wait = .nothing ∧ (s.proc y).due = none ∧ (s.proc y).replan = false) →
    (s.station en.station).pendingMode = none → (∀ j q, s.entry? j = some q → q.station = en.station → j = e) →
    ∃ t, exec (.deferExpiry e) s = .next t
    ∧ t.entry? e = none ∧ t.ilk = { s.ilk with deferred := [] } ∧ (∀ j, s.entry? j = none → t.entry? j = none)
    ∧ (t.faultRec 18).pending = true ∧ (t.faultRec 18).count = min 255 ((s.faultRec 18).count + 1)
    ∧ (t.faultRec 18).lastStn = some en.station ∧ (t.faultRec 18).lastPallet = en.pallet
    ∧ (∀ j, j ≠ 18 → t.faultRec j = s.faultRec j)
    ∧ (∃ r ∈ outgoing t, r.kind = kRefused ∧ r.dst = s.mga.controller ∧ r.station.toNat = en.station.val
        ∧ r.pallet = en.pallet ∧ r.argA = 22
        ∧ r.argB = (cmdCode (paramsKind en.params) ++ BitVec.ofNat 8 it.deferring.val))
    ∧ t.rcs = s.rcs)

/-! ### Reports of the stations -/

/-- R33 to R36: a TAG at a station that is not the load station. A re-read of the tracked occupant updates the last-seen time where its
record is PRESENT there, brings it back RECOVERED where it is LOST, and does nothing else; another occupant's TAG is ignored and the
station blocked; a tag that no record holds, or 0, becomes the unmanaged occupant, and so does one whose record is PRESENT, the
station blocked and STRANGER or DUPLICATE_TAG raised. A pallet in TRANSIT toward the station, or LOST with it as last destination,
becomes PRESENT there, with OVERTAKE where tags were ahead of it and RECOVERED where it was LOST; another one is PRESENT there too,
MISROUTED is marked and raised, and the station is blocked where it is not in the group of the current step. (The station is not
AUTO, or its process is under way, where the dispatcher would take the pallet up.) R84, R85, R86: an arrival at an AUTO station in
EMPTY starts a process on it: STALLED without a reference, else ARRIVED and the first test of its operation, here a CLAMP entry. -/
def Obligations.TagArrivals : Prop :=
  (∀ (m : Msg) (st : Stn) (s : State), BetweenEvents s → ReportAt kTag m st s → s.ilk.deferred = [] → st ≠ s.stb.load →
    let p := m.pallet
    let seen (i : Slot) (r : Record) (t : State) : Prop :=
      t.ptb = { s.ptb with slots := upd s.ptb.slots i (fun _ => some { r with lastSeen := s.mga.time }) }
    let calm (t : State) : Prop :=
      t.chi.uiq = s.chi.uiq ++ [m] ∧ t.stb = s.stb ∧ t.fcu = s.fcu ∧ t.mrt.entries = s.mrt.entries ∧ t.idx = s.idx
        ∧ t.rcs = s.rcs
    (∀ i r, (s.station st).occupant = .tracked p → HasRecord p i r s →
      (r.rstate = .present st → ∃ t, exec (.tagReport m) s = .next t ∧ seen i r t ∧ calm t) ∧
      ((∃ x dl, r.rstate = .transit x dl) ∨ (∃ x, r.rstate = .present x ∧ x ≠ st) →
        ∃ t, exec (.tagReport m) s = .next t ∧ t.ptb = s.ptb ∧ calm t) ∧
      (∀ l, r.rstate = .lost l → ((s.station st).mode ≠ .auto ∨ (s.proc st).pstate ≠ .empty) → ∃ t,
        exec (.tagReport m) s = .next t ∧ seen i { r with rstate := .present st } t
        ∧ Tells .recovered (stnByte st) p 0 s t ∧ calm t)) ∧
    ((s.station st).occupant = .unmanaged p → ∃ t, exec (.tagReport m) s = .next t ∧ t.ptb = s.ptb ∧ calm t) ∧
    ((s.station st).occupant ≠ .nobody → (s.station st).occupant ≠ .tracked p → (s.station st).occupant ≠ .unmanaged p →
      ∃ t, exec (.tagReport m) s = .next t ∧ t.ptb = s.ptb ∧ OccupiedBy st (s.station st).occupant s t ∧ Blocks st t
      ∧ (NoRecord p s → Raises 9 (some st) p s t) ∧ (¬ NoRecord p s → Raises 10 (some st) p s t)
      ∧ t.chi.uiq = s.chi.uiq ++ [m] ∧ t.rcs = s.rcs) ∧
    ((s.station st).occupant = .nobody → (p = 0 ∨ NoRecord p s) → ∃ t, exec (.tagReport m) s = .next t
      ∧ t.ptb = s.ptb ∧ OccupiedBy st (.unmanaged p) s t ∧ Blocks st t ∧ Raises 9 (some st) p s t
      ∧ t.chi.uiq = s.chi.uiq ++ [m] ∧ t.rcs = s.rcs) ∧
    (∀ i r x, (s.station st).occupant = .nobody → p ≠ 0 → HasRecord p i r s → r.rstate = .present x → ∃ t,
      exec (.tagReport m) s = .next t
      ∧ t.ptb = s.ptb ∧ OccupiedBy st (.unmanaged p) s t ∧ Blocks st t ∧ Raises 10 (some st) p s t
      ∧ t.chi.uiq = s.chi.uiq ++ [m] ∧ t.rcs = s.rcs)) ∧
  (∀ (m : Msg) (st : Stn) (s : State), BetweenEvents s → ReportAt kTag m st s → NobodyWaits s →
    st ≠ s.stb.load → ((s.station st).mode ≠ .auto ∨ (s.proc st).pstate ≠ .empty) → (s.station st).occupant = .nobody →
    m.pallet ≠ 0 → ∀ i r, HasRecord m.pallet i r s →
    let arrived := { r with rstate := .present st, lastSeen := s.mga.time }
    let intended (l : List Tag) (t : State) : Prop :=
      t.ptb = { s.ptb with
          slots := upd s.ptb.slots i (fun _ => some arrived), approach := upd s.ptb.approach st (fun _ => l) }
      ∧ t.stb = { s.stb with stn := upd s.stb.stn st (fun x => { x with occupant := .tracked m.pallet }) }
      ∧ t.chi.uiq = s.chi.uiq ++ [m] ∧ t.fcu = s.fcu ∧ t.mrt.entries = s.mrt.entries ∧ t.idx = s.idx ∧ t.rcs = s.rcs
    (∀ dl front back, r.rstate = .transit st dl → s.ptb.approach.get st = front ++ m.pallet :: back → m.pallet ∉ front →
      ∃ t, exec (.tagReport m) s = .next t ∧ intended (front ++ back) t
      ∧ (front ≠ [] → Tells .overtake (stnByte st) m.pallet front.length s t)) ∧
    (r.rstate = .lost (some st) → ∃ t, exec (.tagReport m) s = .next t ∧ intended (s.ptb.approach.get st) t
      ∧ Tells .recovered (stnByte st) m.pallet 0 s t) ∧
    (((∃ x dl, r.rstate = .transit x dl ∧ x ≠ st) ∨ (∃ l, r.rstate = .lost l ∧ l ≠ some st)) → ∃ t,
      exec (.tagReport m) s = .next t
      ∧ t.ptb.slots = upd s.ptb.slots i (fun _ => some { arrived with quality := { r.quality with misrouted := true } })
      ∧ (∀ x dl, r.rstate = .transit x dl →
          t.ptb.approach = upd s.ptb.approach x (fun l => l.erase m.pallet))
      ∧ (∀ l, r.rstate = .lost l → t.ptb.approach = s.ptb.approach)
      ∧ OccupiedBy st (.tracked m.pallet) s t ∧ Raises 8 (some st) m.pallet s t
      ∧ ((∃ step, currentStep s r = some step ∧ step.group.getLsbD st.val = true) →
          (t.proc st).pstate = (s.proc st).pstate ∧ (t.proc st).pallet = (s.proc st).pallet)
      ∧ ((∀ step, currentStep s r = some step → step.group.getLsbD st.val = false) → Blocks st t)
      ∧ t.chi.uiq = s.chi.uiq ++ [m] ∧ t.rcs = s.rcs)) ∧
  (∀ (m : Msg) (st : Stn) (s : State), BetweenEvents s → ReportAt kTag m st s → NobodyWaits s → isMachining s st = true →
    (s.station st).mode = .auto → (s.proc st).pstate = .empty → (s.station st).occupant = .nobody → m.pallet ≠ 0 →
    ∀ i r dl rest, HasRecord m.pallet i r s → r.rstate = .transit st dl → s.ptb.approach.get st = m.pallet :: rest →
    ((s.station st).referenced = false → ∃ t, exec (.tagReport m) s = .next t
      ∧ (t.proc st).pstate = .stalled ∧ (t.proc st).pallet = some m.pallet ∧ t.mrt.entries = s.mrt.entries
      ∧ OccupiedBy st (.tracked m.pallet) s t ∧ Tells .stalled (stnByte st) m.pallet 2 s t) ∧
    (∀ step op e, (s.station st).referenced = true → (s.proc st).stepEnded = false → r.quality.rejected = false →
      r.quality.aborted = false → currentStep s r = some step → step.group.getLsbD st.val = true →
      step.op? r.opCursor = some op → (s.station st).sensed ≠ some op.pattern → (s.station st).pendingMode = none →
      hasEntry s st = false → s.fcu.restricted = false → freeEntry s = some e →
      let en (es : EState) : Entry :=
        { station := st, params := .clamp op.pattern, origin := .dispatch, pallet := m.pallet, received := none
          estate := es, cancelReq := false, acceptance := s.mga.time, deadline := none, remaining := none, released := none }
      (s.held st = true → ∃ t, exec (.tagReport m) s = .next t
        ∧ t.mrt.entries = upd s.mrt.entries e (fun _ => some (en .ready)) ∧ t.chi.deq = s.chi.deq
        ∧ (t.proc st).pstate = .clamping ∧ (t.proc st).pallet = some m.pallet) ∧
      (hardCheck s st (.clamp op.pattern) = none → (∀ n, (s.ilk.table.get n).valid = false) → sendingWaiters s = [] →
        s.chi.deq.length < 16 → ∃ t, exec (.tagReport m) s = .next t
        ∧ t.mrt.entries = upd s.mrt.entries e (fun _ => some (en .sending))
        ∧ t.chi.deq = s.chi.deq ++ [{ msg := commandMsg s (en .sending), entry := some e }]
        ∧ (t.proc st).pstate = .clamping ∧ (t.proc st).pallet = some m.pallet)))

/-- R37 to R41: a TAG at the load station. A departing occupant's TAG does nothing; with another occupant it is ignored, tag 0 is a
stranger, and a tag whose record is PRESENT elsewhere is a duplicate, the station blocked. Otherwise a tag that no record holds is
admitted into the lowest free slot with the ACTIVE bank's generation, both cursors 0 and the offset limited into ±offset_max (R24,
R27); a record restarts its journey in its own slot with the same values, leaves the list it stands in, raises MISROUTED where it was
on its way elsewhere, and tells PALLET_INCOMPLETE where its old route was incomplete and it was not PRESENT here; where the recipe of
the variant is not defined VARIANT_UNDEFINED is raised and the station blocked; where no slot is free PTB_FULL is raised, the station
blocked and the admission kept pending. (The station is not AUTO in the two cases that end in an admission.) R101, R84, R90 to R93: an
admission at the AUTO load station is routed: it waits ROUTE where no station of its first group is AUTO, and where the group is one
AUTO station with room a RELEASE toward it is made, here READY since the load station is held. -/
def Obligations.LoadStationTags : Prop :=
  ∀ (m : Msg) (st : Stn) (s : State), BetweenEvents s → ReportAt kTag m st s → s.ilk.deferred = [] → st = s.stb.load →
    let p := m.pallet
    let raw : Int := m.argA.toInt
    let lim : Int := s.ptb.offsetMax
    let fresh (g : Nat) (r : Record) : Prop :=
      r.tag = p ∧ r.variant.val = m.argB.toNat % 8 ∧ r.generation = g ∧ r.rstate = .present st
      ∧ r.routeCursor = 0 ∧ r.opCursor = 0 ∧ r.lastSeen = s.mga.time ∧ r.offset = max (-lim) (min lim raw)
      ∧ r.quality = { offsetLimited := decide (r.offset ≠ raw), rejected := false, aborted := false, misrouted := false }
    let defined (g : Nat) (rc : Recipe) : Prop := ∃ b, activeBank s = some b ∧ (s.rcs.banks.get b).generation = some g
      ∧ rc = (s.rcs.banks.get b).recipes.get (tagVariant m) ∧ 0 < rc.len
    let undefinedRecipe : Prop :=
      ∀ b, activeBank s = some b → ((s.rcs.banks.get b).recipes.get (tagVariant m)).len = 0
    let occ := (s.station st).occupant
    let ours : Prop := occ = .nobody ∨ occ = .tracked p ∨ occ = .unmanaged p
    (∀ i r x dl, occ = .tracked p → HasRecord p i r s → r.rstate = .transit x dl → ∃ t,
      exec (.tagReport m) s = .next t ∧ t.ptb = s.ptb ∧ t.stb = s.stb ∧ t.idx = s.idx ∧ t.fcu = s.fcu
      ∧ t.mrt.entries = s.mrt.entries ∧ t.chi.uiq = s.chi.uiq ++ [m]) ∧
    (occ ≠ .nobody → occ ≠ .tracked p → occ ≠ .unmanaged p → ∃ t, exec (.tagReport m) s = .next t
      ∧ t.ptb = s.ptb ∧ OccupiedBy st occ s t ∧ Blocks st t
      ∧ (NoRecord p s → Raises 9 (some st) p s t) ∧ (¬ NoRecord p s → Raises 10 (some st) p s t)) ∧
    (ours → p = 0 → NoRecord p s → ∃ t, exec (.tagReport m) s = .next t
      ∧ t.ptb = s.ptb ∧ OccupiedBy st (.unmanaged p) s t ∧ Blocks st t ∧ Raises 9 (some st) p s t) ∧
    (∀ i r x, ours → p ≠ 0 → HasRecord p i r s → r.rstate = .present x → x ≠ st → ∃ t, exec (.tagReport m) s = .next t
      ∧ t.ptb = s.ptb ∧ OccupiedBy st (.unmanaged p) s t ∧ Blocks st t ∧ Raises 10 (some st) p s t) ∧
    (∀ g rc i, ours → p ≠ 0 → NoRecord p s → defined g rc → s.ptb.slots.get i = none →
      (∀ j, j < i → s.ptb.slots.get j ≠ none) →
      ((s.station st).mode ≠ .auto → ∃ t r, exec (.tagReport m) s = .next t ∧ fresh g r
        ∧ t.ptb = { s.ptb with slots := upd s.ptb.slots i (fun _ => some r), pendingAdm := none }
        ∧ t.stb = { s.stb with stn := upd s.stb.stn st (fun x => { x with occupant := .tracked p }) }
        ∧ t.chi.uiq = s.chi.uiq ++ [m] ∧ t.fcu = s.fcu ∧ t.mrt.entries = s.mrt.entries ∧ t.rcs = s.rcs) ∧
      ((s.station st).mode = .auto → bankOf s g = activeBank s → (∀ e, s.entry? e = none) →
        (s.proc st).pstate = .empty → (s.proc st).wait = .nothing →
        ((∀ x : Stn, (rc.steps.get 0).group.getLsbD x.val = true → (s.station x).mode ≠ .auto) → ∃ t,
          exec (.tagReport m) s = .next t ∧ OccupiedBy st (.tracked p) s t
          ∧ (t.proc st).pstate = .routing ∧ (t.proc st).pallet = some p ∧ (t.proc st).wait = .route
          ∧ (t.proc st).waitingSince = some s.mga.time ∧ ∀ e, t.entry? e = none) ∧
        (∀ x : Stn, (rc.steps.get 0).group = 1#16 <<< x.val → (s.station x).mode = .auto →
          (s.ptb.approach.get x).length < (s.station x).cfg.capacity → s.held st = true → s.fcu.restricted = false →
          (s.station st).pendingMode = none → (∀ y, (s.proc y).wait = .nothing) → ∃ t,
          exec (.tagReport m) s = .next t ∧ (t.proc st).pstate = .releasing ∧ (t.proc st).pallet = some p
          ∧ t.entry? 0 = some
              { station := st, params := .release (BitVec.ofNat 16 x.val), origin := .dispatch, pallet := p, received := none
                estate := .ready, cancelReq := false, acceptance := s.mga.time, deadline := none, remaining := none
                released := none }
          ∧ ∀ e, e ≠ 0 → t.entry? e = none))) ∧
    (∀ g rc i r, ours → p ≠ 0 → HasRecord p i r s → (∀ x, r.rstate = .present x → x = st) →
      (∀ x dl, r.rstate = .transit x dl → occ ≠ .tracked p) → defined g rc → (s.station st).mode ≠ .auto → NobodyWaits s →
      ∃ t q, exec (.tagReport m) s = .next t ∧ fresh g q
      ∧ t.ptb.slots = upd s.ptb.slots i (fun _ => some q) ∧ t.ptb.pendingAdm = none
      ∧ (∀ x dl, r.rstate = .transit x dl → t.ptb.approach = upd s.ptb.approach x (fun l => l.erase p))
      ∧ ((∀ x dl, r.rstate ≠ .transit x dl) → t.ptb.approach = s.ptb.approach)
      ∧ OccupiedBy st (.tracked p) s t
      ∧ (r.rstate ≠ .present st → r.routeCursor < routeLen s r → t.mga.summary.getLsbD 1 = true)
      ∧ (((∃ x dl, r.rstate = .transit x dl ∧ x ≠ st) ∨ (∃ l, r.rstate = .lost l ∧ l ≠ some st)) →
          Raises 8 (some st) p s t)
      ∧ ((∃ dl, r.rstate = .transit st dl) ∨ r.rstate = .lost (some st) ∨ r.rstate = .present st → t.fcu.records = s.fcu.records)
      ∧ (retiringBank s = none → t.rcs = s.rcs) ∧ t.chi.uiq = s.chi.uiq ++ [m]) ∧
    (ours → p ≠ 0 → undefinedRecipe →
      (NoRecord p s → (∃ j, s.ptb.slots.get j = none) → ∃ t, exec (.tagReport m) s = .next t
        ∧ t.ptb = { s.ptb with pendingAdm := none } ∧ OccupiedBy st (.unmanaged p) s t ∧ Blocks st t
        ∧ Raises 12 (some st) p s t) ∧
      (∀ i r, HasRecord p i r s → r.rstate = .present st → ∃ t, exec (.tagReport m) s = .next t
        ∧ t.ptb = { s.ptb with
            slots := upd s.ptb.slots i (fun _ => some { r with lastSeen := s.mga.time }), pendingAdm := none }
        ∧ OccupiedBy st occ s t ∧ Blocks st t ∧ Raises 12 (some st) p s t)) ∧
    (ours → p ≠ 0 → NoRecord p s → (∀ j, s.ptb.slots.get j ≠ none) → ∃ t, exec (.tagReport m) s = .next t
      ∧ t.ptb = { s.ptb with pendingAdm := some { tag := p, variant := tagVariant m, raw := raw } }
      ∧ OccupiedBy st (.unmanaged p) s t ∧ Blocks st t ∧ Raises 11 (some st) p s t)

/-- R68, R69, R108, R109, R123: an AT REFERENCED sets the angle, the wind 0 and the referenced flag, and the start angle of a plan
under way; an AT without a MOVE in flight sets the angle, and at a station that is not OUT an angle beyond the tolerance is
uncommanded motion: the flag is cleared and UNCOMMANDED_MOTION raised; an AT MOVING of a MOVE in flight sets the angle alone; an AT
IN_POSITION at the target of an ISSUED controller MOVE alone at its station frees it, with the turn counted into the wind. A
DRIVE_FAULT, or a status above it, is a NODE_FAULT of the station and changes neither angle nor wind. -/
def Obligations.AngleReports : Prop :=
  (∀ (m : Msg) (st : Stn) (s : State), BetweenEvents s → ReportAt kAt m st s → s.ilk.deferred = [] → m.argB = 3 → ∃ t,
    exec (.atReport m) s = .next t
    ∧ t.stb = { s.stb with stn := upd s.stb.stn st (fun r => { r with c := m.argA, w := 0, referenced := true }) }
    ∧ (∀ e en k g p, s.entry? e = some en → en.station = st → en.params = .move k g (some p) →
        (en.estate = .sending ∨ en.estate = .issued ∨ en.estate = .cancelling) →
        t.entry? e = some { en with params := .move k g (some { p with start := m.argA }) })
    ∧ (∀ e en, s.entry? e = some en → en.station ≠ st → t.entry? e = some en)
    ∧ t.chi.uiq = s.chi.uiq ++ [m] ∧ t.ptb = s.ptb ∧ t.fcu = s.fcu ∧ t.idx = s.idx) ∧
  (∀ (m : Msg) (st : Stn) (s : State), BetweenEvents s → ReportAt kAt m st s → s.ilk.deferred = [] → m.argB.toNat ≤ 2 →
    inFlight s st .move = none →
    let gap := min (m.argA - (s.station st).c).toNat ((s.station st).c - m.argA).toNat
    ((s.station st).mode = .out ∨ gap ≤ (s.station st).cfg.tol → exec (.atReport m) s = .next
      (closeEvent ((enterUiq m s).modStn st (fun r => { r with c := m.argA })))) ∧
    ((s.station st).mode ≠ .out → (s.station st).cfg.tol < gap → ∃ t, exec (.atReport m) s = .next t
      ∧ (t.station st).c = m.argA ∧ (t.station st).w = (s.station st).w ∧ (t.station st).referenced = false
      ∧ (t.faultRec 5).pending = true ∧ (t.faultRec 5).count = min 255 ((s.faultRec 5).count + 1)
      ∧ (t.faultRec 5).lastStn = some st ∧ (∀ j, j ≠ 5 → t.faultRec j = s.faultRec j)
      ∧ (∀ x, x ≠ st → (t.station x).referenced = (s.station x).referenced ∧ (t.station x).c = (s.station x).c)
      ∧ t.chi.uiq = s.chi.uiq ++ [m] ∧ t.ptb = s.ptb ∧ t.rcs = s.rcs)) ∧
  (∀ (m : Msg) (st : Stn) (s : State) (e : EntryNo), BetweenEvents s → ReportAt kAt m st s → s.ilk.deferred = [] →
    m.argB = 1 → inFlight s st .move = some e → exec (.atReport m) s = .next
      (closeEvent ((enterUiq m s).modStn st (fun r => { r with c := m.argA })))) ∧
  (∀ (m : Msg) (st : Stn) (s : State) (e : EntryNo) (en : Entry) (k : Fin 8) (g : Angle) (p : Plan), BetweenEvents s →
    ReportAt kAt m st s → NobodyWaits s → m.argB = 0 → s.entry? e = some en → en.station = st →
    en.params = .move k g (some p) → en.estate = .issued → en.origin = .controller → (s.station st).pendingMode = none →
    (∀ j q, s.entry? j = some q → q.station = st → j = e) → atTarget (s.station st).cfg.tol m.argA g = true →
    let w := windAfter p (s.station st).cfg.tol m.argA (s.station st).w
    w.natAbs ≤ (s.station st).cfg.windLimit → ∃ t, exec (.atReport m) s = .next t
    ∧ t.stb = { s.stb with stn := upd s.stb.stn st (fun r => { r with c := m.argA, w := w }) }
    ∧ t.entry? e = none ∧ (∀ j, j ≠ e → t.entry? j = s.entry? j) ∧ t.mga.summary.getLsbD 3 = true
    ∧ t.chi.uiq = s.chi.uiq ++ [m] ∧ t.fcu = s.fcu ∧ t.ptb = s.ptb ∧ t.rcs = s.rcs) ∧
  (∀ (m : Msg) (st : Stn) (s : State), BetweenEvents s → ReportAt kAt m st s → s.ilk.deferred = [] → 4 ≤ m.argB.toNat → ∃ t,
    exec (.atReport m) s = .next t ∧ Raises 13 (some st) (occPallet s st) s t
    ∧ (∀ x, (t.station x).c = (s.station x).c ∧ (t.station x).w = (s.station x).w
        ∧ (t.station x).referenced = (s.station x).referenced)
    ∧ (∀ e, (t.entry? e).isSome = (s.entry? e).isSome)
    ∧ t.chi.uiq = s.chi.uiq ++ [m] ∧ t.ptb = s.ptb ∧ t.rcs = s.rcs)

/-- R73, R72, R42, R161: a CLAMPED sets the sensed pattern (no ISSUED CLAMP of that pattern here); a TOOL sets the tool state,
and TOOL ADVANCED at a station that is not OUT raises TOOL_CONFLICT where a MOVE is in flight, where a CLAMP is ISSUED and the
sensed pattern is UNKNOWN or still holds a circuit that the commanded one lacks, and where the fixture is not at a stop, and
nothing otherwise; a GONE clears the occupant, and a pallet that was PRESENT becomes LOST without destination and is told, no
fault raised (no RELEASE entry here); a NODE_FAULT is an occurrence for the station and its tracked occupant. -/
def Obligations.ClampToolGoneAndNodeFaultReports : Prop :=
  (∀ (m : Msg) (st : Stn) (s : State), BetweenEvents s → ReportAt kClamped m st s → s.ilk.deferred = [] →
    (∀ e en, s.entry? e = some en → en.station = st → en.estate = .issued → en.params ≠ .clamp (m.argA.setWidth 4)) →
    exec (.clampedReport m) s = .next
      (closeEvent ((enterUiq m s).modStn st (fun r => { r with sensed := some (m.argA.setWidth 4) })))) ∧
  (∀ (m : Msg) (st : Stn) (s : State), BetweenEvents s → ReportAt kTool m st s → s.ilk.deferred = [] →
    let tool : Tool := if m.argA = 0 then .retracted else if m.argA = 1 then .advanced else .unknown
    (m.argA ≠ 1 ∨ (s.station st).mode = .out → exec (.toolReport m) s = .next
      (closeEvent ((enterUiq m s).modStn st (fun r => { r with tool := tool })))) ∧
    let patterns (f : Pattern → Pattern → Prop) : Prop :=
      ∃ q ∈ (s.station st).sensed, ∃ c ∈ (s.station st).commanded, f q c
    let clampIssued : Prop := ∃ e, ∃ en ∈ s.entry? e, en.station = st ∧ paramsKind en.params = .clamp ∧ en.estate = .issued
    (m.argA = 1 → ¬ MoveInFlight st s → ¬ clampIssued ∨ patterns (fun q c => q &&& ~~~c = 0) → FixtureAtAStop st s →
      exec (.toolReport m) s = .next
        (closeEvent ((enterUiq m s).modStn st (fun r => { r with tool := .advanced })))) ∧
    (m.argA = 1 → (s.station st).mode ≠ .out →
      MoveInFlight st s ∨ (clampIssued ∧ ((s.station st).sensed = none ∨ patterns (fun q c => q &&& ~~~c ≠ 0)))
        ∨ ¬ FixtureAtAStop st s → ∃ t, exec (.toolReport m) s = .next t
      ∧ (t.station st).tool = .advanced
      ∧ (t.faultRec 6).pending = true ∧ (t.faultRec 6).count = min 255 ((s.faultRec 6).count + 1)
      ∧ (t.faultRec 6).lastStn = some st ∧ (t.faultRec 6).lastPallet = occPallet s st
      ∧ (∀ j, j ≠ 6 → t.faultRec j = s.faultRec j)
      ∧ t.chi.uiq = s.chi.uiq ++ [m] ∧ t.ptb = s.ptb ∧ t.rcs = s.rcs ∧ t.idx.procs.map (·.pstate) = s.idx.procs.map (·.pstate))) ∧
  (∀ (m : Msg) (st : Stn) (s : State), BetweenEvents s → ReportAt kGone m st s → s.ilk.deferred = [] →
    (s.station st).mode ≠ .auto → (∀ e en, s.entry? e = some en → en.station = st → paramsKind en.params ≠ .release) →
    let ptb := if st = s.stb.load then { s.ptb with pendingAdm := none } else s.ptb
    ∃ t, exec (.goneReport m) s = .next t
    ∧ t.stb = { s.stb with stn := upd s.stb.stn st (fun r => { r with occupant := .nobody }) }
    ∧ ((s.station st).occupant = .nobody ∨ (∃ g, (s.station st).occupant = .unmanaged g) → t.ptb = ptb)
    ∧ (∀ g i r, (s.station st).occupant = .tracked g → s.ptb.slots.get i = some r → r.tag = g →
        (∀ j q, s.ptb.slots.get j = some q → q.tag = g → j = i) →
        (r.rstate = .present st → t.ptb = { ptb with
          slots := upd s.ptb.slots i (fun _ => some { r with rstate := .lost none, lastSeen := s.mga.time }) }
          ∧ t.mga.summary.getLsbD 1 = true) ∧
        (∀ x dl, r.rstate = .transit x dl → t.ptb = { ptb with
          slots := upd s.ptb.slots i (fun _ => some { r with lastSeen := s.mga.time }) }) ∧
        (∀ l, r.rstate = .lost l → t.ptb = ptb))
    ∧ t.chi.uiq = s.chi.uiq ++ [m] ∧ t.fcu = s.fcu ∧ t.mrt.entries = s.mrt.entries ∧ t.rcs = s.rcs) ∧
  (∀ (m : Msg) (st : Stn) (s : State), BetweenEvents s → ReportAt kNodeFault m st s → s.ilk.deferred = [] → ∃ t,
    exec (.nodeFaultReport m) s = .next t
    ∧ (t.faultRec 13).pending = true ∧ (t.faultRec 13).count = min 255 ((s.faultRec 13).count + 1)
    ∧ (t.faultRec 13).lastStn = some st ∧ (t.faultRec 13).lastPallet = occPallet s st
    ∧ (∀ j, j ≠ 13 → t.faultRec j = s.faultRec j)
    ∧ ((t.faultRec 13).level = .stationStop → (t.station st).holds = { (s.station st).holds with fault := true })
    ∧ t.chi.uiq = s.chi.uiq ++ [m] ∧ t.ptb = s.ptb ∧ t.rcs = s.rcs ∧ t.ilk = s.ilk)

/-- R123, R124, R126, R129, R130, R131: an entry of controller origin, alone at its station while nobody waits, is ended by a
report. An AT STOPPED, or an AT IN_POSITION away from the target, fails an ISSUED MOVE with POSITION_ERROR. A CANCELLING MOVE
ends DONE with CANCEL_LATE at an AT IN_POSITION at its target and CANCELLED at any other AT that ends it, a CANCELLING CYCLE
CANCELLED at a CYCLE_END ABORTED of its operation and DONE with CANCEL_LATE at OK and REJECT, no fault raised; its STOP or ABORT
leaves the UGQ. A CLAMPED of its pattern ends an ISSUED CLAMP DONE. A GONE ends an ISSUED RELEASE DONE, and one that was not
transmitted CANCELLED. -/
def Obligations.ReportsEndEntries : Prop :=
  ∀ (m : Msg) (st : Stn) (s : State) (e : EntryNo) (en : Entry), BetweenEvents s → s.entry? e = some en → en.station = st →
    LeavesAlone e en s → (∀ it ∈ s.ilk.deferred, it.entry = e) →
    let r := s.station st
    let quiet (t : State) : Prop := t.chi.uiq = s.chi.uiq ++ [m] ∧ t.ptb = s.ptb ∧ t.rcs = s.rcs
    (∀ k g p, ReportAt kAt m st s → en.params = .move k g (some p) →
      let w := windAfter p r.cfg.tol m.argA r.w
      let arrives : Prop := m.argB = 0 ∧ atTarget r.cfg.tol m.argA g = true
      (en.estate = .issued → (m.argB = 0 ∨ m.argB = 2) → ¬ arrives → ∃ t, exec (.atReport m) s = .next t
        ∧ t.entry? e = none ∧ (∀ j, s.entry? j = none → t.entry? j = none) ∧ Raises 0 (some st) en.pallet s t
        ∧ (t.station st).c = m.argA ∧ (t.station st).w = w ∧ t.mga.summary.getLsbD 3 = true ∧ quiet t) ∧
      (en.estate = .cancelling → (m.argB = 0 ∨ m.argB = 2) → w.natAbs ≤ r.cfg.windLimit → ∃ t, exec (.atReport m) s = .next t
        ∧ (arrives → FreedTold e en 5 s t) ∧ (¬ arrives → FreedTold e en 4 s t)
        ∧ t.stb = { s.stb with stn := upd s.stb.stn st (fun x => { x with c := m.argA, w := w }) }
        ∧ t.chi.ugq = s.chi.ugq.filter (fun u => u.entry != e) ∧ t.fcu = s.fcu ∧ quiet t)) ∧
    (∀ p op lim, ReportAt kCycleEnd m st s → en.params = .cycle p op lim → en.estate = .cancelling → m.argA = op → ∃ t,
      exec (.cycleEndReport m) s = .next t
      ∧ (m.argB = 0 → FreedTold e en 6 s t) ∧ (m.argB = 1 → FreedTold e en 7 s t) ∧ (m.argB = 2 → FreedTold e en 4 s t)
      ∧ t.chi.ugq = s.chi.ugq.filter (fun u => u.entry != e) ∧ t.stb = s.stb ∧ t.fcu = s.fcu ∧ quiet t) ∧
    (ReportAt kClamped m st s → en.params = .clamp (m.argA.setWidth 4) → en.estate = .issued → ∃ t,
      exec (.clampedReport m) s = .next t ∧ FreedTold e en 0 s t
      ∧ t.stb = { s.stb with stn := upd s.stb.stn st (fun x => { x with sensed := some (m.argA.setWidth 4) }) }
      ∧ t.fcu = s.fcu ∧ quiet t) ∧
    (ReportAt kGone m st s → paramsKind en.params = .release → r.mode ≠ .auto → en.estate ≠ .cancelling → ∃ t,
      exec (.goneReport m) s = .next t
      ∧ t.entry? e = none ∧ (∀ j, j ≠ e → t.entry? j = s.entry? j) ∧ t.mga.summary.getLsbD 3 = true
      ∧ t.stb = { s.stb with stn := upd s.stb.stn st (fun x => { x with occupant := .nobody }) }
      ∧ t.chi.uiq = s.chi.uiq ++ [m] ∧ t.fcu = s.fcu ∧ t.rcs = s.rcs
      ∧ t.chi.deq = s.chi.deq.filter (fun d => d.entry != some e)
      ∧ ((∀ g i q, r.occupant = .tracked g → s.ptb.slots.get i = some q → q.tag = g → q.rstate ≠ .present st) →
          FreedTold e en (if en.estate = .issued then 0 else 4) s t))

/-! ### Transmission -/

/-- R15, R1: the port A transmitter, its link UP, its neighbour ready and nothing being sent, sends the head of the queue that holds a
message, or of the one not served last where both do. R132: the oldest kept refusal takes a free place at the tail of the NQ. A
transmission that ends leaves the port free. -/
def Obligations.PortATransmission : Prop :=
  (∀ s : State, Running s → s.chi.a.up = true → s.chi.a.tx = none →
    (∀ m rest, s.chi.uiq = m :: rest → (s.chi.nq = [] ∨ s.chi.lastServed = .nq) →
      exec (.portATransmit true) s = .next
        { s with chi := { s.chi with a := { s.chi.a with tx := some m }, uiq := rest, lastServed := .uiq } }) ∧
    (∀ m rest, s.chi.nq = m :: rest → (s.chi.uiq = [] ∨ s.chi.lastServed = .uiq) →
      exec (.portATransmit true) s = .next
        { s with chi := { s.chi with a := { s.chi.a with tx := some m }, nq := rest, lastServed := .nq } })) ∧
  (∀ (s : State) (m : Msg) (rest : List Msg), Running s → s.mrt.kept = m :: rest → s.chi.nq.length < 16 →
    exec .keptRefusalDelivery s = .next
      { s with chi := { s.chi with nq := s.chi.nq ++ [m] }, mrt := { s.mrt with kept := rest } }) ∧
  (∀ (p : Port) (s : State), Running s → (s.port p).tx.isSome = true →
    exec (.transmissionEnd p) s = .next (s.setPort p { s.port p with tx := none })) ∧
  (∀ s : State, s.chi.a.up = false ∨ s.chi.a.tx ≠ none → ∀ ready, exec (.portATransmit ready) s = .next s)

/-- R18, R22: the hold image. Where a station's intent is held and its sent state is not, or a soft reset has placed its HOLD, the
port B transmitter sends a HOLD with the set of all such stations (all 16 after the soft reset), and their sent state becomes held.
Otherwise, where a station's sent state is held and its intent is not, it sends a RESUME with the set of all such stations, and
their sent state becomes not held. R19: each of those owes a STATUS_REQ, and those enter the DEQ at once while it has places. -/
def Obligations.HoldImage : Prop :=
  (∀ s : State, Running s → canStart s .b true = true → (s.chi.softHold = true ∨ holdDue s ≠ 0) →
    let set := if s.chi.softHold then 0xFFFF#16 else holdDue s
    ∃ m, exec (.portBHold true) s = .next
        { s with chi := { s.chi with
            b := { s.chi.b with tx := some m }, sent := s.chi.sent ||| set, softHold := false } }
      ∧ m.kind = kHold ∧ m.urgent = true ∧ m.dst = 63 ∧ m.src = s.mga.node ∧ m.station = 255 ∧ m.pallet = 0
      ∧ m.argA = set ∧ m.argB = 0 ∧ m.intact = true
      ∧ (s.chi.softHold = false → ∀ x : Stn, set.getLsbD x.val = true ↔ s.held x = true ∧ s.chi.sent.getLsbD x.val = false)) ∧
  (∀ s : State, Running s → canStart s .b true = true → s.chi.softHold = false → holdDue s = 0 → resumeDue s ≠ 0 →
    sendingWaiters s = [] → s.chi.deq.length + (s.chi.owed ||| resumeDue s).members.length ≤ 16 →
    let set := resumeDue s
    ∃ m, exec (.portBResume true) s = .next
        { s with chi := { s.chi with
            b := { s.chi.b with tx := some m }, sent := s.chi.sent &&& ~~~set, owed := 0
            deq := s.chi.deq ++ (s.chi.owed ||| set).members.map (fun x =>
              { msg := mkMsg 0 (s.station x).cfg.node s.mga.node kStatusReq (stnByte x) 0 0 0, entry := none }) } }
      ∧ m.kind = kResume ∧ m.urgent = true ∧ m.dst = 63 ∧ m.src = s.mga.node ∧ m.station = 255 ∧ m.pallet = 0
      ∧ m.argA = set ∧ m.argB = 0 ∧ m.intact = true
      ∧ ∀ x : Stn, set.getLsbD x.val = true ↔ s.held x = false ∧ s.chi.sent.getLsbD x.val = true)

/-- R14, R16, R17, R19, R112: with no hold image update due the transmitter sends the UGQ head, and the CANCELLING entry's
deadline becomes now plus the stop limit, or its remaining time the stop limit while its station is held; with the UGQ empty it
sends the DEQ head: a message that is no station command as it is, a JOG with its station's referenced flag cleared (R71), and a
forwarded command that fails its hard-wired check is discarded and INTERLOCK_LATE raised; one of an entry too, and that entry is
freed FAILED (here one of controller origin whose leaving nothing waits for, told as COMMAND with outcome 10). R122: a command
of an entry that passes its check makes the entry ISSUED with a deadline: the plan's timeout of a MOVE (R110), the clamp limit
with the pattern commanded (R73), the release limit, or the cycle limit of the operation the rule names (R111). R29: a RELEASE,
forwarded or of an entry, makes the pallet PRESENT there TRANSIT toward a destination whose list has room, and an entry keeps
its tag (R32). R30: with a destination that is no station, or whose list is full, the record becomes LOST with that destination
or none, and PALLET_LOST is raised with it; the command is transmitted all the same. An owed STATUS_REQ, lowest station first,
and a SENDING entry's command enter the DEQ at its tail when it has a place. -/
def Obligations.PortBQueues : Prop :=
  (∀ (s : State) (u : UgqItem) (rest : List UgqItem) (en : Entry), Running s → PortBFree s → s.chi.ugq = u :: rest →
    s.entry? u.entry = some en →
    let limit := (s.station en.station).cfg.stopLimit
    exec (.stopAbortTransmit true) s = .next
      { s with
        chi := { s.chi with b := { s.chi.b with tx := some u.msg }, ugq := rest }
        mrt := { s.mrt with entries := upd s.mrt.entries u.entry (fun _ => some
          { en with
            cancelReq := false
            deadline := if s.held en.station then none else some (s.mga.time + BitVec.ofNat 32 limit)
            remaining := if s.held en.station then some limit else none }) } }) ∧
  (∀ (s : State) (d : DeqItem) (rest : List DeqItem), Running s → PortBFree s → s.chi.ugq = [] → s.chi.deq = d :: rest →
    d.entry = none →
    ((judgedMsg? d.msg = none ∧ d.msg.kind ≠ kJog) → exec (.deqTransmit true) s = .next
      { s with chi := { s.chi with b := { s.chi.b with tx := some d.msg }, deq := rest } }) ∧
    (∀ st j n, d.msg.stn? = some st → judgedMsg? d.msg = some j → hardCheck s st j = some n →
      exec (.deqTransmit true) s = .next
        (closeEvent (occur fInterlockLate (some st) d.msg.pallet { s with chi := { s.chi with deq := rest } })))) ∧
  (∀ (s : State) (d : DeqItem) (rest : List DeqItem) (e : EntryNo) (en : Entry) (j : Judged) (n : Nat), Running s →
    PortBFree s → s.chi.ugq = [] → s.chi.deq = d :: rest → d.entry = some e → s.entry? e = some en →
    d.msg.station.toNat = en.station.val → judgedMsg? d.msg = some j → hardCheck s en.station j = some n → LeavesAlone e en s →
    ∃ t, exec (.deqTransmit true) s = .next t
    ∧ t.chi.b = s.chi.b ∧ t.chi.deq.Sublist (rest.filter (fun q => q.entry != some e)) ∧ t.entry? e = none
    ∧ (∀ k, s.entry? k = none → t.entry? k = none) ∧ Raises 17 (some en.station) en.pallet s t
    ∧ ((t.faultRec 17).level = .report ∨ (t.faultRec 17).level = .stationStop →
        t.chi.deq = rest.filter (fun q => q.entry != some e) ∧ ∀ k, k ≠ e → t.entry? k = s.entry? k)
    ∧ ((t.faultRec 17).level = .stationStop → (t.station en.station).holds = { (s.station en.station).holds with fault := true })
    ∧ t.mga.summary.getLsbD 3 = true
    ∧ (s.mga.noticeMask.getLsbD 3 = true → s.chi.nq.length + s.mrt.kept.length ≤ 8 → ∃ x ∈ outgoing t, x.kind = kNotice
        ∧ x.station = stnByte en.station ∧ x.pallet = en.pallet ∧ x.argA.toNat / 256 = eventCode .command
        ∧ x.argA.toNat % 128 = 32 * cmdNo (paramsKind en.params) + 10)
    ∧ t.ptb = s.ptb ∧ t.rcs = s.rcs ∧ t.idx.procs.map (·.pstate) = s.idx.procs.map (·.pstate)) ∧
  (∀ (s : State) (d : DeqItem) (rest : List DeqItem) (st : Stn), Running s → PortBFree s → s.chi.ugq = [] →
    s.chi.deq = d :: rest → d.entry = none → d.msg.station.toNat = st.val → d.msg.kind = kJog →
    (s.station st).mode ≠ .auto →
    exec (.deqTransmit true) s = .next
      { s with
        chi := { s.chi with b := { s.chi.b with tx := some d.msg }, deq := rest }
        stb := { s.stb with stn := upd s.stb.stn st (fun r => { r with referenced := false }) } }) ∧
  (∀ (s : State) (d : DeqItem) (rest : List DeqItem) (e : EntryNo) (en : Entry) (st : Stn), Running s → PortBFree s →
    s.chi.ugq = [] → s.chi.deq = d :: rest → d.entry = some e → s.entry? e = some en → en.station = st →
    d.msg.station.toNat = st.val →
    let issued (ms : Nat) : State :=
      { s with
        chi := { s.chi with b := { s.chi.b with tx := some d.msg }, deq := rest }
        mrt := { s.mrt with entries := upd s.mrt.entries e (fun _ => some
          { en with estate := .issued, deadline := some (s.mga.time + BitVec.ofNat 32 ms) }) } }
    (∀ k g p n, d.msg.kind = kMove → en.params = .move k g (some p) → p.timeout = some n → hardCheck s st .move = none →
      exec (.deqTransmit true) s = .next (issued n)) ∧
    (d.msg.kind = kClamp → en.params = .clamp (d.msg.argA.setWidth 4) →
      hardCheck s st (.clamp (d.msg.argA.setWidth 4)) = none →
      exec (.deqTransmit true) s = .next { issued (s.station st).cfg.clampLimit with
        stb := { s.stb with stn := upd s.stb.stn st (fun r => { r with commanded := some (d.msg.argA.setWidth 4) }) } }) ∧
    (∀ n p lim tag r step op, d.msg.kind = kCycle → en.params = .cycle n p (some lim) → hardCheck s st .cycle = none →
      (s.proc st).pallet = some tag → s.record? tag = some r → currentStep s r = some step → step.op? p.toNat = some op →
      exec (.deqTransmit true) s = .next (issued (op.limit * 100))) ∧
    (∀ n p, d.msg.kind = kCycle → en.params = .cycle n p none → hardCheck s st .cycle = none →
      (∀ tag r step op, (s.station st).occupant = .tracked tag → s.record? tag = some r → r.rstate = .present st →
        currentStep s r = some step → step.op? p.toNat = some op →
        exec (.deqTransmit true) s = .next (issued (op.limit * 100))) ∧
      ((∀ tag r step op, (s.station st).occupant = .tracked tag → s.record? tag = some r → r.rstate = .present st →
          currentStep s r = some step → step.op? p.toNat ≠ some op) →
        exec (.deqTransmit true) s = .next (issued 3600000))) ∧
    (∀ (dest : Stn) (i : Slot) (r : Record), d.msg.kind = kRelease → en.params = .release d.msg.argA →
      hardCheck s st .release = none → d.msg.argA.toNat = dest.val → (s.station st).occupant = .tracked r.tag →
      HasRecord r.tag i r s → r.rstate = .present st → (s.ptb.approach.get dest).length < 8 →
      exec (.deqTransmit true) s = .next
        { s with
          chi := { s.chi with b := { s.chi.b with tx := some d.msg }, deq := rest }
          mrt := { s.mrt with entries := upd s.mrt.entries e (fun _ => some
            { en with
              estate := .issued
              deadline := some (s.mga.time + BitVec.ofNat 32 (s.station st).cfg.releaseLimit)
              released := some r.tag }) }
          ptb := { s.ptb with
            slots := upd s.ptb.slots i (fun _ => some { r with
              rstate := .transit dest (s.mga.time + BitVec.ofNat 32 (s.station dest).cfg.transitLimit)
              lastSeen := s.mga.time })
            approach := upd s.ptb.approach dest (fun l => l ++ [r.tag]) } })) ∧
  (∀ (s : State) (d : DeqItem) (rest : List DeqItem) (st dest : Stn) (i : Slot) (r : Record), Running s → PortBFree s →
    s.chi.ugq = [] → s.chi.deq = d :: rest → d.entry = none → d.msg.station.toNat = st.val → d.msg.kind = kRelease →
    hardCheck s st .release = none → d.msg.argA.toNat = dest.val → (s.station st).occupant = .tracked r.tag →
    HasRecord r.tag i r s → r.rstate = .present st → (s.ptb.approach.get dest).length < 8 →
    exec (.deqTransmit true) s = .next
      { s with
        chi := { s.chi with b := { s.chi.b with tx := some d.msg }, deq := rest }
        ptb := { s.ptb with
          slots := upd s.ptb.slots i (fun _ => some { r with
            rstate := .transit dest (s.mga.time + BitVec.ofNat 32 (s.station dest).cfg.transitLimit)
            lastSeen := s.mga.time })
          approach := upd s.ptb.approach dest (fun l => l ++ [r.tag]) } }) ∧
  (∀ (s : State) (d : DeqItem) (rest : List DeqItem) (st : Stn) (i : Slot) (r : Record), Running s → PortBFree s →
    s.chi.ugq = [] → s.chi.deq = d :: rest → d.msg.station.toNat = st.val → d.msg.kind = kRelease →
    hardCheck s st .release = none → (s.station st).occupant = .tracked r.tag → HasRecord r.tag i r s →
    r.rstate = .present st → (∀ y, (s.proc y).wait ≠ .route) →
    let lost (dest : Option Stn) : Prop := ∃ t, exec (.deqTransmit true) s = .next t
      ∧ t.chi.b = { s.chi.b with tx := some d.msg } ∧ t.chi.deq.Sublist rest
      ∧ ((t.faultRec 7).level = .report → t.chi.deq = rest)
      ∧ t.ptb = { s.ptb with slots := upd s.ptb.slots i (fun _ => some { r with rstate := .lost dest }) }
      ∧ Raises 7 dest r.tag s t ∧ (t.station st).occupant = .tracked r.tag
      ∧ (∀ e en, d.entry = some e → s.entry? e = some en → ∃ q, t.entry? e = some q ∧ q.estate = .issued ∧ q.released = some r.tag)
      ∧ t.rcs = s.rcs ∧ t.ilk = s.ilk
    (16 ≤ d.msg.argA.toNat → lost none) ∧
    (∀ x : Stn, d.msg.argA.toNat = x.val → 8 ≤ (s.ptb.approach.get x).length → lost (some x))) ∧
  (∀ (s : State) (st : Stn), Running s → s.chi.deq.length < 16 → sendingWaiters s = [] →
    s.chi.owed.getLsbD st.val = true → (∀ x : Stn, x < st → s.chi.owed.getLsbD x.val = false) →
    exec .owedStatusReqEnqueue s = .next
      { s with chi := { s.chi with
          owed := s.chi.owed &&& ~~~(1#16 <<< st.val)
          deq := s.chi.deq ++ [{ msg := mkMsg 0 (s.station st).cfg.node s.mga.node kStatusReq (stnByte st) 0 0 0
                                 entry := none }] } }) ∧
  (∀ (s : State) (e : EntryNo) (en : Entry), Running s → s.chi.deq.length < 16 → s.entry? e = some en → en.estate = .sending →
    (∀ q ∈ s.chi.deq, q.entry ≠ some e) →
    (∀ j q, j ≠ e → s.entry? j = some q → q.estate = .sending → ∃ x ∈ s.chi.deq, x.entry = some j) →
    exec .sendingEntryEnqueue s = .next
      { s with chi := { s.chi with deq := s.chi.deq ++ [{ msg := commandMsg s en, entry := some e }] } })
end

