-- ==== Sys2Proof/Laws/State.lean ====
section
/-! SUPPORT. One lemma for each block under each named update of the state: the block an update changes, and every block it
leaves as it is. Also what one element of a table reads as after a change. -/

namespace Sys2Proof.Machine

/-- One element of a table after a change of one element. -/
theorem upd_get {α : Type} {n : Nat} (v : Vector α n) (i j : Fin n) (f : α → α) :
    (upd v i f).get j = if j = i then f (v.get i) else v.get j := by
  have h1 : (upd v i f).get j = (upd v i f)[j.val] := rfl
  have h2 : v.get j = v[j.val] := rfl
  rw [h1, h2, upd, Vector.getElem_set]
  by_cases h : j = i
  · simp [h]
  · have : ¬ i.val = j.val := fun e => h (Fin.ext e.symm)
    simp [h, this]

@[simp] theorem upd_get_self {α : Type} {n : Nat} (v : Vector α n) (i : Fin n) (f : α → α) :
    (upd v i f).get i = f (v.get i) := by simp [upd_get]

theorem upd_get_ne {α : Type} {n : Nat} (v : Vector α n) {i j : Fin n} (f : α → α) (h : j ≠ i) :
    (upd v i f).get j = v.get j := by simp [upd_get, h]

/-! ### State.modStn -/

@[simp] theorem State.modStn_chi (s : State) (st : Stn) (f : Station → Station) : (s.modStn st f).chi = s.chi := rfl
@[simp] theorem State.modStn_ptb (s : State) (st : Stn) (f : Station → Station) : (s.modStn st f).ptb = s.ptb := rfl
@[simp] theorem State.modStn_rcs (s : State) (st : Stn) (f : Station → Station) : (s.modStn st f).rcs = s.rcs := rfl
@[simp] theorem State.modStn_stb (s : State) (st : Stn) (f : Station → Station) :
    (s.modStn st f).stb = { s.stb with stn := upd s.stb.stn st f } := rfl
@[simp] theorem State.modStn_idx (s : State) (st : Stn) (f : Station → Station) : (s.modStn st f).idx = s.idx := rfl
@[simp] theorem State.modStn_mrt (s : State) (st : Stn) (f : Station → Station) : (s.modStn st f).mrt = s.mrt := rfl
@[simp] theorem State.modStn_ilk (s : State) (st : Stn) (f : Station → Station) : (s.modStn st f).ilk = s.ilk := rfl
@[simp] theorem State.modStn_trp (s : State) (st : Stn) (f : Station → Station) : (s.modStn st f).trp = s.trp := rfl
@[simp] theorem State.modStn_fcu (s : State) (st : Stn) (f : Station → Station) : (s.modStn st f).fcu = s.fcu := rfl
@[simp] theorem State.modStn_lmn (s : State) (st : Stn) (f : Station → Station) : (s.modStn st f).lmn = s.lmn := rfl
@[simp] theorem State.modStn_mga (s : State) (st : Stn) (f : Station → Station) : (s.modStn st f).mga = s.mga := rfl
@[simp] theorem State.modStn_ev (s : State) (st : Stn) (f : Station → Station) : (s.modStn st f).ev = s.ev := rfl
@[simp] theorem State.modStn_pending (s : State) (st : Stn) (f : Station → Station) :
    (s.modStn st f).pending = s.pending := rfl

/-! ### State.modProc -/

@[simp] theorem State.modProc_chi (s : State) (st : Stn) (f : Process → Process) : (s.modProc st f).chi = s.chi := rfl
@[simp] theorem State.modProc_ptb (s : State) (st : Stn) (f : Process → Process) : (s.modProc st f).ptb = s.ptb := rfl
@[simp] theorem State.modProc_rcs (s : State) (st : Stn) (f : Process → Process) : (s.modProc st f).rcs = s.rcs := rfl
@[simp] theorem State.modProc_stb (s : State) (st : Stn) (f : Process → Process) : (s.modProc st f).stb = s.stb := rfl
@[simp] theorem State.modProc_idx (s : State) (st : Stn) (f : Process → Process) :
    (s.modProc st f).idx = { procs := upd s.idx.procs st f } := rfl
@[simp] theorem State.modProc_mrt (s : State) (st : Stn) (f : Process → Process) : (s.modProc st f).mrt = s.mrt := rfl
@[simp] theorem State.modProc_ilk (s : State) (st : Stn) (f : Process → Process) : (s.modProc st f).ilk = s.ilk := rfl
@[simp] theorem State.modProc_trp (s : State) (st : Stn) (f : Process → Process) : (s.modProc st f).trp = s.trp := rfl
@[simp] theorem State.modProc_fcu (s : State) (st : Stn) (f : Process → Process) : (s.modProc st f).fcu = s.fcu := rfl
@[simp] theorem State.modProc_lmn (s : State) (st : Stn) (f : Process → Process) : (s.modProc st f).lmn = s.lmn := rfl
@[simp] theorem State.modProc_mga (s : State) (st : Stn) (f : Process → Process) : (s.modProc st f).mga = s.mga := rfl
@[simp] theorem State.modProc_ev (s : State) (st : Stn) (f : Process → Process) : (s.modProc st f).ev = s.ev := rfl
@[simp] theorem State.modProc_pending (s : State) (st : Stn) (f : Process → Process) :
    (s.modProc st f).pending = s.pending := rfl

/-! ### State.setEntry -/

@[simp] theorem State.setEntry_chi (s : State) (e : EntryNo) (v : Option Entry) : (s.setEntry e v).chi = s.chi := rfl
@[simp] theorem State.setEntry_ptb (s : State) (e : EntryNo) (v : Option Entry) : (s.setEntry e v).ptb = s.ptb := rfl
@[simp] theorem State.setEntry_rcs (s : State) (e : EntryNo) (v : Option Entry) : (s.setEntry e v).rcs = s.rcs := rfl
@[simp] theorem State.setEntry_stb (s : State) (e : EntryNo) (v : Option Entry) : (s.setEntry e v).stb = s.stb := rfl
@[simp] theorem State.setEntry_idx (s : State) (e : EntryNo) (v : Option Entry) : (s.setEntry e v).idx = s.idx := rfl
@[simp] theorem State.setEntry_mrt (s : State) (e : EntryNo) (v : Option Entry) :
    (s.setEntry e v).mrt = { s.mrt with entries := upd s.mrt.entries e (fun _ => v) } := rfl
@[simp] theorem State.setEntry_ilk (s : State) (e : EntryNo) (v : Option Entry) : (s.setEntry e v).ilk = s.ilk := rfl
@[simp] theorem State.setEntry_trp (s : State) (e : EntryNo) (v : Option Entry) : (s.setEntry e v).trp = s.trp := rfl
@[simp] theorem State.setEntry_fcu (s : State) (e : EntryNo) (v : Option Entry) : (s.setEntry e v).fcu = s.fcu := rfl
@[simp] theorem State.setEntry_lmn (s : State) (e : EntryNo) (v : Option Entry) : (s.setEntry e v).lmn = s.lmn := rfl
@[simp] theorem State.setEntry_mga (s : State) (e : EntryNo) (v : Option Entry) : (s.setEntry e v).mga = s.mga := rfl
@[simp] theorem State.setEntry_ev (s : State) (e : EntryNo) (v : Option Entry) : (s.setEntry e v).ev = s.ev := rfl
@[simp] theorem State.setEntry_pending (s : State) (e : EntryNo) (v : Option Entry) :
    (s.setEntry e v).pending = s.pending := rfl

/-! ### State.modEntry -/

@[simp] theorem State.modEntry_chi (s : State) (e : EntryNo) (f : Entry → Entry) : (s.modEntry e f).chi = s.chi := rfl
@[simp] theorem State.modEntry_ptb (s : State) (e : EntryNo) (f : Entry → Entry) : (s.modEntry e f).ptb = s.ptb := rfl
@[simp] theorem State.modEntry_rcs (s : State) (e : EntryNo) (f : Entry → Entry) : (s.modEntry e f).rcs = s.rcs := rfl
@[simp] theorem State.modEntry_stb (s : State) (e : EntryNo) (f : Entry → Entry) : (s.modEntry e f).stb = s.stb := rfl
@[simp] theorem State.modEntry_idx (s : State) (e : EntryNo) (f : Entry → Entry) : (s.modEntry e f).idx = s.idx := rfl
@[simp] theorem State.modEntry_mrt (s : State) (e : EntryNo) (f : Entry → Entry) :
    (s.modEntry e f).mrt = { s.mrt with entries := upd s.mrt.entries e (Option.map f) } := rfl
@[simp] theorem State.modEntry_ilk (s : State) (e : EntryNo) (f : Entry → Entry) : (s.modEntry e f).ilk = s.ilk := rfl
@[simp] theorem State.modEntry_trp (s : State) (e : EntryNo) (f : Entry → Entry) : (s.modEntry e f).trp = s.trp := rfl
@[simp] theorem State.modEntry_fcu (s : State) (e : EntryNo) (f : Entry → Entry) : (s.modEntry e f).fcu = s.fcu := rfl
@[simp] theorem State.modEntry_lmn (s : State) (e : EntryNo) (f : Entry → Entry) : (s.modEntry e f).lmn = s.lmn := rfl
@[simp] theorem State.modEntry_mga (s : State) (e : EntryNo) (f : Entry → Entry) : (s.modEntry e f).mga = s.mga := rfl
@[simp] theorem State.modEntry_ev (s : State) (e : EntryNo) (f : Entry → Entry) : (s.modEntry e f).ev = s.ev := rfl
@[simp] theorem State.modEntry_pending (s : State) (e : EntryNo) (f : Entry → Entry) :
    (s.modEntry e f).pending = s.pending := rfl

/-! ### State.setSlot -/

@[simp] theorem State.setSlot_chi (s : State) (i : Slot) (r : Option Record) : (s.setSlot i r).chi = s.chi := rfl
@[simp] theorem State.setSlot_ptb (s : State) (i : Slot) (r : Option Record) :
    (s.setSlot i r).ptb = { s.ptb with slots := upd s.ptb.slots i (fun _ => r) } := rfl
@[simp] theorem State.setSlot_rcs (s : State) (i : Slot) (r : Option Record) : (s.setSlot i r).rcs = s.rcs := rfl
@[simp] theorem State.setSlot_stb (s : State) (i : Slot) (r : Option Record) : (s.setSlot i r).stb = s.stb := rfl
@[simp] theorem State.setSlot_idx (s : State) (i : Slot) (r : Option Record) : (s.setSlot i r).idx = s.idx := rfl
@[simp] theorem State.setSlot_mrt (s : State) (i : Slot) (r : Option Record) : (s.setSlot i r).mrt = s.mrt := rfl
@[simp] theorem State.setSlot_ilk (s : State) (i : Slot) (r : Option Record) : (s.setSlot i r).ilk = s.ilk := rfl
@[simp] theorem State.setSlot_trp (s : State) (i : Slot) (r : Option Record) : (s.setSlot i r).trp = s.trp := rfl
@[simp] theorem State.setSlot_fcu (s : State) (i : Slot) (r : Option Record) : (s.setSlot i r).fcu = s.fcu := rfl
@[simp] theorem State.setSlot_lmn (s : State) (i : Slot) (r : Option Record) : (s.setSlot i r).lmn = s.lmn := rfl
@[simp] theorem State.setSlot_mga (s : State) (i : Slot) (r : Option Record) : (s.setSlot i r).mga = s.mga := rfl
@[simp] theorem State.setSlot_ev (s : State) (i : Slot) (r : Option Record) : (s.setSlot i r).ev = s.ev := rfl
@[simp] theorem State.setSlot_pending (s : State) (i : Slot) (r : Option Record) :
    (s.setSlot i r).pending = s.pending := rfl

/-! ### State.modSlot -/

@[simp] theorem State.modSlot_chi (s : State) (i : Slot) (f : Record → Record) : (s.modSlot i f).chi = s.chi := rfl
@[simp] theorem State.modSlot_ptb (s : State) (i : Slot) (f : Record → Record) :
    (s.modSlot i f).ptb = { s.ptb with slots := upd s.ptb.slots i (Option.map f) } := rfl
@[simp] theorem State.modSlot_rcs (s : State) (i : Slot) (f : Record → Record) : (s.modSlot i f).rcs = s.rcs := rfl
@[simp] theorem State.modSlot_stb (s : State) (i : Slot) (f : Record → Record) : (s.modSlot i f).stb = s.stb := rfl
@[simp] theorem State.modSlot_idx (s : State) (i : Slot) (f : Record → Record) : (s.modSlot i f).idx = s.idx := rfl
@[simp] theorem State.modSlot_mrt (s : State) (i : Slot) (f : Record → Record) : (s.modSlot i f).mrt = s.mrt := rfl
@[simp] theorem State.modSlot_ilk (s : State) (i : Slot) (f : Record → Record) : (s.modSlot i f).ilk = s.ilk := rfl
@[simp] theorem State.modSlot_trp (s : State) (i : Slot) (f : Record → Record) : (s.modSlot i f).trp = s.trp := rfl
@[simp] theorem State.modSlot_fcu (s : State) (i : Slot) (f : Record → Record) : (s.modSlot i f).fcu = s.fcu := rfl
@[simp] theorem State.modSlot_lmn (s : State) (i : Slot) (f : Record → Record) : (s.modSlot i f).lmn = s.lmn := rfl
@[simp] theorem State.modSlot_mga (s : State) (i : Slot) (f : Record → Record) : (s.modSlot i f).mga = s.mga := rfl
@[simp] theorem State.modSlot_ev (s : State) (i : Slot) (f : Record → Record) : (s.modSlot i f).ev = s.ev := rfl
@[simp] theorem State.modSlot_pending (s : State) (i : Slot) (f : Record → Record) :
    (s.modSlot i f).pending = s.pending := rfl

/-! ### State.modApproach -/

@[simp] theorem State.modApproach_chi (s : State) (st : Stn) (f : List Tag → List Tag) :
    (s.modApproach st f).chi = s.chi := rfl
@[simp] theorem State.modApproach_ptb (s : State) (st : Stn) (f : List Tag → List Tag) :
    (s.modApproach st f).ptb = { s.ptb with approach := upd s.ptb.approach st f } := rfl
@[simp] theorem State.modApproach_rcs (s : State) (st : Stn) (f : List Tag → List Tag) :
    (s.modApproach st f).rcs = s.rcs := rfl
@[simp] theorem State.modApproach_stb (s : State) (st : Stn) (f : List Tag → List Tag) :
    (s.modApproach st f).stb = s.stb := rfl
@[simp] theorem State.modApproach_idx (s : State) (st : Stn) (f : List Tag → List Tag) :
    (s.modApproach st f).idx = s.idx := rfl
@[simp] theorem State.modApproach_mrt (s : State) (st : Stn) (f : List Tag → List Tag) :
    (s.modApproach st f).mrt = s.mrt := rfl
@[simp] theorem State.modApproach_ilk (s : State) (st : Stn) (f : List Tag → List Tag) :
    (s.modApproach st f).ilk = s.ilk := rfl
@[simp] theorem State.modApproach_trp (s : State) (st : Stn) (f : List Tag → List Tag) :
    (s.modApproach st f).trp = s.trp := rfl
@[simp] theorem State.modApproach_fcu (s : State) (st : Stn) (f : List Tag → List Tag) :
    (s.modApproach st f).fcu = s.fcu := rfl
@[simp] theorem State.modApproach_lmn (s : State) (st : Stn) (f : List Tag → List Tag) :
    (s.modApproach st f).lmn = s.lmn := rfl
@[simp] theorem State.modApproach_mga (s : State) (st : Stn) (f : List Tag → List Tag) :
    (s.modApproach st f).mga = s.mga := rfl
@[simp] theorem State.modApproach_ev (s : State) (st : Stn) (f : List Tag → List Tag) :
    (s.modApproach st f).ev = s.ev := rfl
@[simp] theorem State.modApproach_pending (s : State) (st : Stn) (f : List Tag → List Tag) :
    (s.modApproach st f).pending = s.pending := rfl

/-! ### State.modFaultRec -/

@[simp] theorem State.modFaultRec_chi (s : State) (k : FaultKind) (f : FaultRec → FaultRec) :
    (s.modFaultRec k f).chi = s.chi := rfl
@[simp] theorem State.modFaultRec_ptb (s : State) (k : FaultKind) (f : FaultRec → FaultRec) :
    (s.modFaultRec k f).ptb = s.ptb := rfl
@[simp] theorem State.modFaultRec_rcs (s : State) (k : FaultKind) (f : FaultRec → FaultRec) :
    (s.modFaultRec k f).rcs = s.rcs := rfl
@[simp] theorem State.modFaultRec_stb (s : State) (k : FaultKind) (f : FaultRec → FaultRec) :
    (s.modFaultRec k f).stb = s.stb := rfl
@[simp] theorem State.modFaultRec_idx (s : State) (k : FaultKind) (f : FaultRec → FaultRec) :
    (s.modFaultRec k f).idx = s.idx := rfl
@[simp] theorem State.modFaultRec_mrt (s : State) (k : FaultKind) (f : FaultRec → FaultRec) :
    (s.modFaultRec k f).mrt = s.mrt := rfl
@[simp] theorem State.modFaultRec_ilk (s : State) (k : FaultKind) (f : FaultRec → FaultRec) :
    (s.modFaultRec k f).ilk = s.ilk := rfl
@[simp] theorem State.modFaultRec_trp (s : State) (k : FaultKind) (f : FaultRec → FaultRec) :
    (s.modFaultRec k f).trp = s.trp := rfl
@[simp] theorem State.modFaultRec_fcu (s : State) (k : FaultKind) (f : FaultRec → FaultRec) :
    (s.modFaultRec k f).fcu = { s.fcu with records := upd s.fcu.records k f } := rfl
@[simp] theorem State.modFaultRec_lmn (s : State) (k : FaultKind) (f : FaultRec → FaultRec) :
    (s.modFaultRec k f).lmn = s.lmn := rfl
@[simp] theorem State.modFaultRec_mga (s : State) (k : FaultKind) (f : FaultRec → FaultRec) :
    (s.modFaultRec k f).mga = s.mga := rfl
@[simp] theorem State.modFaultRec_ev (s : State) (k : FaultKind) (f : FaultRec → FaultRec) :
    (s.modFaultRec k f).ev = s.ev := rfl
@[simp] theorem State.modFaultRec_pending (s : State) (k : FaultKind) (f : FaultRec → FaultRec) :
    (s.modFaultRec k f).pending = s.pending := rfl

/-! ### State.modChi -/

@[simp] theorem State.modChi_chi (s : State) (f : Chi → Chi) : (s.modChi f).chi = f s.chi := rfl
@[simp] theorem State.modChi_ptb (s : State) (f : Chi → Chi) : (s.modChi f).ptb = s.ptb := rfl
@[simp] theorem State.modChi_rcs (s : State) (f : Chi → Chi) : (s.modChi f).rcs = s.rcs := rfl
@[simp] theorem State.modChi_stb (s : State) (f : Chi → Chi) : (s.modChi f).stb = s.stb := rfl
@[simp] theorem State.modChi_idx (s : State) (f : Chi → Chi) : (s.modChi f).idx = s.idx := rfl
@[simp] theorem State.modChi_mrt (s : State) (f : Chi → Chi) : (s.modChi f).mrt = s.mrt := rfl
@[simp] theorem State.modChi_ilk (s : State) (f : Chi → Chi) : (s.modChi f).ilk = s.ilk := rfl
@[simp] theorem State.modChi_trp (s : State) (f : Chi → Chi) : (s.modChi f).trp = s.trp := rfl
@[simp] theorem State.modChi_fcu (s : State) (f : Chi → Chi) : (s.modChi f).fcu = s.fcu := rfl
@[simp] theorem State.modChi_lmn (s : State) (f : Chi → Chi) : (s.modChi f).lmn = s.lmn := rfl
@[simp] theorem State.modChi_mga (s : State) (f : Chi → Chi) : (s.modChi f).mga = s.mga := rfl
@[simp] theorem State.modChi_ev (s : State) (f : Chi → Chi) : (s.modChi f).ev = s.ev := rfl
@[simp] theorem State.modChi_pending (s : State) (f : Chi → Chi) : (s.modChi f).pending = s.pending := rfl

/-! ### State.modMga -/

@[simp] theorem State.modMga_chi (s : State) (f : Mga → Mga) : (s.modMga f).chi = s.chi := rfl
@[simp] theorem State.modMga_ptb (s : State) (f : Mga → Mga) : (s.modMga f).ptb = s.ptb := rfl
@[simp] theorem State.modMga_rcs (s : State) (f : Mga → Mga) : (s.modMga f).rcs = s.rcs := rfl
@[simp] theorem State.modMga_stb (s : State) (f : Mga → Mga) : (s.modMga f).stb = s.stb := rfl
@[simp] theorem State.modMga_idx (s : State) (f : Mga → Mga) : (s.modMga f).idx = s.idx := rfl
@[simp] theorem State.modMga_mrt (s : State) (f : Mga → Mga) : (s.modMga f).mrt = s.mrt := rfl
@[simp] theorem State.modMga_ilk (s : State) (f : Mga → Mga) : (s.modMga f).ilk = s.ilk := rfl
@[simp] theorem State.modMga_trp (s : State) (f : Mga → Mga) : (s.modMga f).trp = s.trp := rfl
@[simp] theorem State.modMga_fcu (s : State) (f : Mga → Mga) : (s.modMga f).fcu = s.fcu := rfl
@[simp] theorem State.modMga_lmn (s : State) (f : Mga → Mga) : (s.modMga f).lmn = s.lmn := rfl
@[simp] theorem State.modMga_mga (s : State) (f : Mga → Mga) : (s.modMga f).mga = f s.mga := rfl
@[simp] theorem State.modMga_ev (s : State) (f : Mga → Mga) : (s.modMga f).ev = s.ev := rfl
@[simp] theorem State.modMga_pending (s : State) (f : Mga → Mga) : (s.modMga f).pending = s.pending := rfl

/-! ### State.modEv -/

@[simp] theorem State.modEv_chi (s : State) (f : Within → Within) : (s.modEv f).chi = s.chi := rfl
@[simp] theorem State.modEv_ptb (s : State) (f : Within → Within) : (s.modEv f).ptb = s.ptb := rfl
@[simp] theorem State.modEv_rcs (s : State) (f : Within → Within) : (s.modEv f).rcs = s.rcs := rfl
@[simp] theorem State.modEv_stb (s : State) (f : Within → Within) : (s.modEv f).stb = s.stb := rfl
@[simp] theorem State.modEv_idx (s : State) (f : Within → Within) : (s.modEv f).idx = s.idx := rfl
@[simp] theorem State.modEv_mrt (s : State) (f : Within → Within) : (s.modEv f).mrt = s.mrt := rfl
@[simp] theorem State.modEv_ilk (s : State) (f : Within → Within) : (s.modEv f).ilk = s.ilk := rfl
@[simp] theorem State.modEv_trp (s : State) (f : Within → Within) : (s.modEv f).trp = s.trp := rfl
@[simp] theorem State.modEv_fcu (s : State) (f : Within → Within) : (s.modEv f).fcu = s.fcu := rfl
@[simp] theorem State.modEv_lmn (s : State) (f : Within → Within) : (s.modEv f).lmn = s.lmn := rfl
@[simp] theorem State.modEv_mga (s : State) (f : Within → Within) : (s.modEv f).mga = s.mga := rfl
@[simp] theorem State.modEv_ev (s : State) (f : Within → Within) : (s.modEv f).ev = f s.ev := rfl
@[simp] theorem State.modEv_pending (s : State) (f : Within → Within) : (s.modEv f).pending = s.pending := rfl

/-! ### State.setZone, State.setPort, State.setCounters -/

@[simp] theorem State.setZone_chi (s : State) (z : Zone) (v : ZoneState) : (s.setZone z v).chi = s.chi := by
  cases z <;> rfl
@[simp] theorem State.setZone_ptb (s : State) (z : Zone) (v : ZoneState) : (s.setZone z v).ptb = s.ptb := by
  cases z <;> rfl
@[simp] theorem State.setZone_rcs (s : State) (z : Zone) (v : ZoneState) : (s.setZone z v).rcs = s.rcs := by
  cases z <;> rfl
@[simp] theorem State.setZone_stb (s : State) (z : Zone) (v : ZoneState) : (s.setZone z v).stb = s.stb := by
  cases z <;> rfl
@[simp] theorem State.setZone_idx (s : State) (z : Zone) (v : ZoneState) : (s.setZone z v).idx = s.idx := by
  cases z <;> rfl
@[simp] theorem State.setZone_mrt (s : State) (z : Zone) (v : ZoneState) : (s.setZone z v).mrt = s.mrt := by
  cases z <;> rfl
@[simp] theorem State.setZone_ilk (s : State) (z : Zone) (v : ZoneState) : (s.setZone z v).ilk = s.ilk := by
  cases z <;> rfl
@[simp] theorem State.setZone_fcu (s : State) (z : Zone) (v : ZoneState) : (s.setZone z v).fcu = s.fcu := by
  cases z <;> rfl
@[simp] theorem State.setZone_lmn (s : State) (z : Zone) (v : ZoneState) : (s.setZone z v).lmn = s.lmn := by
  cases z <;> rfl
@[simp] theorem State.setZone_mga (s : State) (z : Zone) (v : ZoneState) : (s.setZone z v).mga = s.mga := by
  cases z <;> rfl
@[simp] theorem State.setZone_ev (s : State) (z : Zone) (v : ZoneState) : (s.setZone z v).ev = s.ev := by
  cases z <;> rfl
@[simp] theorem State.setZone_pending (s : State) (z : Zone) (v : ZoneState) : (s.setZone z v).pending = s.pending := by
  cases z <;> rfl

@[simp] theorem State.setPort_ptb (s : State) (p : Port) (v : PortState) : (s.setPort p v).ptb = s.ptb := by
  cases p <;> rfl
@[simp] theorem State.setPort_rcs (s : State) (p : Port) (v : PortState) : (s.setPort p v).rcs = s.rcs := by
  cases p <;> rfl
@[simp] theorem State.setPort_stb (s : State) (p : Port) (v : PortState) : (s.setPort p v).stb = s.stb := by
  cases p <;> rfl
@[simp] theorem State.setPort_idx (s : State) (p : Port) (v : PortState) : (s.setPort p v).idx = s.idx := by
  cases p <;> rfl
@[simp] theorem State.setPort_mrt (s : State) (p : Port) (v : PortState) : (s.setPort p v).mrt = s.mrt := by
  cases p <;> rfl
@[simp] theorem State.setPort_ilk (s : State) (p : Port) (v : PortState) : (s.setPort p v).ilk = s.ilk := by
  cases p <;> rfl
@[simp] theorem State.setPort_trp (s : State) (p : Port) (v : PortState) : (s.setPort p v).trp = s.trp := by
  cases p <;> rfl
@[simp] theorem State.setPort_fcu (s : State) (p : Port) (v : PortState) : (s.setPort p v).fcu = s.fcu := by
  cases p <;> rfl
@[simp] theorem State.setPort_lmn (s : State) (p : Port) (v : PortState) : (s.setPort p v).lmn = s.lmn := by
  cases p <;> rfl
@[simp] theorem State.setPort_mga (s : State) (p : Port) (v : PortState) : (s.setPort p v).mga = s.mga := by
  cases p <;> rfl
@[simp] theorem State.setPort_ev (s : State) (p : Port) (v : PortState) : (s.setPort p v).ev = s.ev := by
  cases p <;> rfl
@[simp] theorem State.setPort_pending (s : State) (p : Port) (v : PortState) : (s.setPort p v).pending = s.pending := by
  cases p <;> rfl

@[simp] theorem State.setCounters_chi (s : State) (cs : Vector Counter 8) : (s.setCounters cs).chi = s.chi := rfl
@[simp] theorem State.setCounters_ptb (s : State) (cs : Vector Counter 8) : (s.setCounters cs).ptb = s.ptb := rfl
@[simp] theorem State.setCounters_rcs (s : State) (cs : Vector Counter 8) : (s.setCounters cs).rcs = s.rcs := rfl
@[simp] theorem State.setCounters_stb (s : State) (cs : Vector Counter 8) : (s.setCounters cs).stb = s.stb := rfl
@[simp] theorem State.setCounters_idx (s : State) (cs : Vector Counter 8) : (s.setCounters cs).idx = s.idx := rfl
@[simp] theorem State.setCounters_mrt (s : State) (cs : Vector Counter 8) : (s.setCounters cs).mrt = s.mrt := rfl
@[simp] theorem State.setCounters_ilk (s : State) (cs : Vector Counter 8) : (s.setCounters cs).ilk = s.ilk := rfl
@[simp] theorem State.setCounters_trp (s : State) (cs : Vector Counter 8) : (s.setCounters cs).trp = s.trp := rfl
@[simp] theorem State.setCounters_fcu (s : State) (cs : Vector Counter 8) : (s.setCounters cs).fcu = s.fcu := rfl
@[simp] theorem State.setCounters_mga (s : State) (cs : Vector Counter 8) : (s.setCounters cs).mga = s.mga := rfl
@[simp] theorem State.setCounters_pending (s : State) (cs : Vector Counter 8) : (s.setCounters cs).pending = s.pending := rfl

/-! ### Elements -/

theorem State.modStn_station (s : State) (st i : Stn) (f : Station → Station) :
    (s.modStn st f).station i = if i = st then f (s.station st) else s.station i := upd_get ..

theorem State.modProc_proc (s : State) (st i : Stn) (f : Process → Process) :
    (s.modProc st f).proc i = if i = st then f (s.proc st) else s.proc i := upd_get ..

theorem State.setEntry_entry (s : State) (e i : EntryNo) (v : Option Entry) :
    (s.setEntry e v).entry? i = if i = e then v else s.entry? i := upd_get ..

theorem State.modEntry_entry (s : State) (e i : EntryNo) (f : Entry → Entry) :
    (s.modEntry e f).entry? i = if i = e then (s.entry? e).map f else s.entry? i := upd_get ..

theorem State.modFaultRec_faultRec (s : State) (k i : FaultKind) (f : FaultRec → FaultRec) :
    (s.modFaultRec k f).faultRec i = if i = k then f (s.faultRec k) else s.faultRec i := upd_get ..

@[simp] theorem State.setZone_self (s : State) (z : Zone) (v : ZoneState) : (s.setZone z v).zone z = v := by
  cases z <;> rfl

@[simp] theorem State.setPort_self (s : State) (p : Port) (v : PortState) : (s.setPort p v).port p = v := by
  cases p <;> rfl

end Sys2Proof.Machine
end

