-- ==== Sys2Proof/Laws/Events.lean ====
section
/-! SUPPORT. What an event comes to: the run of its tasks, its end, and the two ways a command starts one. -/

namespace Sys2Proof.Machine

/-! ### Running the tasks -/

@[simp] theorem runTasks_nil (n : Nat) (s : State) : runTasks n [] s = some s := by cases n <;> rfl

theorem runTasks_cons (n : Nat) (t : Task) (ts : List Task) (s : State) :
    runTasks (n + 1) (t :: ts) s = runTasks n ((perform t s).2 ++ ts) (perform t s).1 := rfl

/-- More steps than needed change nothing. -/
theorem runTasks_mono {n : Nat} : ∀ {ts : List Task} {s t : State}, runTasks n ts s = some t → ∀ k,
    runTasks (n + k) ts s = some t := by
  induction n with
  | zero =>
    intro ts s t h k
    cases ts with
    | nil => simpa using h
    | cons a ts => simp [runTasks] at h
  | succ n ih =>
    intro ts s t h k
    cases ts with
    | nil => simpa using h
    | cons a ts =>
      rw [runTasks_cons] at h
      have : n + 1 + k = (n + k) + 1 := by omega
      rw [this, runTasks_cons]
      exact ih h k

/-- What every task keeps, a run of tasks keeps. -/
theorem runTasks_keeps {P : State → Prop} (hP : ∀ t s, P s → P (perform t s).1) :
    ∀ {n : Nat} {ts : List Task} {s t : State}, runTasks n ts s = some t → P s → P t := by
  intro n
  induction n with
  | zero =>
    intro ts s t h hs
    cases ts with
    | nil => simp only [runTasks_nil, Option.some.injEq] at h; exact h ▸ hs
    | cons a ts => simp [runTasks] at h
  | succ n ih =>
    intro ts s t h hs
    cases ts with
    | nil => simp only [runTasks_nil, Option.some.injEq] at h; exact h ▸ hs
    | cons a ts => rw [runTasks_cons] at h; exact ih h (hP a s hs)

/-- What every task keeps, an event keeps from its own effect on. -/
theorem conclude_keeps {P : State → Prop} (hP : ∀ t s, P s → P (perform t s).1) {r : Eff} {t : State}
    (h : conclude r = .next t) (hr : P r.1) : P t := by
  unfold conclude at h
  cases hrun : runTasks Config.cascadeBound (r.2 ++ [.deferPass, .close]) r.1 with
  | none => rw [hrun] at h; cases h
  | some u => rw [hrun] at h; cases h; exact runTasks_keeps hP hrun hr

/-- An event ends in the state its tasks reach in some number of steps below the bound. -/
theorem conclude_of_run {r : Eff} {n : Nat} {t : State} (h : runTasks n (r.2 ++ [.deferPass, .close]) r.1 = some t)
    (hn : n ≤ Config.cascadeBound) : conclude r = .next t := by
  have := runTasks_mono h (Config.cascadeBound - n)
  rw [Nat.add_sub_cancel' hn] at this
  simp [conclude, this]

theorem le_cascadeBound {n : Nat} (h : n ≤ 100000) : n ≤ Config.cascadeBound := h

/-- The end of an event with no pass over the deferred list due. -/
theorem run_end {s : State} (n : Nat) (h : s.ev.passDue = false) :
    runTasks (n + 2) [.deferPass, .close] s = some (closeEvent s) := by
  simp [runTasks_cons, perform, deferPass, only, h]

/-- The end of an event whose pass finds the deferred list empty. -/
theorem run_end_pass {s : State} (n : Nat) (h : s.ilk.deferred = []) :
    runTasks (n + 2) [.deferPass, .close] s
      = some (closeEvent (if s.ev.passDue then s.modEv (fun v => { v with passDue := false }) else s)) := by
  by_cases hp : s.ev.passDue = true
  · simp [runTasks_cons, perform, deferPass, only, hp, h]
  · simp [runTasks_cons, perform, deferPass, only, hp]

/-- An event with no task of its own and no pass due. -/
theorem conclude_only {s : State} (h : s.ev.passDue = false) : conclude (only s) = .next (closeEvent s) :=
  conclude_of_run (run_end 0 h) (le_cascadeBound (by decide))

/-- An event with no task of its own whose pass finds the deferred list empty. -/
theorem conclude_only_pass {s : State} (h : s.ilk.deferred = []) :
    conclude (only s)
      = .next (closeEvent (if s.ev.passDue then s.modEv (fun v => { v with passDue := false }) else s)) :=
  conclude_of_run (run_end_pass 0 h) (le_cascadeBound (by decide))

/-! ### The end of an event -/

@[simp] theorem flushMonitor_none (n : Nat) {s : State} (h : s.ev.monitorDue = []) : flushMonitor n s = s := by
  cases n with
  | zero => rfl
  | succ n =>
    have hf : (List.finRange 8).find? (fun _ => false) = none := by decide
    simp [flushMonitor, h, hf]

/-- An event that left no COUNTER_OVERFLOW due. -/
theorem closeEvent_quiet {s : State} (h : s.ev.monitorDue = []) : closeEvent s = { s with ev := clearWithin } := by
  simp [closeEvent, h]

theorem closeEvent_clear {s : State} (h : s.ev = clearWithin) : closeEvent s = s := by
  rw [closeEvent_quiet (by rw [h]; rfl), ← h]

@[simp] theorem closeEvent_ev (s : State) : (closeEvent s).ev = clearWithin := rfl

/-! ### How a command starts -/

/-- The command takes its message. -/
theorem takeAs_takes {row : Instr} {body : Msg → State → Eff} {s : State} {d : DiqItem}
    (hr : s.mga.inReset = false) (hn : nextItem s.chi.diq = some d) (hrow : rowOf s d.msg = row)
    (hc : canTake s d.msg = true) : takeAs row body s = conclude (body d.msg (removeDiq d s)) := by
  simp [takeAs, hn, hr, hrow, hc]

/-- Either the command takes the DIQ's next message, or nothing changes. -/
theorem takeAs_cases (row : Instr) (body : Msg → State → Eff) (s : State) :
    (∃ d, s.mga.inReset = false ∧ nextItem s.chi.diq = some d ∧ rowOf s d.msg = row ∧ canTake s d.msg = true
      ∧ takeAs row body s = conclude (body d.msg (removeDiq d s))) ∨ takeAs row body s = .next s := by
  unfold takeAs
  cases hn : nextItem s.chi.diq with
  | none => exact .inr rfl
  | some d =>
    by_cases hr : s.mga.inReset = true
    · simp [hr]
    · by_cases hc : rowOf s d.msg = row ∧ canTake s d.msg = true
      · exact .inl ⟨d, by simpa using hr, rfl, hc.1, hc.2, by simp [hr, hc]⟩
      · exact .inr (by simp [hr, hc])

theorem whenOut_true {s : State} {cond : Bool} {r : Unit → Eff} (hr : s.mga.inReset = false) (hc : cond = true) :
    whenOut s cond r = conclude (r ()) := by simp [whenOut, hr, hc]

theorem whenOut_reset {s : State} {cond : Bool} {r : Unit → Eff} (hr : s.mga.inReset = true) :
    whenOut s cond r = .next s := by simp [whenOut, hr]

/-- Either the event happens, or nothing changes. -/
theorem whenOut_cases (s : State) (cond : Bool) (r : Unit → Eff) :
    (s.mga.inReset = false ∧ cond = true ∧ whenOut s cond r = conclude (r ())) ∨ whenOut s cond r = .next s := by
  by_cases hr : s.mga.inReset = true
  · exact .inr (whenOut_reset hr)
  · cases cond with
    | true => exact .inl ⟨by simpa using hr, rfl, whenOut_true (by simpa using hr) rfl⟩
    | false => exact .inr (by simp [whenOut])

/-! ### The millisecond step (R186) -/

@[simp] theorem follow_next (s : State) (f : State → Host.Outcome State Fault Refusal) : follow (.next s) f = f s := rfl

theorem follow_eq_next {o : Host.Outcome State Fault Refusal} {f : State → Host.Outcome State Fault Refusal} {t : State}
    (h : follow o f = .next t) : ∃ s, o = .next s ∧ f s = .next t := by
  cases o with
  | next s => exact ⟨s, rfl, h⟩
  | fault e => cases h
  | refused r => cases h

/-- Events that leave a state as it is leave it so one after another. -/
theorem foldl_follow_same {l : List (State → Host.Outcome State Fault Refusal)} {s : State}
    (h : ∀ f ∈ l, f s = .next s) : l.foldl follow (.next s) = .next s := by
  induction l with
  | nil => rfl
  | cons f l ih =>
    simp only [List.foldl_cons, follow_next, h f List.mem_cons_self]
    exact ih fun g hg => h g (List.mem_cons_of_mem _ hg)

/-- A run of events that comes through went through a state after each; what each of them keeps, all of them keep. -/
theorem foldl_follow_keeps {P : State → Prop} {l : List (State → Host.Outcome State Fault Refusal)}
    (h : ∀ f ∈ l, ∀ s t, P s → f s = .next t → P t) {o : Host.Outcome State Fault Refusal} {t : State}
    (ho : ∀ s, o = .next s → P s) (hr : l.foldl follow o = .next t) : P t := by
  induction l generalizing o with
  | nil => exact ho t hr
  | cons f l ih =>
    refine ih (fun g hg => h g (List.mem_cons_of_mem _ hg)) (o := follow o f) (fun s hs => ?_) hr
    obtain ⟨u, hu, hf⟩ := follow_eq_next hs
    exact h f List.mem_cons_self u s (ho u hu) hf

/-- Where no event of the time happens, nothing is taken. -/
theorem takeDue_quiet {s : State} (h : ∀ f ∈ timedEvents, f s = .next s) : takeDue s = .next s := foldl_follow_same h

/-- What every event of the time keeps, the taking of all that are due keeps. -/
theorem takeDue_keeps {P : State → Prop} (h : ∀ f ∈ timedEvents, ∀ s t, P s → f s = .next t → P t) {s t : State}
    (hs : P s) (hr : takeDue s = .next t) : P t :=
  foldl_follow_keeps h (fun u hu => by cases hu; exact hs) hr

/-- With nothing due the time takes nothing. -/
theorem takeDue_nothing {s : State} (h : NothingDue s) : takeDue s = .next s := by
  apply takeDue_quiet
  intro f hf
  simp only [timedEvents, List.append_assoc, List.mem_append, List.mem_cons, List.not_mem_nil, or_false, List.mem_map] at hf
  obtain (rfl | rfl | rfl | rfl) | ⟨i, -, rfl⟩ | ⟨i, -, rfl⟩ | ⟨i, -, rfl⟩ | ⟨i, -, rfl⟩ | ⟨i, -, rfl⟩ := hf
  · simp [execTrapFilterAssert, whenOut, h.filters]
  · simp [execTrapFilterRelease, whenOut, h.filters]
  · simp [execTrapFilterAssert, whenOut, h.filters]
  · simp [execTrapFilterRelease, whenOut, h.filters]
  · unfold execTransitExpiry
    split
    · rfl
    · next r hr => rw [State.now, h.transits i r hr]
  · have : (timePassed (s.proc i).settleEnd s.mga.time && !(s.proc i).settleTaken) = false := by
      cases ht : (s.proc i).settleTaken <;> simp [h.settles i, ht]
    simp [execSettleExpiry, whenOut, State.now, this]
  · unfold execEntryDeadlineExpiry
    split
    · rfl
    · next en he => simp [whenOut, State.now, h.entries i en he]
  · have : deferDue s i = none := List.find?_eq_none.2 fun d hd => by simp [State.now, h.deferrals d hd]
    simp [execDeferExpiry, this]
  · have : ((s.faultRec i).pending && timePassed (s.faultRec i).expiry s.mga.time) = false := by
      cases hp : (s.faultRec i).pending <;> simp [h.escalations i, hp]
    simp [execEscalation, whenOut, State.now, this]

/-- A tick to a time at which nothing is due is the advance of the time and the samples. -/
theorem execTimeTick_nothing {s : State} (hr : s.mga.inReset = false) (h : NothingDue (advanceTime s)) :
    execTimeTick s = conclude (only (sampleAll (advanceTime s))) := by
  simp [execTimeTick, hr, takeDue_nothing h]

@[simp] theorem advanceTime_time (s : State) : (advanceTime s).mga.time = s.mga.time + 1 := rfl
@[simp] theorem advanceTime_prescaler (s : State) : (advanceTime s).mga.prescaler = 0 := rfl

/-- A station that is not held gets its settle end in full; one that is held has none. -/
theorem runSettle_proc (st : Stn) (s : State) : (runSettle st s).1.proc st = { s.proc st with
    settleEnd := if s.held st then none else some (after s.now (s.station st).cfg.settle), settleTaken := false } := by
  simp only [runSettle, only, apply_ite Prod.fst, ite_self]
  simp [State.modProc_proc]

end Sys2Proof.Machine
end

