-- ==== Sys2Proof/Laws/Ops.lean ====
section
/-! SUPPORT. What the shared operations leave as it is, said once for each: line monitor events, replies, notices, hold changes,
zone causes, fault occurrences and the end of an event; and what an order, the places of the DEQ, a RELEASE
transmission and the return to NORMAL do. -/

namespace Sys2Proof.Machine

/-! ### Line monitor events -/

@[simp] theorem lmnEvent_chi (src : EvSource) (st : Option Stn) (k : Option Byte) (s : State) : (lmnEvent src st k s).chi = s.chi := by
  rfl
@[simp] theorem lmnEvent_mga (src : EvSource) (st : Option Stn) (k : Option Byte) (s : State) : (lmnEvent src st k s).mga = s.mga := by
  rfl
@[simp] theorem lmnEvent_ptb (src : EvSource) (st : Option Stn) (k : Option Byte) (s : State) : (lmnEvent src st k s).ptb = s.ptb := by
  rfl
@[simp] theorem lmnEvent_rcs (src : EvSource) (st : Option Stn) (k : Option Byte) (s : State) : (lmnEvent src st k s).rcs = s.rcs := by
  rfl
@[simp] theorem lmnEvent_stb (src : EvSource) (st : Option Stn) (k : Option Byte) (s : State) : (lmnEvent src st k s).stb = s.stb := by
  rfl
@[simp] theorem lmnEvent_idx (src : EvSource) (st : Option Stn) (k : Option Byte) (s : State) : (lmnEvent src st k s).idx = s.idx := by
  rfl
@[simp] theorem lmnEvent_mrt (src : EvSource) (st : Option Stn) (k : Option Byte) (s : State) : (lmnEvent src st k s).mrt = s.mrt := by
  rfl
@[simp] theorem lmnEvent_ilk (src : EvSource) (st : Option Stn) (k : Option Byte) (s : State) : (lmnEvent src st k s).ilk = s.ilk := by
  rfl
@[simp] theorem lmnEvent_trp (src : EvSource) (st : Option Stn) (k : Option Byte) (s : State) : (lmnEvent src st k s).trp = s.trp := by
  rfl
@[simp] theorem lmnEvent_fcu (src : EvSource) (st : Option Stn) (k : Option Byte) (s : State) : (lmnEvent src st k s).fcu = s.fcu := by
  rfl
@[simp] theorem lmnEvent_pending (src : EvSource) (st : Option Stn) (k : Option Byte) (s : State) : (lmnEvent src st k s).pending = s.pending := by
  rfl
@[simp] theorem lmnEvent_ev_passDue (src : EvSource) (st : Option Stn) (k : Option Byte) (s : State) : (lmnEvent src st k s).ev.passDue = s.ev.passDue := by
  rfl
@[simp] theorem lmnEvent_ev_diqClaim (src : EvSource) (st : Option Stn) (k : Option Byte) (s : State) : (lmnEvent src st k s).ev.diqClaim = s.ev.diqClaim := by
  rfl

theorem lmnEvent_snapTime (src : EvSource) (st : Option Stn) (k : Option Byte) (s : State) :
    (lmnEvent src st k s).lmn.snapTime = s.lmn.snapTime := rfl

/-! ### Replies (R23) -/

@[simp] theorem postReply_mga (m : Msg) (s : State) : (postReply m s).mga = s.mga := by
  unfold postReply; split <;> rfl
@[simp] theorem postReply_ptb (m : Msg) (s : State) : (postReply m s).ptb = s.ptb := by
  unfold postReply; split <;> rfl
@[simp] theorem postReply_rcs (m : Msg) (s : State) : (postReply m s).rcs = s.rcs := by
  unfold postReply; split <;> rfl
@[simp] theorem postReply_stb (m : Msg) (s : State) : (postReply m s).stb = s.stb := by
  unfold postReply; split <;> rfl
@[simp] theorem postReply_idx (m : Msg) (s : State) : (postReply m s).idx = s.idx := by
  unfold postReply; split <;> rfl
@[simp] theorem postReply_ilk (m : Msg) (s : State) : (postReply m s).ilk = s.ilk := by
  unfold postReply; split <;> rfl
@[simp] theorem postReply_trp (m : Msg) (s : State) : (postReply m s).trp = s.trp := by
  unfold postReply; split <;> rfl
@[simp] theorem postReply_fcu (m : Msg) (s : State) : (postReply m s).fcu = s.fcu := by
  unfold postReply; split <;> rfl
@[simp] theorem postReply_lmn (m : Msg) (s : State) : (postReply m s).lmn = s.lmn := by
  unfold postReply; split <;> rfl
@[simp] theorem postReply_ev (m : Msg) (s : State) : (postReply m s).ev = s.ev := by
  unfold postReply; split <;> rfl
@[simp] theorem postReply_pending (m : Msg) (s : State) : (postReply m s).pending = s.pending := by
  unfold postReply; split <;> rfl
@[simp] theorem postReply_chi_a (m : Msg) (s : State) : (postReply m s).chi.a = s.chi.a := by
  unfold postReply; split <;> rfl
@[simp] theorem postReply_chi_b (m : Msg) (s : State) : (postReply m s).chi.b = s.chi.b := by
  unfold postReply; split <;> rfl
@[simp] theorem postReply_chi_diq (m : Msg) (s : State) : (postReply m s).chi.diq = s.chi.diq := by
  unfold postReply; split <;> rfl
@[simp] theorem postReply_chi_uiq (m : Msg) (s : State) : (postReply m s).chi.uiq = s.chi.uiq := by
  unfold postReply; split <;> rfl
@[simp] theorem postReply_chi_deq (m : Msg) (s : State) : (postReply m s).chi.deq = s.chi.deq := by
  unfold postReply; split <;> rfl
@[simp] theorem postReply_chi_ugq (m : Msg) (s : State) : (postReply m s).chi.ugq = s.chi.ugq := by
  unfold postReply; split <;> rfl
@[simp] theorem postReply_chi_lastServed (m : Msg) (s : State) : (postReply m s).chi.lastServed = s.chi.lastServed := by
  unfold postReply; split <;> rfl
@[simp] theorem postReply_chi_sent (m : Msg) (s : State) : (postReply m s).chi.sent = s.chi.sent := by
  unfold postReply; split <;> rfl
@[simp] theorem postReply_chi_owed (m : Msg) (s : State) : (postReply m s).chi.owed = s.chi.owed := by
  unfold postReply; split <;> rfl
@[simp] theorem postReply_chi_softHold (m : Msg) (s : State) : (postReply m s).chi.softHold = s.chi.softHold := by
  unfold postReply; split <;> rfl
@[simp] theorem postReply_chi_afterLoss (m : Msg) (s : State) : (postReply m s).chi.afterLoss = s.chi.afterLoss := by
  unfold postReply; split <;> rfl
@[simp] theorem postReply_entries (m : Msg) (s : State) : (postReply m s).mrt.entries = s.mrt.entries := by
  unfold postReply; split <;> rfl

/-- A reply goes behind everything that waits for port A from the device. -/
theorem postReply_outgoing (m : Msg) (s : State) :
    (postReply m s).chi.nq ++ (postReply m s).mrt.kept = s.chi.nq ++ s.mrt.kept ++ [m] := by
  unfold postReply
  split
  next h => simp [h.2]
  next h => simp

/-! ### Notices (R23, R183) -/

@[simp] theorem notice_ptb (ev : Event) (st : Byte) (p : Tag) (d : Nat) (s : State) : (notice ev st p d s).ptb = s.ptb := by
  unfold notice; dsimp only; split <;> [rfl; split <;> rfl]
@[simp] theorem notice_rcs (ev : Event) (st : Byte) (p : Tag) (d : Nat) (s : State) : (notice ev st p d s).rcs = s.rcs := by
  unfold notice; dsimp only; split <;> [rfl; split <;> rfl]
@[simp] theorem notice_stb (ev : Event) (st : Byte) (p : Tag) (d : Nat) (s : State) : (notice ev st p d s).stb = s.stb := by
  unfold notice; dsimp only; split <;> [rfl; split <;> rfl]
@[simp] theorem notice_idx (ev : Event) (st : Byte) (p : Tag) (d : Nat) (s : State) : (notice ev st p d s).idx = s.idx := by
  unfold notice; dsimp only; split <;> [rfl; split <;> rfl]
@[simp] theorem notice_entries (ev : Event) (st : Byte) (p : Tag) (d : Nat) (s : State) : (notice ev st p d s).mrt.entries = s.mrt.entries := by
  unfold notice; dsimp only; split <;> [rfl; split <;> rfl]
@[simp] theorem notice_ilk (ev : Event) (st : Byte) (p : Tag) (d : Nat) (s : State) : (notice ev st p d s).ilk = s.ilk := by
  unfold notice; dsimp only; split <;> [rfl; split <;> rfl]
@[simp] theorem notice_trp (ev : Event) (st : Byte) (p : Tag) (d : Nat) (s : State) : (notice ev st p d s).trp = s.trp := by
  unfold notice; dsimp only; split <;> [rfl; split <;> rfl]
@[simp] theorem notice_fcu (ev : Event) (st : Byte) (p : Tag) (d : Nat) (s : State) : (notice ev st p d s).fcu = s.fcu := by
  unfold notice; dsimp only; split <;> [rfl; split <;> rfl]
@[simp] theorem notice_pending (ev : Event) (st : Byte) (p : Tag) (d : Nat) (s : State) : (notice ev st p d s).pending = s.pending := by
  unfold notice; dsimp only; split <;> [rfl; split <;> rfl]
@[simp] theorem notice_chi_a (ev : Event) (st : Byte) (p : Tag) (d : Nat) (s : State) : (notice ev st p d s).chi.a = s.chi.a := by
  unfold notice; dsimp only; split <;> [rfl; split <;> rfl]
@[simp] theorem notice_chi_b (ev : Event) (st : Byte) (p : Tag) (d : Nat) (s : State) : (notice ev st p d s).chi.b = s.chi.b := by
  unfold notice; dsimp only; split <;> [rfl; split <;> rfl]
@[simp] theorem notice_chi_diq (ev : Event) (st : Byte) (p : Tag) (d : Nat) (s : State) : (notice ev st p d s).chi.diq = s.chi.diq := by
  unfold notice; dsimp only; split <;> [rfl; split <;> rfl]
@[simp] theorem notice_chi_uiq (ev : Event) (st : Byte) (p : Tag) (d : Nat) (s : State) : (notice ev st p d s).chi.uiq = s.chi.uiq := by
  unfold notice; dsimp only; split <;> [rfl; split <;> rfl]
@[simp] theorem notice_chi_deq (ev : Event) (st : Byte) (p : Tag) (d : Nat) (s : State) : (notice ev st p d s).chi.deq = s.chi.deq := by
  unfold notice; dsimp only; split <;> [rfl; split <;> rfl]
@[simp] theorem notice_chi_ugq (ev : Event) (st : Byte) (p : Tag) (d : Nat) (s : State) : (notice ev st p d s).chi.ugq = s.chi.ugq := by
  unfold notice; dsimp only; split <;> [rfl; split <;> rfl]
@[simp] theorem notice_chi_lastServed (ev : Event) (st : Byte) (p : Tag) (d : Nat) (s : State) : (notice ev st p d s).chi.lastServed = s.chi.lastServed := by
  unfold notice; dsimp only; split <;> [rfl; split <;> rfl]
@[simp] theorem notice_chi_sent (ev : Event) (st : Byte) (p : Tag) (d : Nat) (s : State) : (notice ev st p d s).chi.sent = s.chi.sent := by
  unfold notice; dsimp only; split <;> [rfl; split <;> rfl]
@[simp] theorem notice_chi_owed (ev : Event) (st : Byte) (p : Tag) (d : Nat) (s : State) : (notice ev st p d s).chi.owed = s.chi.owed := by
  unfold notice; dsimp only; split <;> [rfl; split <;> rfl]
@[simp] theorem notice_chi_softHold (ev : Event) (st : Byte) (p : Tag) (d : Nat) (s : State) : (notice ev st p d s).chi.softHold = s.chi.softHold := by
  unfold notice; dsimp only; split <;> [rfl; split <;> rfl]
@[simp] theorem notice_mga_node (ev : Event) (st : Byte) (p : Tag) (d : Nat) (s : State) : (notice ev st p d s).mga.node = s.mga.node := by
  unfold notice; dsimp only; split <;> [rfl; split <;> rfl]
@[simp] theorem notice_mga_controller (ev : Event) (st : Byte) (p : Tag) (d : Nat) (s : State) : (notice ev st p d s).mga.controller = s.mga.controller := by
  unfold notice; dsimp only; split <;> [rfl; split <;> rfl]
@[simp] theorem notice_mga_noticeMask (ev : Event) (st : Byte) (p : Tag) (d : Nat) (s : State) : (notice ev st p d s).mga.noticeMask = s.mga.noticeMask := by
  unfold notice; dsimp only; split <;> [rfl; split <;> rfl]
@[simp] theorem notice_mga_attnMask (ev : Event) (st : Byte) (p : Tag) (d : Nat) (s : State) : (notice ev st p d s).mga.attnMask = s.mga.attnMask := by
  unfold notice; dsimp only; split <;> [rfl; split <;> rfl]
@[simp] theorem notice_mga_cause (ev : Event) (st : Byte) (p : Tag) (d : Nat) (s : State) : (notice ev st p d s).mga.cause = s.mga.cause := by
  unfold notice; dsimp only; split <;> [rfl; split <;> rfl]
@[simp] theorem notice_mga_time (ev : Event) (st : Byte) (p : Tag) (d : Nat) (s : State) : (notice ev st p d s).mga.time = s.mga.time := by
  unfold notice; dsimp only; split <;> [rfl; split <;> rfl]
@[simp] theorem notice_mga_prescaler (ev : Event) (st : Byte) (p : Tag) (d : Nat) (s : State) : (notice ev st p d s).mga.prescaler = s.mga.prescaler := by
  unfold notice; dsimp only; split <;> [rfl; split <;> rfl]
@[simp] theorem notice_mga_latch (ev : Event) (st : Byte) (p : Tag) (d : Nat) (s : State) : (notice ev st p d s).mga.latch = s.mga.latch := by
  unfold notice; dsimp only; split <;> [rfl; split <;> rfl]
@[simp] theorem notice_mga_inReset (ev : Event) (st : Byte) (p : Tag) (d : Nat) (s : State) : (notice ev st p d s).mga.inReset = s.mga.inReset := by
  unfold notice; dsimp only; split <;> [rfl; split <;> rfl]
@[simp] theorem notice_ev_passDue (ev : Event) (st : Byte) (p : Tag) (d : Nat) (s : State) : (notice ev st p d s).ev.passDue = s.ev.passDue := by
  unfold notice; dsimp only; split <;> [rfl; split <;> rfl]
@[simp] theorem notice_ev_diqClaim (ev : Event) (st : Byte) (p : Tag) (d : Nat) (s : State) : (notice ev st p d s).ev.diqClaim = s.ev.diqClaim := by
  unfold notice; dsimp only; split <;> [rfl; split <;> rfl]

/-- The flag of the event's class is set in any case. -/
theorem notice_summary (ev : Event) (st : Byte) (p : Tag) (d : Nat) (s : State) :
    (notice ev st p d s).mga.summary = s.mga.summary ||| classBit (eventClass ev) := by
  unfold notice; dsimp only; split <;> [rfl; split <;> rfl]

/-- A notice only adds to the NQ. -/
theorem notice_nq (ev : Event) (st : Byte) (p : Tag) (d : Nat) (s : State) : s.chi.nq <+: (notice ev st p d s).chi.nq := by
  unfold notice
  dsimp only
  split
  · exact List.prefix_refl _
  · split
    · exact ⟨_, (List.append_assoc ..).symm⟩
    · exact List.prefix_refl _

/-- What waits for port A from the device keeps its order: a notice goes behind all of it, the kept refusals included, or is
lost (R23). -/
theorem notice_outgoing (ev : Event) (st : Byte) (p : Tag) (d : Nat) (s : State) :
    (notice ev st p d s).chi.nq ++ (notice ev st p d s).mrt.kept = s.chi.nq ++ s.mrt.kept
      ∨ ∃ m, (notice ev st p d s).chi.nq ++ (notice ev st p d s).mrt.kept = s.chi.nq ++ s.mrt.kept ++ [m] := by
  unfold notice
  dsimp only
  split
  · exact .inl rfl
  · split
    · exact .inr ⟨_, List.append_nil _⟩
    · exact .inl rfl

/-! ### The end of an event (R176) -/

@[simp] theorem flushMonitor_ptb (n : Nat) (s : State) : (flushMonitor n s).ptb = s.ptb := by
  induction n generalizing s with
  | zero => rfl
  | succ n ih => unfold flushMonitor; split <;> [rfl; simp [ih]]
@[simp] theorem flushMonitor_rcs (n : Nat) (s : State) : (flushMonitor n s).rcs = s.rcs := by
  induction n generalizing s with
  | zero => rfl
  | succ n ih => unfold flushMonitor; split <;> [rfl; simp [ih]]
@[simp] theorem flushMonitor_stb (n : Nat) (s : State) : (flushMonitor n s).stb = s.stb := by
  induction n generalizing s with
  | zero => rfl
  | succ n ih => unfold flushMonitor; split <;> [rfl; simp [ih]]
@[simp] theorem flushMonitor_idx (n : Nat) (s : State) : (flushMonitor n s).idx = s.idx := by
  induction n generalizing s with
  | zero => rfl
  | succ n ih => unfold flushMonitor; split <;> [rfl; simp [ih]]
@[simp] theorem flushMonitor_entries (n : Nat) (s : State) : (flushMonitor n s).mrt.entries = s.mrt.entries := by
  induction n generalizing s with
  | zero => rfl
  | succ n ih => unfold flushMonitor; split <;> [rfl; simp [ih]]
@[simp] theorem flushMonitor_ilk (n : Nat) (s : State) : (flushMonitor n s).ilk = s.ilk := by
  induction n generalizing s with
  | zero => rfl
  | succ n ih => unfold flushMonitor; split <;> [rfl; simp [ih]]
@[simp] theorem flushMonitor_trp (n : Nat) (s : State) : (flushMonitor n s).trp = s.trp := by
  induction n generalizing s with
  | zero => rfl
  | succ n ih => unfold flushMonitor; split <;> [rfl; simp [ih]]
@[simp] theorem flushMonitor_fcu (n : Nat) (s : State) : (flushMonitor n s).fcu = s.fcu := by
  induction n generalizing s with
  | zero => rfl
  | succ n ih => unfold flushMonitor; split <;> [rfl; simp [ih]]
@[simp] theorem flushMonitor_pending (n : Nat) (s : State) : (flushMonitor n s).pending = s.pending := by
  induction n generalizing s with
  | zero => rfl
  | succ n ih => unfold flushMonitor; split <;> [rfl; simp [ih]]
@[simp] theorem flushMonitor_chi_a (n : Nat) (s : State) : (flushMonitor n s).chi.a = s.chi.a := by
  induction n generalizing s with
  | zero => rfl
  | succ n ih => unfold flushMonitor; split <;> [rfl; simp [ih]]
@[simp] theorem flushMonitor_chi_b (n : Nat) (s : State) : (flushMonitor n s).chi.b = s.chi.b := by
  induction n generalizing s with
  | zero => rfl
  | succ n ih => unfold flushMonitor; split <;> [rfl; simp [ih]]
@[simp] theorem flushMonitor_chi_diq (n : Nat) (s : State) : (flushMonitor n s).chi.diq = s.chi.diq := by
  induction n generalizing s with
  | zero => rfl
  | succ n ih => unfold flushMonitor; split <;> [rfl; simp [ih]]
@[simp] theorem flushMonitor_chi_uiq (n : Nat) (s : State) : (flushMonitor n s).chi.uiq = s.chi.uiq := by
  induction n generalizing s with
  | zero => rfl
  | succ n ih => unfold flushMonitor; split <;> [rfl; simp [ih]]
@[simp] theorem flushMonitor_chi_deq (n : Nat) (s : State) : (flushMonitor n s).chi.deq = s.chi.deq := by
  induction n generalizing s with
  | zero => rfl
  | succ n ih => unfold flushMonitor; split <;> [rfl; simp [ih]]
@[simp] theorem flushMonitor_chi_ugq (n : Nat) (s : State) : (flushMonitor n s).chi.ugq = s.chi.ugq := by
  induction n generalizing s with
  | zero => rfl
  | succ n ih => unfold flushMonitor; split <;> [rfl; simp [ih]]
@[simp] theorem flushMonitor_chi_lastServed (n : Nat) (s : State) : (flushMonitor n s).chi.lastServed = s.chi.lastServed := by
  induction n generalizing s with
  | zero => rfl
  | succ n ih => unfold flushMonitor; split <;> [rfl; simp [ih]]
@[simp] theorem flushMonitor_chi_sent (n : Nat) (s : State) : (flushMonitor n s).chi.sent = s.chi.sent := by
  induction n generalizing s with
  | zero => rfl
  | succ n ih => unfold flushMonitor; split <;> [rfl; simp [ih]]
@[simp] theorem flushMonitor_chi_owed (n : Nat) (s : State) : (flushMonitor n s).chi.owed = s.chi.owed := by
  induction n generalizing s with
  | zero => rfl
  | succ n ih => unfold flushMonitor; split <;> [rfl; simp [ih]]
@[simp] theorem flushMonitor_chi_softHold (n : Nat) (s : State) : (flushMonitor n s).chi.softHold = s.chi.softHold := by
  induction n generalizing s with
  | zero => rfl
  | succ n ih => unfold flushMonitor; split <;> [rfl; simp [ih]]
@[simp] theorem flushMonitor_mga_node (n : Nat) (s : State) : (flushMonitor n s).mga.node = s.mga.node := by
  induction n generalizing s with
  | zero => rfl
  | succ n ih => unfold flushMonitor; split <;> [rfl; simp [ih]]
@[simp] theorem flushMonitor_mga_controller (n : Nat) (s : State) : (flushMonitor n s).mga.controller = s.mga.controller := by
  induction n generalizing s with
  | zero => rfl
  | succ n ih => unfold flushMonitor; split <;> [rfl; simp [ih]]
@[simp] theorem flushMonitor_mga_noticeMask (n : Nat) (s : State) : (flushMonitor n s).mga.noticeMask = s.mga.noticeMask := by
  induction n generalizing s with
  | zero => rfl
  | succ n ih => unfold flushMonitor; split <;> [rfl; simp [ih]]
@[simp] theorem flushMonitor_mga_attnMask (n : Nat) (s : State) : (flushMonitor n s).mga.attnMask = s.mga.attnMask := by
  induction n generalizing s with
  | zero => rfl
  | succ n ih => unfold flushMonitor; split <;> [rfl; simp [ih]]
@[simp] theorem flushMonitor_mga_cause (n : Nat) (s : State) : (flushMonitor n s).mga.cause = s.mga.cause := by
  induction n generalizing s with
  | zero => rfl
  | succ n ih => unfold flushMonitor; split <;> [rfl; simp [ih]]
@[simp] theorem flushMonitor_mga_time (n : Nat) (s : State) : (flushMonitor n s).mga.time = s.mga.time := by
  induction n generalizing s with
  | zero => rfl
  | succ n ih => unfold flushMonitor; split <;> [rfl; simp [ih]]
@[simp] theorem flushMonitor_mga_prescaler (n : Nat) (s : State) : (flushMonitor n s).mga.prescaler = s.mga.prescaler := by
  induction n generalizing s with
  | zero => rfl
  | succ n ih => unfold flushMonitor; split <;> [rfl; simp [ih]]
@[simp] theorem flushMonitor_mga_latch (n : Nat) (s : State) : (flushMonitor n s).mga.latch = s.mga.latch := by
  induction n generalizing s with
  | zero => rfl
  | succ n ih => unfold flushMonitor; split <;> [rfl; simp [ih]]
@[simp] theorem flushMonitor_mga_inReset (n : Nat) (s : State) : (flushMonitor n s).mga.inReset = s.mga.inReset := by
  induction n generalizing s with
  | zero => rfl
  | succ n ih => unfold flushMonitor; split <;> [rfl; simp [ih]]
@[simp] theorem flushMonitor_ev_passDue (n : Nat) (s : State) : (flushMonitor n s).ev.passDue = s.ev.passDue := by
  induction n generalizing s with
  | zero => rfl
  | succ n ih => unfold flushMonitor; split <;> [rfl; simp [ih]]
@[simp] theorem flushMonitor_ev_diqClaim (n : Nat) (s : State) : (flushMonitor n s).ev.diqClaim = s.ev.diqClaim := by
  induction n generalizing s with
  | zero => rfl
  | succ n ih => unfold flushMonitor; split <;> [rfl; simp [ih]]

theorem flushMonitor_nq (n : Nat) (s : State) : s.chi.nq <+: (flushMonitor n s).chi.nq := by
  induction n generalizing s with
  | zero => exact List.prefix_refl _
  | succ n ih =>
    unfold flushMonitor
    split
    · exact List.prefix_refl _
    next i _ =>
      exact List.IsPrefix.trans
        (notice_nq .counterOverflow 255 0 i.val
          (s.modEv (fun e => { e with monitorDue := e.monitorDue.filter (fun x => x != i) }))) (ih _)

/-- A flag that is set stays set. -/
theorem flushMonitor_summary (n : Nat) (s : State) (i : Nat) (h : s.mga.summary.getLsbD i = true) :
    (flushMonitor n s).mga.summary.getLsbD i = true := by
  induction n generalizing s with
  | zero => exact h
  | succ n ih =>
    unfold flushMonitor
    split
    · exact h
    · exact ih _ (by simp [notice_summary, h])

@[simp] theorem closeEvent_ptb (s : State) : (closeEvent s).ptb = s.ptb :=
  flushMonitor_ptb 9 s
@[simp] theorem closeEvent_rcs (s : State) : (closeEvent s).rcs = s.rcs :=
  flushMonitor_rcs 9 s
@[simp] theorem closeEvent_stb (s : State) : (closeEvent s).stb = s.stb :=
  flushMonitor_stb 9 s
@[simp] theorem closeEvent_idx (s : State) : (closeEvent s).idx = s.idx :=
  flushMonitor_idx 9 s
@[simp] theorem closeEvent_entries (s : State) : (closeEvent s).mrt.entries = s.mrt.entries :=
  flushMonitor_entries 9 s
@[simp] theorem closeEvent_ilk (s : State) : (closeEvent s).ilk = s.ilk :=
  flushMonitor_ilk 9 s
@[simp] theorem closeEvent_trp (s : State) : (closeEvent s).trp = s.trp :=
  flushMonitor_trp 9 s
@[simp] theorem closeEvent_fcu (s : State) : (closeEvent s).fcu = s.fcu :=
  flushMonitor_fcu 9 s
@[simp] theorem closeEvent_pending (s : State) : (closeEvent s).pending = s.pending :=
  flushMonitor_pending 9 s
@[simp] theorem closeEvent_chi_a (s : State) : (closeEvent s).chi.a = s.chi.a :=
  flushMonitor_chi_a 9 s
@[simp] theorem closeEvent_chi_b (s : State) : (closeEvent s).chi.b = s.chi.b :=
  flushMonitor_chi_b 9 s
@[simp] theorem closeEvent_chi_diq (s : State) : (closeEvent s).chi.diq = s.chi.diq :=
  flushMonitor_chi_diq 9 s
@[simp] theorem closeEvent_chi_uiq (s : State) : (closeEvent s).chi.uiq = s.chi.uiq :=
  flushMonitor_chi_uiq 9 s
@[simp] theorem closeEvent_chi_deq (s : State) : (closeEvent s).chi.deq = s.chi.deq :=
  flushMonitor_chi_deq 9 s
@[simp] theorem closeEvent_chi_ugq (s : State) : (closeEvent s).chi.ugq = s.chi.ugq :=
  flushMonitor_chi_ugq 9 s
@[simp] theorem closeEvent_chi_lastServed (s : State) : (closeEvent s).chi.lastServed = s.chi.lastServed :=
  flushMonitor_chi_lastServed 9 s
@[simp] theorem closeEvent_chi_sent (s : State) : (closeEvent s).chi.sent = s.chi.sent :=
  flushMonitor_chi_sent 9 s
@[simp] theorem closeEvent_chi_owed (s : State) : (closeEvent s).chi.owed = s.chi.owed :=
  flushMonitor_chi_owed 9 s
@[simp] theorem closeEvent_chi_softHold (s : State) : (closeEvent s).chi.softHold = s.chi.softHold :=
  flushMonitor_chi_softHold 9 s
@[simp] theorem closeEvent_mga_node (s : State) : (closeEvent s).mga.node = s.mga.node :=
  flushMonitor_mga_node 9 s
@[simp] theorem closeEvent_mga_controller (s : State) : (closeEvent s).mga.controller = s.mga.controller :=
  flushMonitor_mga_controller 9 s
@[simp] theorem closeEvent_mga_noticeMask (s : State) : (closeEvent s).mga.noticeMask = s.mga.noticeMask :=
  flushMonitor_mga_noticeMask 9 s
@[simp] theorem closeEvent_mga_attnMask (s : State) : (closeEvent s).mga.attnMask = s.mga.attnMask :=
  flushMonitor_mga_attnMask 9 s
@[simp] theorem closeEvent_mga_cause (s : State) : (closeEvent s).mga.cause = s.mga.cause :=
  flushMonitor_mga_cause 9 s
@[simp] theorem closeEvent_mga_time (s : State) : (closeEvent s).mga.time = s.mga.time :=
  flushMonitor_mga_time 9 s
@[simp] theorem closeEvent_mga_prescaler (s : State) : (closeEvent s).mga.prescaler = s.mga.prescaler :=
  flushMonitor_mga_prescaler 9 s
@[simp] theorem closeEvent_mga_latch (s : State) : (closeEvent s).mga.latch = s.mga.latch :=
  flushMonitor_mga_latch 9 s
@[simp] theorem closeEvent_mga_inReset (s : State) : (closeEvent s).mga.inReset = s.mga.inReset :=
  flushMonitor_mga_inReset 9 s

theorem closeEvent_nq (s : State) : s.chi.nq <+: (closeEvent s).chi.nq := flushMonitor_nq 9 s

theorem closeEvent_summary (s : State) (i : Nat) (h : s.mga.summary.getLsbD i = true) :
    (closeEvent s).mga.summary.getLsbD i = true := flushMonitor_summary 9 s i h

/-! ### Holds, zones and faults -/

theorem foldl_keeps {α β : Type} {f : State → α → State} {g : State → β} (h : ∀ s a, g (f s a) = g s) (l : List α)
 (s : State) : g (l.foldl f s) = g s := by
  induction l generalizing s with
  | nil => rfl
  | cons a l ih => rw [List.foldl_cons, ih, h]

@[simp] theorem beginHold_ptb (st : Stn) (s : State) : (beginHold st s).ptb = s.ptb := by
  exact foldl_keeps (f := fun s e => dropDeq e s) (g := fun s => s.ptb) (fun _ _ => rfl) (sendingOf s st) s
@[simp] theorem beginHold_rcs (st : Stn) (s : State) : (beginHold st s).rcs = s.rcs := by
  exact foldl_keeps (f := fun s e => dropDeq e s) (g := fun s => s.rcs) (fun _ _ => rfl) (sendingOf s st) s
@[simp] theorem beginHold_ilk (st : Stn) (s : State) : (beginHold st s).ilk = s.ilk := by
  exact foldl_keeps (f := fun s e => dropDeq e s) (g := fun s => s.ilk) (fun _ _ => rfl) (sendingOf s st) s
@[simp] theorem beginHold_fcu (st : Stn) (s : State) : (beginHold st s).fcu = s.fcu := by
  exact foldl_keeps (f := fun s e => dropDeq e s) (g := fun s => s.fcu) (fun _ _ => rfl) (sendingOf s st) s
@[simp] theorem beginHold_pending (st : Stn) (s : State) : (beginHold st s).pending = s.pending := by
  exact foldl_keeps (f := fun s e => dropDeq e s) (g := fun s => s.pending) (fun _ _ => rfl) (sendingOf s st) s
@[simp] theorem beginHold_mga (st : Stn) (s : State) : (beginHold st s).mga = s.mga := by
  exact foldl_keeps (f := fun s e => dropDeq e s) (g := fun s => s.mga) (fun _ _ => rfl) (sendingOf s st) s
@[simp] theorem beginHold_lmn (st : Stn) (s : State) : (beginHold st s).lmn = s.lmn := by
  exact foldl_keeps (f := fun s e => dropDeq e s) (g := fun s => s.lmn) (fun _ _ => rfl) (sendingOf s st) s
@[simp] theorem beginHold_ev (st : Stn) (s : State) : (beginHold st s).ev = s.ev := by
  exact foldl_keeps (f := fun s e => dropDeq e s) (g := fun s => s.ev) (fun _ _ => rfl) (sendingOf s st) s
@[simp] theorem beginHold_trp (st : Stn) (s : State) : (beginHold st s).trp = s.trp := by
  exact foldl_keeps (f := fun s e => dropDeq e s) (g := fun s => s.trp) (fun _ _ => rfl) (sendingOf s st) s
@[simp] theorem beginHold_stb (st : Stn) (s : State) : (beginHold st s).stb = s.stb := by
  exact foldl_keeps (f := fun s e => dropDeq e s) (g := fun s => s.stb) (fun _ _ => rfl) (sendingOf s st) s

@[simp] theorem beginHold_chi_a (st : Stn) (s : State) : (beginHold st s).chi.a = s.chi.a := by
  exact foldl_keeps (f := fun s e => dropDeq e s) (g := fun s => s.chi.a) (fun _ _ => rfl) (sendingOf s st) s
@[simp] theorem beginHold_chi_b (st : Stn) (s : State) : (beginHold st s).chi.b = s.chi.b := by
  exact foldl_keeps (f := fun s e => dropDeq e s) (g := fun s => s.chi.b) (fun _ _ => rfl) (sendingOf s st) s
@[simp] theorem beginHold_chi_diq (st : Stn) (s : State) : (beginHold st s).chi.diq = s.chi.diq := by
  exact foldl_keeps (f := fun s e => dropDeq e s) (g := fun s => s.chi.diq) (fun _ _ => rfl) (sendingOf s st) s
@[simp] theorem beginHold_chi_uiq (st : Stn) (s : State) : (beginHold st s).chi.uiq = s.chi.uiq := by
  exact foldl_keeps (f := fun s e => dropDeq e s) (g := fun s => s.chi.uiq) (fun _ _ => rfl) (sendingOf s st) s
@[simp] theorem beginHold_chi_ugq (st : Stn) (s : State) : (beginHold st s).chi.ugq = s.chi.ugq := by
  exact foldl_keeps (f := fun s e => dropDeq e s) (g := fun s => s.chi.ugq) (fun _ _ => rfl) (sendingOf s st) s
@[simp] theorem beginHold_chi_nq (st : Stn) (s : State) : (beginHold st s).chi.nq = s.chi.nq := by
  exact foldl_keeps (f := fun s e => dropDeq e s) (g := fun s => s.chi.nq) (fun _ _ => rfl) (sendingOf s st) s
@[simp] theorem beginHold_chi_lastServed (st : Stn) (s : State) : (beginHold st s).chi.lastServed = s.chi.lastServed := by
  exact foldl_keeps (f := fun s e => dropDeq e s) (g := fun s => s.chi.lastServed) (fun _ _ => rfl) (sendingOf s st) s
@[simp] theorem beginHold_chi_sent (st : Stn) (s : State) : (beginHold st s).chi.sent = s.chi.sent := by
  exact foldl_keeps (f := fun s e => dropDeq e s) (g := fun s => s.chi.sent) (fun _ _ => rfl) (sendingOf s st) s
@[simp] theorem beginHold_chi_owed (st : Stn) (s : State) : (beginHold st s).chi.owed = s.chi.owed := by
  exact foldl_keeps (f := fun s e => dropDeq e s) (g := fun s => s.chi.owed) (fun _ _ => rfl) (sendingOf s st) s
@[simp] theorem beginHold_chi_softHold (st : Stn) (s : State) : (beginHold st s).chi.softHold = s.chi.softHold := by
  exact foldl_keeps (f := fun s e => dropDeq e s) (g := fun s => s.chi.softHold) (fun _ _ => rfl) (sendingOf s st) s
@[simp] theorem beginHold_chi_afterLoss (st : Stn) (s : State) : (beginHold st s).chi.afterLoss = s.chi.afterLoss := by
  exact foldl_keeps (f := fun s e => dropDeq e s) (g := fun s => s.chi.afterLoss) (fun _ _ => rfl) (sendingOf s st) s
@[simp] theorem beginHold_kept (st : Stn) (s : State) : (beginHold st s).mrt.kept = s.mrt.kept := by
  exact foldl_keeps (f := fun s e => dropDeq e s) (g := fun s => s.mrt.kept) (fun _ _ => rfl) (sendingOf s st) s

@[simp] theorem changeHolds_ptb (f : Stn → Station → Station) (s : State) : (changeHolds f s).1.ptb = s.ptb := by
  exact foldl_keeps (g := fun s => s.ptb) (fun s a => beginHold_ptb a s) _ _
@[simp] theorem changeHolds_rcs (f : Stn → Station → Station) (s : State) : (changeHolds f s).1.rcs = s.rcs := by
  exact foldl_keeps (g := fun s => s.rcs) (fun s a => beginHold_rcs a s) _ _
@[simp] theorem changeHolds_ilk (f : Stn → Station → Station) (s : State) : (changeHolds f s).1.ilk = s.ilk := by
  exact foldl_keeps (g := fun s => s.ilk) (fun s a => beginHold_ilk a s) _ _
@[simp] theorem changeHolds_fcu (f : Stn → Station → Station) (s : State) : (changeHolds f s).1.fcu = s.fcu := by
  exact foldl_keeps (g := fun s => s.fcu) (fun s a => beginHold_fcu a s) _ _
@[simp] theorem changeHolds_pending (f : Stn → Station → Station) (s : State) : (changeHolds f s).1.pending = s.pending := by
  exact foldl_keeps (g := fun s => s.pending) (fun s a => beginHold_pending a s) _ _
@[simp] theorem changeHolds_mga (f : Stn → Station → Station) (s : State) : (changeHolds f s).1.mga = s.mga := by
  exact foldl_keeps (g := fun s => s.mga) (fun s a => beginHold_mga a s) _ _
@[simp] theorem changeHolds_lmn (f : Stn → Station → Station) (s : State) : (changeHolds f s).1.lmn = s.lmn := by
  exact foldl_keeps (g := fun s => s.lmn) (fun s a => beginHold_lmn a s) _ _
@[simp] theorem changeHolds_ev (f : Stn → Station → Station) (s : State) : (changeHolds f s).1.ev = s.ev := by
  exact foldl_keeps (g := fun s => s.ev) (fun s a => beginHold_ev a s) _ _
@[simp] theorem changeHolds_trp (f : Stn → Station → Station) (s : State) : (changeHolds f s).1.trp = s.trp := by
  exact foldl_keeps (g := fun s => s.trp) (fun s a => beginHold_trp a s) _ _
@[simp] theorem changeHolds_chi_a (f : Stn → Station → Station) (s : State) :
    (changeHolds f s).1.chi.a = s.chi.a := by
  exact foldl_keeps (g := fun s => s.chi.a) (fun s a => beginHold_chi_a a s) _ _
@[simp] theorem changeHolds_chi_b (f : Stn → Station → Station) (s : State) :
    (changeHolds f s).1.chi.b = s.chi.b := by
  exact foldl_keeps (g := fun s => s.chi.b) (fun s a => beginHold_chi_b a s) _ _
@[simp] theorem changeHolds_chi_diq (f : Stn → Station → Station) (s : State) :
    (changeHolds f s).1.chi.diq = s.chi.diq := by
  exact foldl_keeps (g := fun s => s.chi.diq) (fun s a => beginHold_chi_diq a s) _ _
@[simp] theorem changeHolds_chi_uiq (f : Stn → Station → Station) (s : State) :
    (changeHolds f s).1.chi.uiq = s.chi.uiq := by
  exact foldl_keeps (g := fun s => s.chi.uiq) (fun s a => beginHold_chi_uiq a s) _ _
@[simp] theorem changeHolds_chi_ugq (f : Stn → Station → Station) (s : State) :
    (changeHolds f s).1.chi.ugq = s.chi.ugq := by
  exact foldl_keeps (g := fun s => s.chi.ugq) (fun s a => beginHold_chi_ugq a s) _ _
@[simp] theorem changeHolds_chi_nq (f : Stn → Station → Station) (s : State) :
    (changeHolds f s).1.chi.nq = s.chi.nq := by
  exact foldl_keeps (g := fun s => s.chi.nq) (fun s a => beginHold_chi_nq a s) _ _
@[simp] theorem changeHolds_chi_lastServed (f : Stn → Station → Station) (s : State) :
    (changeHolds f s).1.chi.lastServed = s.chi.lastServed := by
  exact foldl_keeps (g := fun s => s.chi.lastServed) (fun s a => beginHold_chi_lastServed a s) _ _
@[simp] theorem changeHolds_chi_sent (f : Stn → Station → Station) (s : State) :
    (changeHolds f s).1.chi.sent = s.chi.sent := by
  exact foldl_keeps (g := fun s => s.chi.sent) (fun s a => beginHold_chi_sent a s) _ _
@[simp] theorem changeHolds_chi_owed (f : Stn → Station → Station) (s : State) :
    (changeHolds f s).1.chi.owed = s.chi.owed := by
  exact foldl_keeps (g := fun s => s.chi.owed) (fun s a => beginHold_chi_owed a s) _ _
@[simp] theorem changeHolds_chi_softHold (f : Stn → Station → Station) (s : State) :
    (changeHolds f s).1.chi.softHold = s.chi.softHold := by
  exact foldl_keeps (g := fun s => s.chi.softHold) (fun s a => beginHold_chi_softHold a s) _ _
@[simp] theorem changeHolds_chi_afterLoss (f : Stn → Station → Station) (s : State) :
    (changeHolds f s).1.chi.afterLoss = s.chi.afterLoss := by
  exact foldl_keeps (g := fun s => s.chi.afterLoss) (fun s a => beginHold_chi_afterLoss a s) _ _
@[simp] theorem changeHolds_kept (f : Stn → Station → Station) (s : State) : (changeHolds f s).1.mrt.kept = s.mrt.kept := by
  exact foldl_keeps (g := fun s => s.mrt.kept) (fun s a => beginHold_kept a s) _ _

/-- New hold causes are stored for every station. -/
theorem changeHolds_station (f : Stn → Station → Station) (s : State) (x : Stn) :
    (changeHolds f s).1.station x = f x (s.station x) := by
  have h : (changeHolds f s).1.stb = { s.stb with stn := Vector.ofFn (fun i => f i (s.stb.stn.get i)) } :=
    foldl_keeps (g := fun s => s.stb) (fun s a => beginHold_stb a s) _ _
  simp [State.station, h, Vector.get]

@[simp] theorem changeHolds_load (f : Stn → Station → Station) (s : State) : (changeHolds f s).1.stb.load = s.stb.load := by
  have h : (changeHolds f s).1.stb = { s.stb with stn := Vector.ofFn (fun i => f i (s.stb.stn.get i)) } :=
    foldl_keeps (g := fun s => s.stb) (fun s a => beginHold_stb a s) _ _
  rw [h]

@[simp] theorem zoneAdd_ptb (z : Zone) (c : ZoneCauses) (s : State) : (zoneAdd z c s).ptb = s.ptb := by
  unfold zoneAdd; dsimp only; split <;> simp
@[simp] theorem zoneAdd_rcs (z : Zone) (c : ZoneCauses) (s : State) : (zoneAdd z c s).rcs = s.rcs := by
  unfold zoneAdd; dsimp only; split <;> simp
@[simp] theorem zoneAdd_ilk (z : Zone) (c : ZoneCauses) (s : State) : (zoneAdd z c s).ilk = s.ilk := by
  unfold zoneAdd; dsimp only; split <;> simp
@[simp] theorem zoneAdd_fcu (z : Zone) (c : ZoneCauses) (s : State) : (zoneAdd z c s).fcu = s.fcu := by
  unfold zoneAdd; dsimp only; split <;> simp
@[simp] theorem zoneAdd_pending (z : Zone) (c : ZoneCauses) (s : State) : (zoneAdd z c s).pending = s.pending := by
  unfold zoneAdd; dsimp only; split <;> simp
@[simp] theorem zoneAdd_mga_node (z : Zone) (c : ZoneCauses) (s : State) : (zoneAdd z c s).mga.node = s.mga.node := by
  unfold zoneAdd; dsimp only; split <;> simp
@[simp] theorem zoneAdd_mga_controller (z : Zone) (c : ZoneCauses) (s : State) : (zoneAdd z c s).mga.controller = s.mga.controller := by
  unfold zoneAdd; dsimp only; split <;> simp
@[simp] theorem zoneAdd_mga_noticeMask (z : Zone) (c : ZoneCauses) (s : State) : (zoneAdd z c s).mga.noticeMask = s.mga.noticeMask := by
  unfold zoneAdd; dsimp only; split <;> simp
@[simp] theorem zoneAdd_mga_attnMask (z : Zone) (c : ZoneCauses) (s : State) : (zoneAdd z c s).mga.attnMask = s.mga.attnMask := by
  unfold zoneAdd; dsimp only; split <;> simp
@[simp] theorem zoneAdd_mga_cause (z : Zone) (c : ZoneCauses) (s : State) : (zoneAdd z c s).mga.cause = s.mga.cause := by
  unfold zoneAdd; dsimp only; split <;> simp
@[simp] theorem zoneAdd_mga_time (z : Zone) (c : ZoneCauses) (s : State) : (zoneAdd z c s).mga.time = s.mga.time := by
  unfold zoneAdd; dsimp only; split <;> simp
@[simp] theorem zoneAdd_mga_prescaler (z : Zone) (c : ZoneCauses) (s : State) : (zoneAdd z c s).mga.prescaler = s.mga.prescaler := by
  unfold zoneAdd; dsimp only; split <;> simp
@[simp] theorem zoneAdd_mga_latch (z : Zone) (c : ZoneCauses) (s : State) : (zoneAdd z c s).mga.latch = s.mga.latch := by
  unfold zoneAdd; dsimp only; split <;> simp
@[simp] theorem zoneAdd_mga_inReset (z : Zone) (c : ZoneCauses) (s : State) : (zoneAdd z c s).mga.inReset = s.mga.inReset := by
  unfold zoneAdd; dsimp only; split <;> simp
@[simp] theorem zoneAdd_ev_passDue (z : Zone) (c : ZoneCauses) (s : State) : (zoneAdd z c s).ev.passDue = s.ev.passDue := by
  unfold zoneAdd; dsimp only; split <;> simp
@[simp] theorem zoneAdd_ev_diqClaim (z : Zone) (c : ZoneCauses) (s : State) : (zoneAdd z c s).ev.diqClaim = s.ev.diqClaim := by
  unfold zoneAdd; dsimp only; split <;> simp

@[simp] theorem zoneAdd_chi_a (z : Zone) (c : ZoneCauses) (s : State) : (zoneAdd z c s).chi.a = s.chi.a := by
  unfold zoneAdd; dsimp only; split <;> cases z <;> simp [State.setZone]
@[simp] theorem zoneAdd_chi_b (z : Zone) (c : ZoneCauses) (s : State) : (zoneAdd z c s).chi.b = s.chi.b := by
  unfold zoneAdd; dsimp only; split <;> cases z <;> simp [State.setZone]
@[simp] theorem zoneAdd_chi_diq (z : Zone) (c : ZoneCauses) (s : State) : (zoneAdd z c s).chi.diq = s.chi.diq := by
  unfold zoneAdd; dsimp only; split <;> cases z <;> simp [State.setZone]
@[simp] theorem zoneAdd_chi_uiq (z : Zone) (c : ZoneCauses) (s : State) : (zoneAdd z c s).chi.uiq = s.chi.uiq := by
  unfold zoneAdd; dsimp only; split <;> cases z <;> simp [State.setZone]
@[simp] theorem zoneAdd_chi_ugq (z : Zone) (c : ZoneCauses) (s : State) : (zoneAdd z c s).chi.ugq = s.chi.ugq := by
  unfold zoneAdd; dsimp only; split <;> cases z <;> simp [State.setZone]
@[simp] theorem zoneAdd_chi_lastServed (z : Zone) (c : ZoneCauses) (s : State) : (zoneAdd z c s).chi.lastServed = s.chi.lastServed := by
  unfold zoneAdd; dsimp only; split <;> cases z <;> simp [State.setZone]
@[simp] theorem zoneAdd_chi_sent (z : Zone) (c : ZoneCauses) (s : State) : (zoneAdd z c s).chi.sent = s.chi.sent := by
  unfold zoneAdd; dsimp only; split <;> cases z <;> simp [State.setZone]
@[simp] theorem zoneAdd_chi_owed (z : Zone) (c : ZoneCauses) (s : State) : (zoneAdd z c s).chi.owed = s.chi.owed := by
  unfold zoneAdd; dsimp only; split <;> cases z <;> simp [State.setZone]
@[simp] theorem zoneAdd_chi_softHold (z : Zone) (c : ZoneCauses) (s : State) : (zoneAdd z c s).chi.softHold = s.chi.softHold := by
  unfold zoneAdd; dsimp only; split <;> cases z <;> simp [State.setZone]

@[simp] theorem setZone_zone (s : State) (z y : Zone) (v : ZoneState) :
    (s.setZone z v).zone y = if y = z then v else s.zone y := by
  cases z <;> cases y <;> rfl

theorem zone_of_trp {s t : State} (h : s.trp = t.trp) (z : Zone) : s.zone z = t.zone z := by
  cases z <;> simp [State.zone, h]

/-- Causes added to a zone are in it, and the other zone is as it was. -/
theorem zoneAdd_zone (z y : Zone) (c : ZoneCauses) (s : State) :
    (zoneAdd z c s).zone y = if y = z then { s.zone z with causes := (s.zone z).causes.union c } else s.zone y := by
  unfold zoneAdd
  dsimp only
  split
  · rw [← setZone_zone]
    exact zone_of_trp (by simp) y
  · exact setZone_zone ..

@[simp] theorem trapForFault_ptb (k : FaultKind) (z : Zone) (s : State) : (trapForFault k z s).ptb = s.ptb := by
  unfold trapForFault; simp
@[simp] theorem trapForFault_rcs (k : FaultKind) (z : Zone) (s : State) : (trapForFault k z s).rcs = s.rcs := by
  unfold trapForFault; simp
@[simp] theorem trapForFault_ilk (k : FaultKind) (z : Zone) (s : State) : (trapForFault k z s).ilk = s.ilk := by
  unfold trapForFault; simp
@[simp] theorem trapForFault_pending (k : FaultKind) (z : Zone) (s : State) : (trapForFault k z s).pending = s.pending := by
  unfold trapForFault; simp
@[simp] theorem trapForFault_chi_a (k : FaultKind) (z : Zone) (s : State) : (trapForFault k z s).chi.a = s.chi.a := by
  unfold trapForFault; simp
@[simp] theorem trapForFault_chi_b (k : FaultKind) (z : Zone) (s : State) : (trapForFault k z s).chi.b = s.chi.b := by
  unfold trapForFault; simp
@[simp] theorem trapForFault_chi_diq (k : FaultKind) (z : Zone) (s : State) : (trapForFault k z s).chi.diq = s.chi.diq := by
  unfold trapForFault; simp
@[simp] theorem trapForFault_chi_uiq (k : FaultKind) (z : Zone) (s : State) : (trapForFault k z s).chi.uiq = s.chi.uiq := by
  unfold trapForFault; simp
@[simp] theorem trapForFault_chi_ugq (k : FaultKind) (z : Zone) (s : State) : (trapForFault k z s).chi.ugq = s.chi.ugq := by
  unfold trapForFault; simp
@[simp] theorem trapForFault_chi_lastServed (k : FaultKind) (z : Zone) (s : State) : (trapForFault k z s).chi.lastServed = s.chi.lastServed := by
  unfold trapForFault; simp
@[simp] theorem trapForFault_chi_sent (k : FaultKind) (z : Zone) (s : State) : (trapForFault k z s).chi.sent = s.chi.sent := by
  unfold trapForFault; simp
@[simp] theorem trapForFault_chi_owed (k : FaultKind) (z : Zone) (s : State) : (trapForFault k z s).chi.owed = s.chi.owed := by
  unfold trapForFault; simp
@[simp] theorem trapForFault_chi_softHold (k : FaultKind) (z : Zone) (s : State) : (trapForFault k z s).chi.softHold = s.chi.softHold := by
  unfold trapForFault; simp
@[simp] theorem trapForFault_mga_node (k : FaultKind) (z : Zone) (s : State) : (trapForFault k z s).mga.node = s.mga.node := by
  unfold trapForFault; simp
@[simp] theorem trapForFault_mga_controller (k : FaultKind) (z : Zone) (s : State) : (trapForFault k z s).mga.controller = s.mga.controller := by
  unfold trapForFault; simp
@[simp] theorem trapForFault_mga_noticeMask (k : FaultKind) (z : Zone) (s : State) : (trapForFault k z s).mga.noticeMask = s.mga.noticeMask := by
  unfold trapForFault; simp
@[simp] theorem trapForFault_mga_attnMask (k : FaultKind) (z : Zone) (s : State) : (trapForFault k z s).mga.attnMask = s.mga.attnMask := by
  unfold trapForFault; simp
@[simp] theorem trapForFault_mga_cause (k : FaultKind) (z : Zone) (s : State) : (trapForFault k z s).mga.cause = s.mga.cause := by
  unfold trapForFault; simp
@[simp] theorem trapForFault_mga_time (k : FaultKind) (z : Zone) (s : State) : (trapForFault k z s).mga.time = s.mga.time := by
  unfold trapForFault; simp
@[simp] theorem trapForFault_mga_prescaler (k : FaultKind) (z : Zone) (s : State) : (trapForFault k z s).mga.prescaler = s.mga.prescaler := by
  unfold trapForFault; simp
@[simp] theorem trapForFault_mga_latch (k : FaultKind) (z : Zone) (s : State) : (trapForFault k z s).mga.latch = s.mga.latch := by
  unfold trapForFault; simp
@[simp] theorem trapForFault_mga_inReset (k : FaultKind) (z : Zone) (s : State) : (trapForFault k z s).mga.inReset = s.mga.inReset := by
  unfold trapForFault; simp
@[simp] theorem trapForFault_ev_passDue (k : FaultKind) (z : Zone) (s : State) : (trapForFault k z s).ev.passDue = s.ev.passDue := by
  unfold trapForFault; simp
@[simp] theorem trapForFault_ev_diqClaim (k : FaultKind) (z : Zone) (s : State) : (trapForFault k z s).ev.diqClaim = s.ev.diqClaim := by
  unfold trapForFault; simp

@[simp] theorem lineTrap_ptb (k : FaultKind) (s : State) : (lineTrap k s).ptb = s.ptb := by
  unfold lineTrap; simp
@[simp] theorem lineTrap_rcs (k : FaultKind) (s : State) : (lineTrap k s).rcs = s.rcs := by
  unfold lineTrap; simp
@[simp] theorem lineTrap_ilk (k : FaultKind) (s : State) : (lineTrap k s).ilk = s.ilk := by
  unfold lineTrap; simp
@[simp] theorem lineTrap_pending (k : FaultKind) (s : State) : (lineTrap k s).pending = s.pending := by
  unfold lineTrap; simp
@[simp] theorem lineTrap_chi_a (k : FaultKind) (s : State) : (lineTrap k s).chi.a = s.chi.a := by
  unfold lineTrap; simp
@[simp] theorem lineTrap_chi_b (k : FaultKind) (s : State) : (lineTrap k s).chi.b = s.chi.b := by
  unfold lineTrap; simp
@[simp] theorem lineTrap_chi_diq (k : FaultKind) (s : State) : (lineTrap k s).chi.diq = s.chi.diq := by
  unfold lineTrap; simp
@[simp] theorem lineTrap_chi_uiq (k : FaultKind) (s : State) : (lineTrap k s).chi.uiq = s.chi.uiq := by
  unfold lineTrap; simp
@[simp] theorem lineTrap_chi_ugq (k : FaultKind) (s : State) : (lineTrap k s).chi.ugq = s.chi.ugq := by
  unfold lineTrap; simp
@[simp] theorem lineTrap_chi_lastServed (k : FaultKind) (s : State) : (lineTrap k s).chi.lastServed = s.chi.lastServed := by
  unfold lineTrap; simp
@[simp] theorem lineTrap_chi_sent (k : FaultKind) (s : State) : (lineTrap k s).chi.sent = s.chi.sent := by
  unfold lineTrap; simp
@[simp] theorem lineTrap_chi_owed (k : FaultKind) (s : State) : (lineTrap k s).chi.owed = s.chi.owed := by
  unfold lineTrap; simp
@[simp] theorem lineTrap_chi_softHold (k : FaultKind) (s : State) : (lineTrap k s).chi.softHold = s.chi.softHold := by
  unfold lineTrap; simp
@[simp] theorem lineTrap_mga_node (k : FaultKind) (s : State) : (lineTrap k s).mga.node = s.mga.node := by
  unfold lineTrap; simp
@[simp] theorem lineTrap_mga_controller (k : FaultKind) (s : State) : (lineTrap k s).mga.controller = s.mga.controller := by
  unfold lineTrap; simp
@[simp] theorem lineTrap_mga_noticeMask (k : FaultKind) (s : State) : (lineTrap k s).mga.noticeMask = s.mga.noticeMask := by
  unfold lineTrap; simp
@[simp] theorem lineTrap_mga_attnMask (k : FaultKind) (s : State) : (lineTrap k s).mga.attnMask = s.mga.attnMask := by
  unfold lineTrap; simp
@[simp] theorem lineTrap_mga_cause (k : FaultKind) (s : State) : (lineTrap k s).mga.cause = s.mga.cause := by
  unfold lineTrap; simp
@[simp] theorem lineTrap_mga_time (k : FaultKind) (s : State) : (lineTrap k s).mga.time = s.mga.time := by
  unfold lineTrap; simp
@[simp] theorem lineTrap_mga_prescaler (k : FaultKind) (s : State) : (lineTrap k s).mga.prescaler = s.mga.prescaler := by
  unfold lineTrap; simp
@[simp] theorem lineTrap_mga_latch (k : FaultKind) (s : State) : (lineTrap k s).mga.latch = s.mga.latch := by
  unfold lineTrap; simp
@[simp] theorem lineTrap_mga_inReset (k : FaultKind) (s : State) : (lineTrap k s).mga.inReset = s.mga.inReset := by
  unfold lineTrap; simp
@[simp] theorem lineTrap_ev_passDue (k : FaultKind) (s : State) : (lineTrap k s).ev.passDue = s.ev.passDue := by
  unfold lineTrap; simp
@[simp] theorem lineTrap_ev_diqClaim (k : FaultKind) (s : State) : (lineTrap k s).ev.diqClaim = s.ev.diqClaim := by
  unfold lineTrap; simp

@[simp] theorem enterRestricted_ptb (s : State) : (enterRestricted s).ptb = s.ptb := by
  rfl
@[simp] theorem enterRestricted_rcs (s : State) : (enterRestricted s).rcs = s.rcs := by
  rfl
@[simp] theorem enterRestricted_ilk (s : State) : (enterRestricted s).ilk = s.ilk := by
  rfl
@[simp] theorem enterRestricted_pending (s : State) : (enterRestricted s).pending = s.pending := by
  rfl
@[simp] theorem enterRestricted_stb (s : State) : (enterRestricted s).stb = s.stb := by
  rfl
@[simp] theorem enterRestricted_idx (s : State) : (enterRestricted s).idx = s.idx := by
  rfl
@[simp] theorem enterRestricted_mrt (s : State) : (enterRestricted s).mrt = s.mrt := by
  rfl
@[simp] theorem enterRestricted_trp (s : State) : (enterRestricted s).trp = s.trp := by
  rfl
@[simp] theorem enterRestricted_lmn (s : State) : (enterRestricted s).lmn = s.lmn := by
  rfl
@[simp] theorem enterRestricted_chi (s : State) : (enterRestricted s).chi = s.chi := by
  rfl
@[simp] theorem enterRestricted_mga (s : State) : (enterRestricted s).mga = s.mga := by
  rfl
@[simp] theorem enterRestricted_ev (s : State) : (enterRestricted s).ev = s.ev := by
  rfl

@[simp] theorem react_ptb (k : FaultKind) (l : Level) (st : Option Stn) (s : State) : (react k l st s).ptb = s.ptb := by
  unfold react; split <;> simp
@[simp] theorem react_rcs (k : FaultKind) (l : Level) (st : Option Stn) (s : State) : (react k l st s).rcs = s.rcs := by
  unfold react; split <;> simp
@[simp] theorem react_ilk (k : FaultKind) (l : Level) (st : Option Stn) (s : State) : (react k l st s).ilk = s.ilk := by
  unfold react; split <;> simp
@[simp] theorem react_pending (k : FaultKind) (l : Level) (st : Option Stn) (s : State) : (react k l st s).pending = s.pending := by
  unfold react; split <;> simp
@[simp] theorem react_chi_a (k : FaultKind) (l : Level) (st : Option Stn) (s : State) : (react k l st s).chi.a = s.chi.a := by
  unfold react; split <;> simp
@[simp] theorem react_chi_b (k : FaultKind) (l : Level) (st : Option Stn) (s : State) : (react k l st s).chi.b = s.chi.b := by
  unfold react; split <;> simp
@[simp] theorem react_chi_diq (k : FaultKind) (l : Level) (st : Option Stn) (s : State) : (react k l st s).chi.diq = s.chi.diq := by
  unfold react; split <;> simp
@[simp] theorem react_chi_uiq (k : FaultKind) (l : Level) (st : Option Stn) (s : State) : (react k l st s).chi.uiq = s.chi.uiq := by
  unfold react; split <;> simp
@[simp] theorem react_chi_ugq (k : FaultKind) (l : Level) (st : Option Stn) (s : State) : (react k l st s).chi.ugq = s.chi.ugq := by
  unfold react; split <;> simp
@[simp] theorem react_chi_lastServed (k : FaultKind) (l : Level) (st : Option Stn) (s : State) : (react k l st s).chi.lastServed = s.chi.lastServed := by
  unfold react; split <;> simp
@[simp] theorem react_chi_sent (k : FaultKind) (l : Level) (st : Option Stn) (s : State) : (react k l st s).chi.sent = s.chi.sent := by
  unfold react; split <;> simp
@[simp] theorem react_chi_owed (k : FaultKind) (l : Level) (st : Option Stn) (s : State) : (react k l st s).chi.owed = s.chi.owed := by
  unfold react; split <;> simp
@[simp] theorem react_chi_softHold (k : FaultKind) (l : Level) (st : Option Stn) (s : State) : (react k l st s).chi.softHold = s.chi.softHold := by
  unfold react; split <;> simp
@[simp] theorem react_mga_node (k : FaultKind) (l : Level) (st : Option Stn) (s : State) : (react k l st s).mga.node = s.mga.node := by
  unfold react; split <;> simp
@[simp] theorem react_mga_controller (k : FaultKind) (l : Level) (st : Option Stn) (s : State) : (react k l st s).mga.controller = s.mga.controller := by
  unfold react; split <;> simp
@[simp] theorem react_mga_noticeMask (k : FaultKind) (l : Level) (st : Option Stn) (s : State) : (react k l st s).mga.noticeMask = s.mga.noticeMask := by
  unfold react; split <;> simp
@[simp] theorem react_mga_attnMask (k : FaultKind) (l : Level) (st : Option Stn) (s : State) : (react k l st s).mga.attnMask = s.mga.attnMask := by
  unfold react; split <;> simp
@[simp] theorem react_mga_cause (k : FaultKind) (l : Level) (st : Option Stn) (s : State) : (react k l st s).mga.cause = s.mga.cause := by
  unfold react; split <;> simp
@[simp] theorem react_mga_time (k : FaultKind) (l : Level) (st : Option Stn) (s : State) : (react k l st s).mga.time = s.mga.time := by
  unfold react; split <;> simp
@[simp] theorem react_mga_prescaler (k : FaultKind) (l : Level) (st : Option Stn) (s : State) : (react k l st s).mga.prescaler = s.mga.prescaler := by
  unfold react; split <;> simp
@[simp] theorem react_mga_latch (k : FaultKind) (l : Level) (st : Option Stn) (s : State) : (react k l st s).mga.latch = s.mga.latch := by
  unfold react; split <;> simp
@[simp] theorem react_mga_inReset (k : FaultKind) (l : Level) (st : Option Stn) (s : State) : (react k l st s).mga.inReset = s.mga.inReset := by
  unfold react; split <;> simp
@[simp] theorem react_ev_passDue (k : FaultKind) (l : Level) (st : Option Stn) (s : State) : (react k l st s).ev.passDue = s.ev.passDue := by
  unfold react; split <;> simp
@[simp] theorem react_ev_diqClaim (k : FaultKind) (l : Level) (st : Option Stn) (s : State) : (react k l st s).ev.diqClaim = s.ev.diqClaim := by
  unfold react; split <;> simp

@[simp] theorem recordFault_ptb (k : FaultKind) (st : Option Stn) (p : Tag) (s : State) : (recordFault k st p s).ptb = s.ptb := by
  unfold recordFault; dsimp only; split <;> simp
@[simp] theorem recordFault_rcs (k : FaultKind) (st : Option Stn) (p : Tag) (s : State) : (recordFault k st p s).rcs = s.rcs := by
  unfold recordFault; dsimp only; split <;> simp
@[simp] theorem recordFault_ilk (k : FaultKind) (st : Option Stn) (p : Tag) (s : State) : (recordFault k st p s).ilk = s.ilk := by
  unfold recordFault; dsimp only; split <;> simp
@[simp] theorem recordFault_pending (k : FaultKind) (st : Option Stn) (p : Tag) (s : State) : (recordFault k st p s).pending = s.pending := by
  unfold recordFault; dsimp only; split <;> simp
@[simp] theorem recordFault_stb (k : FaultKind) (st : Option Stn) (p : Tag) (s : State) : (recordFault k st p s).stb = s.stb := by
  unfold recordFault; dsimp only; split <;> simp
@[simp] theorem recordFault_idx (k : FaultKind) (st : Option Stn) (p : Tag) (s : State) : (recordFault k st p s).idx = s.idx := by
  unfold recordFault; dsimp only; split <;> simp
@[simp] theorem recordFault_entries (k : FaultKind) (st : Option Stn) (p : Tag) (s : State) : (recordFault k st p s).mrt.entries = s.mrt.entries := by
  unfold recordFault; dsimp only; split <;> simp
@[simp] theorem recordFault_trp (k : FaultKind) (st : Option Stn) (p : Tag) (s : State) : (recordFault k st p s).trp = s.trp := by
  unfold recordFault; dsimp only; split <;> simp
@[simp] theorem recordFault_chi_a (k : FaultKind) (st : Option Stn) (p : Tag) (s : State) : (recordFault k st p s).chi.a = s.chi.a := by
  unfold recordFault; dsimp only; split <;> simp
@[simp] theorem recordFault_chi_b (k : FaultKind) (st : Option Stn) (p : Tag) (s : State) : (recordFault k st p s).chi.b = s.chi.b := by
  unfold recordFault; dsimp only; split <;> simp
@[simp] theorem recordFault_chi_diq (k : FaultKind) (st : Option Stn) (p : Tag) (s : State) : (recordFault k st p s).chi.diq = s.chi.diq := by
  unfold recordFault; dsimp only; split <;> simp
@[simp] theorem recordFault_chi_uiq (k : FaultKind) (st : Option Stn) (p : Tag) (s : State) : (recordFault k st p s).chi.uiq = s.chi.uiq := by
  unfold recordFault; dsimp only; split <;> simp
@[simp] theorem recordFault_chi_ugq (k : FaultKind) (st : Option Stn) (p : Tag) (s : State) : (recordFault k st p s).chi.ugq = s.chi.ugq := by
  unfold recordFault; dsimp only; split <;> simp
@[simp] theorem recordFault_chi_lastServed (k : FaultKind) (st : Option Stn) (p : Tag) (s : State) : (recordFault k st p s).chi.lastServed = s.chi.lastServed := by
  unfold recordFault; dsimp only; split <;> simp
@[simp] theorem recordFault_chi_sent (k : FaultKind) (st : Option Stn) (p : Tag) (s : State) : (recordFault k st p s).chi.sent = s.chi.sent := by
  unfold recordFault; dsimp only; split <;> simp
@[simp] theorem recordFault_chi_owed (k : FaultKind) (st : Option Stn) (p : Tag) (s : State) : (recordFault k st p s).chi.owed = s.chi.owed := by
  unfold recordFault; dsimp only; split <;> simp
@[simp] theorem recordFault_chi_softHold (k : FaultKind) (st : Option Stn) (p : Tag) (s : State) : (recordFault k st p s).chi.softHold = s.chi.softHold := by
  unfold recordFault; dsimp only; split <;> simp
@[simp] theorem recordFault_chi_deq (k : FaultKind) (st : Option Stn) (p : Tag) (s : State) : (recordFault k st p s).chi.deq = s.chi.deq := by
  unfold recordFault; dsimp only; split <;> simp
@[simp] theorem recordFault_mga_node (k : FaultKind) (st : Option Stn) (p : Tag) (s : State) : (recordFault k st p s).mga.node = s.mga.node := by
  unfold recordFault; dsimp only; split <;> simp
@[simp] theorem recordFault_mga_controller (k : FaultKind) (st : Option Stn) (p : Tag) (s : State) : (recordFault k st p s).mga.controller = s.mga.controller := by
  unfold recordFault; dsimp only; split <;> simp
@[simp] theorem recordFault_mga_noticeMask (k : FaultKind) (st : Option Stn) (p : Tag) (s : State) : (recordFault k st p s).mga.noticeMask = s.mga.noticeMask := by
  unfold recordFault; dsimp only; split <;> simp
@[simp] theorem recordFault_mga_attnMask (k : FaultKind) (st : Option Stn) (p : Tag) (s : State) : (recordFault k st p s).mga.attnMask = s.mga.attnMask := by
  unfold recordFault; dsimp only; split <;> simp
@[simp] theorem recordFault_mga_cause (k : FaultKind) (st : Option Stn) (p : Tag) (s : State) : (recordFault k st p s).mga.cause = s.mga.cause := by
  unfold recordFault; dsimp only; split <;> simp
@[simp] theorem recordFault_mga_time (k : FaultKind) (st : Option Stn) (p : Tag) (s : State) : (recordFault k st p s).mga.time = s.mga.time := by
  unfold recordFault; dsimp only; split <;> simp
@[simp] theorem recordFault_mga_prescaler (k : FaultKind) (st : Option Stn) (p : Tag) (s : State) : (recordFault k st p s).mga.prescaler = s.mga.prescaler := by
  unfold recordFault; dsimp only; split <;> simp
@[simp] theorem recordFault_mga_latch (k : FaultKind) (st : Option Stn) (p : Tag) (s : State) : (recordFault k st p s).mga.latch = s.mga.latch := by
  unfold recordFault; dsimp only; split <;> simp
@[simp] theorem recordFault_mga_inReset (k : FaultKind) (st : Option Stn) (p : Tag) (s : State) : (recordFault k st p s).mga.inReset = s.mga.inReset := by
  unfold recordFault; dsimp only; split <;> simp
@[simp] theorem recordFault_ev_passDue (k : FaultKind) (st : Option Stn) (p : Tag) (s : State) : (recordFault k st p s).ev.passDue = s.ev.passDue := by
  unfold recordFault; dsimp only; split <;> simp
@[simp] theorem recordFault_ev_diqClaim (k : FaultKind) (st : Option Stn) (p : Tag) (s : State) : (recordFault k st p s).ev.diqClaim = s.ev.diqClaim := by
  unfold recordFault; dsimp only; split <;> simp

@[simp] theorem occur_ptb (k : FaultKind) (st : Option Stn) (p : Tag) (s : State) : (occur k st p s).ptb = s.ptb := by
  unfold occur; simp
@[simp] theorem occur_rcs (k : FaultKind) (st : Option Stn) (p : Tag) (s : State) : (occur k st p s).rcs = s.rcs := by
  unfold occur; simp
@[simp] theorem occur_ilk (k : FaultKind) (st : Option Stn) (p : Tag) (s : State) : (occur k st p s).ilk = s.ilk := by
  unfold occur; simp
@[simp] theorem occur_pending (k : FaultKind) (st : Option Stn) (p : Tag) (s : State) : (occur k st p s).pending = s.pending := by
  unfold occur; simp
@[simp] theorem occur_chi_a (k : FaultKind) (st : Option Stn) (p : Tag) (s : State) : (occur k st p s).chi.a = s.chi.a := by
  unfold occur; simp
@[simp] theorem occur_chi_b (k : FaultKind) (st : Option Stn) (p : Tag) (s : State) : (occur k st p s).chi.b = s.chi.b := by
  unfold occur; simp
@[simp] theorem occur_chi_diq (k : FaultKind) (st : Option Stn) (p : Tag) (s : State) : (occur k st p s).chi.diq = s.chi.diq := by
  unfold occur; simp
@[simp] theorem occur_chi_uiq (k : FaultKind) (st : Option Stn) (p : Tag) (s : State) : (occur k st p s).chi.uiq = s.chi.uiq := by
  unfold occur; simp
@[simp] theorem occur_chi_ugq (k : FaultKind) (st : Option Stn) (p : Tag) (s : State) : (occur k st p s).chi.ugq = s.chi.ugq := by
  unfold occur; simp
@[simp] theorem occur_chi_lastServed (k : FaultKind) (st : Option Stn) (p : Tag) (s : State) : (occur k st p s).chi.lastServed = s.chi.lastServed := by
  unfold occur; simp
@[simp] theorem occur_chi_sent (k : FaultKind) (st : Option Stn) (p : Tag) (s : State) : (occur k st p s).chi.sent = s.chi.sent := by
  unfold occur; simp
@[simp] theorem occur_chi_owed (k : FaultKind) (st : Option Stn) (p : Tag) (s : State) : (occur k st p s).chi.owed = s.chi.owed := by
  unfold occur; simp
@[simp] theorem occur_chi_softHold (k : FaultKind) (st : Option Stn) (p : Tag) (s : State) : (occur k st p s).chi.softHold = s.chi.softHold := by
  unfold occur; simp
@[simp] theorem occur_mga_node (k : FaultKind) (st : Option Stn) (p : Tag) (s : State) : (occur k st p s).mga.node = s.mga.node := by
  unfold occur; simp
@[simp] theorem occur_mga_controller (k : FaultKind) (st : Option Stn) (p : Tag) (s : State) : (occur k st p s).mga.controller = s.mga.controller := by
  unfold occur; simp
@[simp] theorem occur_mga_noticeMask (k : FaultKind) (st : Option Stn) (p : Tag) (s : State) : (occur k st p s).mga.noticeMask = s.mga.noticeMask := by
  unfold occur; simp
@[simp] theorem occur_mga_attnMask (k : FaultKind) (st : Option Stn) (p : Tag) (s : State) : (occur k st p s).mga.attnMask = s.mga.attnMask := by
  unfold occur; simp
@[simp] theorem occur_mga_cause (k : FaultKind) (st : Option Stn) (p : Tag) (s : State) : (occur k st p s).mga.cause = s.mga.cause := by
  unfold occur; simp
@[simp] theorem occur_mga_time (k : FaultKind) (st : Option Stn) (p : Tag) (s : State) : (occur k st p s).mga.time = s.mga.time := by
  unfold occur; simp
@[simp] theorem occur_mga_prescaler (k : FaultKind) (st : Option Stn) (p : Tag) (s : State) : (occur k st p s).mga.prescaler = s.mga.prescaler := by
  unfold occur; simp
@[simp] theorem occur_mga_latch (k : FaultKind) (st : Option Stn) (p : Tag) (s : State) : (occur k st p s).mga.latch = s.mga.latch := by
  unfold occur; simp
@[simp] theorem occur_mga_inReset (k : FaultKind) (st : Option Stn) (p : Tag) (s : State) : (occur k st p s).mga.inReset = s.mga.inReset := by
  unfold occur; simp
@[simp] theorem occur_ev_passDue (k : FaultKind) (st : Option Stn) (p : Tag) (s : State) : (occur k st p s).ev.passDue = s.ev.passDue := by
  unfold occur; simp
@[simp] theorem occur_ev_diqClaim (k : FaultKind) (st : Option Stn) (p : Tag) (s : State) : (occur k st p s).ev.diqClaim = s.ev.diqClaim := by
  unfold occur; simp

/-! ### Orders -/

theorem mem_insertBy {α : Type} (before : α → α → Bool) (x y : α) (l : List α) :
    y ∈ insertBy before x l ↔ y = x ∨ y ∈ l := by
  induction l with
  | nil => simp [insertBy]
  | cons a l ih =>
    unfold insertBy
    split
    · simp only [List.mem_cons, ih]; tauto
    · simp

/-- Sorting keeps the elements. -/
theorem mem_sortBy {α : Type} {before : α → α → Bool} {xs : List α} {y : α} : y ∈ sortBy before xs ↔ y ∈ xs := by
  have key : ∀ (l acc : List α), y ∈ l.foldl (fun acc x => insertBy (fun y x => !before x y) x acc) acc ↔ y ∈ l ∨ y ∈ acc := by
    intro l
    induction l with
    | nil => simp
    | cons a l ih => intro acc; rw [List.foldl_cons, ih, mem_insertBy, List.mem_cons]; tauto
  simpa [sortBy] using key xs []

/-! ### The DEQ (R14) -/

/-- The state with messages placed at the tail of the DEQ. -/
def withDeq (s : State) (q : List DeqItem) : State := { s with chi := { s.chi with deq := s.chi.deq ++ q } }

/-- The command of an entry that stands in the table, as one DEQ item; nothing for a free entry. -/
theorem enqueueCommand_eq (e : EntryNo) (s : State) :
    ∃ q, enqueueCommand e s = withDeq s q ∧ q.length ≤ 1 ∧ ∀ d ∈ q, d.entry = some e := by
  unfold enqueueCommand
  split
  · exact ⟨[_], rfl, by simp, by simp⟩
  · exact ⟨[], by simp [withDeq], by simp, by simp⟩

theorem withDeq_append (s : State) (p q : List DeqItem) : withDeq (withDeq s p) q = withDeq s (p ++ q) := by
  simp [withDeq]

theorem foldl_enqueueCommand_eq (l : List EntryNo) (s : State) :
    ∃ q, l.foldl (fun x e => enqueueCommand e x) s = withDeq s q ∧ q.length ≤ l.length
      ∧ ∀ d ∈ q, ∃ e ∈ l, d.entry = some e := by
  induction l generalizing s with
  | nil => exact ⟨[], by simp [withDeq], by simp, by simp⟩
  | cons e l ih =>
    obtain ⟨p, hp, hl, he⟩ := enqueueCommand_eq e s
    obtain ⟨q, hq, hm, hf⟩ := ih (withDeq s p)
    refine ⟨p ++ q, ?_, ?_, ?_⟩
    · rw [List.foldl_cons, hp, hq, withDeq_append]
    · simp only [List.length_append, List.length_cons]; omega
    · intro d hd
      rcases List.mem_append.mp hd with h | h
      · exact ⟨e, by simp, he d h⟩
      · obtain ⟨x, hx, hd⟩ := hf d h
        exact ⟨x, by simp [hx], hd⟩

/-- Serving the SENDING entries that wait places at most as many commands in the DEQ as it has room for. -/
theorem serveSending_eq (s : State) :
    ∃ q, serveSending s = withDeq s q ∧ q.length ≤ deqRoom s ∧ ∀ d ∈ q, ∃ e ∈ sendingWaiters s, d.entry = some e := by
  obtain ⟨q, hq, hl, he⟩ :=
    foldl_enqueueCommand_eq ((sortBy (acceptedBefore s) (sendingWaiters s)).take (deqRoom s)) s
  refine ⟨q, hq, ?_, ?_⟩
  · exact Nat.le_trans hl (by simp)
  · intro d hd
    obtain ⟨e, h, hd⟩ := he d hd
    exact ⟨e, mem_sortBy.mp (List.mem_of_mem_take h), hd⟩

/-- A PASS makes the entry SENDING and places commands in the DEQ within its room, those of the entries that wait first. -/
theorem startSending_eq (e : EntryNo) (s : State) :
    ∃ q, startSending e s = withDeq (s.modEntry e (fun en => { en with estate := .sending })) q ∧ q.length ≤ deqRoom s
      ∧ ∀ d ∈ q, d.entry = some e ∨ ∃ x ∈ sendingWaiters s, d.entry = some x := by
  obtain ⟨q, hq, hl, he⟩ := serveSending_eq s
  have hm : (withDeq s q).modEntry e (fun en => { en with estate := .sending })
      = withDeq (s.modEntry e (fun en => { en with estate := .sending })) q := rfl
  have hr : deqRoom (withDeq (s.modEntry e (fun en => { en with estate := .sending })) q) = deqRoom s - q.length := by
    show Config.deqCap - (s.chi.deq ++ q).length = Config.deqCap - s.chi.deq.length - q.length
    rw [List.length_append]; omega
  unfold startSending
  simp only [hq, hm]
  split
  · rename_i h
    obtain ⟨p, hp, hl', he'⟩ := enqueueCommand_eq e (withDeq (s.modEntry e (fun en => { en with estate := .sending })) q)
    refine ⟨q ++ p, by rw [hp, withDeq_append], ?_, ?_⟩
    · rw [hr] at h; rw [List.length_append]; omega
    · intro d hd
      rcases List.mem_append.mp hd with h | h
      · exact .inr (he d h)
      · exact .inl (he' d h)
  · exact ⟨q, rfl, hl, fun d hd => .inr (he d hd)⟩

/-! ### The pallet table (R29) -/

/-- A RELEASE that is transmitted changes the pallet table, and beyond it at most what a fault occurrence does. -/
theorem sendToward_cases (t : Tag) (r : Record) (dest : Word) (s : State) :
    (∃ ptb, (sendToward t r dest s).1 = { s with ptb := ptb })
      ∨ ∃ ptb st, (sendToward t r dest s).1 = occur fPalletLost st t { s with ptb := ptb } := by
  have hl : ∀ s, ∃ ptb, leaveOld r s = { s with ptb := ptb } := by
    intro s; unfold leaveOld; split
    · exact ⟨_, rfl⟩
    · exact ⟨s.ptb, rfl⟩
  have hm : ∀ f s, ∃ ptb, modRecord t f s = { s with ptb := ptb } := by
    intro f s; unfold modRecord; split
    · exact ⟨_, rfl⟩
    · exact ⟨s.ptb, rfl⟩
  obtain ⟨p, hp⟩ := hl s
  unfold sendToward
  simp only [hp]
  split
  · obtain ⟨q, hq⟩ := hm (fun r => { r with rstate := .lost (destStn? dest) }) { s with ptb := p }
    exact .inr ⟨q, _, by rw [hq]⟩
  · split
    · rename_i d _ _
      obtain ⟨q, hq⟩ := hm (fun r => { r with
        rstate := .transit d (after ({ s with ptb := p } : State).now
          (({ s with ptb := p } : State).station d).cfg.transitLimit)
        lastSeen := ({ s with ptb := p } : State).now }) { s with ptb := p }
      exact .inl ⟨_, by rw [hq]; rfl⟩
    · obtain ⟨q, hq⟩ := hm (fun r => { r with rstate := .lost (destStn? dest) }) { s with ptb := p }
      exact .inr ⟨q, _, by rw [hq]⟩

/-! ### The return to NORMAL -/

@[simp] theorem presentWaiters_chi (s : State) : (presentWaiters s).chi = s.chi := rfl
@[simp] theorem presentWaiters_mga (s : State) : (presentWaiters s).mga = s.mga := rfl
@[simp] theorem presentWaiters_ptb (s : State) : (presentWaiters s).ptb = s.ptb := rfl
@[simp] theorem presentWaiters_rcs (s : State) : (presentWaiters s).rcs = s.rcs := rfl
@[simp] theorem presentWaiters_stb (s : State) : (presentWaiters s).stb = s.stb := rfl
@[simp] theorem presentWaiters_mrt (s : State) : (presentWaiters s).mrt = s.mrt := rfl
@[simp] theorem presentWaiters_ilk (s : State) : (presentWaiters s).ilk = s.ilk := rfl
@[simp] theorem presentWaiters_trp (s : State) : (presentWaiters s).trp = s.trp := rfl
@[simp] theorem presentWaiters_fcu (s : State) : (presentWaiters s).fcu = s.fcu := rfl
@[simp] theorem presentWaiters_lmn (s : State) : (presentWaiters s).lmn = s.lmn := rfl
@[simp] theorem presentWaiters_pending (s : State) : (presentWaiters s).pending = s.pending := rfl
@[simp] theorem presentWaiters_ev (s : State) : (presentWaiters s).ev = s.ev := rfl

/-- R85, R169: the waiters presented anew keep everything but their place. -/
theorem presentWaiters_proc (s : State) (st : Stn) :
    (presentWaiters s).proc st = if (s.proc st).wait = .entry then { s.proc st with place := plainPlace } else s.proc st := by
  simp only [presentWaiters, State.proc, Vector.get_eq_getElem, Vector.getElem_map]
  split <;> simp_all

/-- R85: where no station waits ENTRY the return to NORMAL presents none. -/
theorem presentWaiters_of_none {s : State} (h : ∀ st, (s.proc st).wait ≠ .entry) : presentWaiters s = s := by
  have : s.idx.procs.map (fun p => if p.wait = .entry then { p with place := plainPlace } else p) = s.idx.procs := by
    apply Vector.ext
    intro i hi
    have := h ⟨i, hi⟩
    simp only [State.proc, Vector.get_eq_getElem] at this
    simp [this]
  unfold presentWaiters
  rw [this]

end Sys2Proof.Machine
end

