-- ==== Sys2Proof/WellFormed.lean ====
section
/-! DEFINITION. Which commands are well formed: a command that receives a message carries an intact one (R2) of its own
row's kind (R11), and a power-on or pin reset reads a strap value, any of 0..63 (R185). The device answers an ill-formed
term too (see exec): an unsound message is discarded (R2), and a message of another kind is no event of that row. -/

namespace Sys2Proof

/-- The message of a report row: intact, and of the row's kind. -/
def reportWF (k : Byte) (m : Msg) : Bool := m.intact && m.kind == k

/-- A command's operands are those its row can have. -/
def WellFormed (i : Instr) : Bool :=
  match i with
  | .downlaneReceive m => m.intact
  | .tagReport m => reportWF kTag m
  | .atReport m => reportWF kAt m
  | .clampedReport m => reportWF kClamped m
  | .toolReport m => reportWF kTool m
  | .cycleEndReport m => reportWF kCycleEnd m
  | .goneReport m => reportWF kGone m
  | .nodeFaultReport m => reportWF kNodeFault m
  | .uplaneForward m => m.intact
  | .powerOnReset _ _ _ => true
  | .pinReset _ => true
  | .linkUp _ => true
  | .linkDown _ => true
  | .trapInputChange _ => true
  | .trapFilterAssert _ => true
  | .trapFilterRelease _ => true
  | .timeTick => true
  | .integrityScan => true
  | .transitExpiry _ => true
  | .settleExpiry _ => true
  | .entryDeadlineExpiry _ => true
  | .deferExpiry _ => true
  | .escalation _ => true
  | .messageDiscarded _ => true
  | .hold => true
  | .resume => true
  | .clamp => true
  | .cycle => true
  | .release => true
  | .jog => true
  | .refer => true
  | .move => true
  | .stop => true
  | .abort => true
  | .statusReq => true
  | .downlaneForward => true
  | .tblRead => true
  | .tblWrite => true
  | .wideHighWordWrite => true
  | .recipeWrite => true
  | .stationConfigWrite => true
  | .windLimitToleranceWrite => true
  | .zoneWrite => true
  | .approachCapacityWrite => true
  | .designationWrite => true
  | .controllerNodeWrite => true
  | .eventSummaryWrite => true
  | .maskWrite => true
  | .filterWrite => true
  | .exitModeWrite => true
  | .interlockWrite => true
  | .reactionWrite => true
  | .counterConfigWrite => true
  | .palletRecordWrite => true
  | .index => true
  | .cancel => true
  | .mode => true
  | .forget => true
  | .find => true
  | .commit => true
  | .discard => true
  | .freeze => true
  | .trapSet => true
  | .trapAck => true
  | .faultAck => true
  | .clearCounts => true
  | .recover => true
  | .snapshot => true
  | .clearCounters => true
  | .setTime => true
  | .reset => true
  | .portATransmit _ => true
  | .portBHold _ => true
  | .portBResume _ => true
  | .stopAbortTransmit _ => true
  | .deqTransmit _ => true
  | .owedStatusReqEnqueue => true
  | .sendingEntryEnqueue => true
  | .keptRefusalDelivery => true
  | .ingressPlaceClaim _ => true
  | .transmissionEnd _ => true
  | .resetInputLow => true
  | .unknownActionCode => true

end Sys2Proof
end

