-- ==== Sys2Proof/Tests/Slice0.lean ====
section
/-! SUPPORT. Tests: the manual's own examples, the smoke tests of `WellFormed`, and for every statement that has hypotheses
a concrete state and operands that meet them. -/

namespace Sys2Proof.Tests
open Sys2Proof.Machine

-- One declaration after another: each of these computations on its own thread would take the memory of them all.
set_option Elab.async false

/-! ### The manual's examples -/

/-- Section 1.2: the CRC of the nine characters 123456789 is 0x29B1. -/
theorem test_crc_check_string :
    crcBits 8 0x39 (crcWords [0x3132, 0x3334, 0x3536, 0x3738] 0xFFFF) = 0x29B1 := by decide +kernel

/-- A station whose stop 3 and zero offset are as given. -/
def fixture (n z : Angle) : StationCfg := { defaultCfg 6 with stops := Vector.replicate 8 n, zero := z }

/-- Section 6.1.1: the four rows of the table of target examples. -/
theorem test_targets :
    targetOf (fixture 16384 65000) 3 (-600) = 15248 ∧ targetOf (fixture 100 0) 3 (-512) = 65124
    ∧ targetOf (fixture 30000 0) 3 0 = 30000 ∧ targetOf (fixture 65535 65535) 3 2047 = 2045 := by decide +kernel

/-- Section 6.6.1's station 6. -/
def station6 : Station :=
  { resetStation 6 with
    cfg := { fixture 16384 65000 with tol := 40, rate := 96, accel := 150 }
    c := 62000, w := 120000, referenced := true }

/-- Section 6.6.1: reverse, distance 46752, timeout 797 ms, argB 0x8003. -/
theorem test_planned_move :
    planMove station6 15248 = { rev := true, dist := 46752, start := 62000, timeout := some 797 }
    ∧ moveArgB 3 (planMove station6 15248) = 0x8003 := by decide +kernel

/-! ### Ill-formed commands -/

/-- A report with the fields a test needs. -/
def report (kind station : Byte) (src : Node) (pallet : Tag) (argA argB : Word) : Msg :=
  mkMsg 0 0 src kind station pallet argA argB

/-- The same with its CRC field wrong (R2). -/
def broken (m : Msg) : Msg := { m with crc := m.crc + 1 }

/-- Every row that receives a message refuses one that is not intact. -/
theorem test_wellFormed_crc :
    [Instr.downlaneReceive (broken (report kTag 1 3 7 0 0)), .uplaneForward (broken (report kTag 1 3 7 0 0)),
      .tagReport (broken (report kTag 1 3 7 0 0)), .atReport (broken (report kAt 1 3 7 0 0)),
      .clampedReport (broken (report kClamped 1 3 7 0 0)), .toolReport (broken (report kTool 1 3 7 0 0)),
      .cycleEndReport (broken (report kCycleEnd 1 3 7 0 0)), .goneReport (broken (report kGone 1 3 7 0 0)),
      .nodeFaultReport (broken (report kNodeFault 1 3 7 0 0))].all (fun i => !WellFormed i) = true := by
  decide +kernel

/-- Every report row refuses a message of another kind (R11). -/
theorem test_wellFormed_kind :
    [Instr.tagReport (report kAt 1 3 7 0 0), .atReport (report kTag 1 3 7 0 0), .clampedReport (report kAt 1 3 7 0 0),
      .toolReport (report kAt 1 3 7 0 0), .cycleEndReport (report kAt 1 3 7 0 0), .goneReport (report kAt 1 3 7 0 0),
      .nodeFaultReport (report kAt 1 3 7 0 0)].all (fun i => !WellFormed i) = true := by
  decide +kernel

theorem test_wellFormed_accepts :
    WellFormed (.tagReport (report kTag 1 3 7 0 0)) = true
    ∧ WellFormed (.downlaneReceive (report kHold 1 3 7 0 0)) = true := by decide +kernel

/-! ### Small states -/

/-- A message to `dst` from `src`; its CRC field is not looked at once it is in a queue. -/
def msg (dst src : Node) (kind station : Byte) (pallet : Tag) (argA argB : Word) : Msg :=
  { prio := 0, dst, ign1 := 0, src, kind, station, ign2 := 0, pallet, argA, argB, crc := 0 }

/-- An ACTION from the controller. -/
def act (code : Word) (station : Byte) (argB : Word) : DiqItem :=
  { msg := msg 62 0 kAction station 0 code argB, arrival := 0 }

/-- A TBL_WRITE from the controller. -/
def write (table entry word : Nat) (v : Word) : DiqItem :=
  { msg := msg 62 0 kTblWrite 255 0 (BitVec.ofNat 16 (table * 4096 + entry * 32 + word)) v, arrival := 0 }

def read (table entry word : Nat) : DiqItem :=
  { msg := msg 62 0 kTblRead 255 0 (BitVec.ofNat 16 (table * 4096 + entry * 32 + word)) 0, arrival := 0 }

/-- A station request of the controller to a station with its node address after reset. -/
def request (kind : Byte) (st : Stn) (argA argB : Word) : DiqItem :=
  { msg := msg (BitVec.ofNat 6 (st.val + 2)) 0 kind (stnByte st) 0 argA argB, arrival := 0 }

/-- A request from node 9, which is not the controller. -/
def stranger (d : DiqItem) : DiqItem := { d with msg := { d.msg with src := 9 } }

def noCauses : ZoneCauses := { pin := false, fault := false, command := false, reset := false }
def noHolds : HoldCauses := { operator := false, trap := false, fault := false }

/-- The device out of reset: both links UP, both zones in RUN with their inputs high, no station held, nothing queued. -/
def line : State :=
  { State.reset with
    chi := { State.reset.chi with
      nq := []
      a := { up := true, claimed := false, tx := none }
      b := { up := true, claimed := false, tx := none } }
    stb := { State.reset.stb with stn := State.reset.stb.stn.map (fun r => { r with holds := noHolds }) }
    trp := { a := { resetZone true with causes := noCauses, filtered := false }
             b := { resetZone true with causes := noCauses, filtered := false } } }

/-- The message as the only one of the DIQ. -/
def asks (d : DiqItem) (s : State) : State := { s with chi := { s.chi with diq := [d] } }

/-- The state after a command, as long as it answers a next state. -/
def after (i : Instr) (s : State) : State :=
  match exec i s with
  | .next t => t
  | _ => s

def isNext (i : Instr) (s : State) : Bool :=
  match exec i s with
  | .next _ => true
  | _ => false

theorem exec_after {i : Instr} {s : State} (h : isNext i s = true) : exec i s = .next (after i s) := by
  unfold isNext at h
  unfold after
  split <;> simp_all

def withEntry (e : EntryNo) (en : Entry) (s : State) : State :=
  { s with mrt := { s.mrt with entries := upd s.mrt.entries e (fun _ => some en) } }

def withRecord (i : Slot) (r : Record) (s : State) : State :=
  { s with ptb := { s.ptb with slots := upd s.ptb.slots i (fun _ => some r) } }

/-- An entry of controller origin. -/
def entry (st : Stn) (p : Params) (es : EState) : Entry :=
  { station := st, params := p, origin := .controller, pallet := 7, received := none, estate := es, cancelReq := false,
    acceptance := 0, deadline := none, remaining := none, released := none }

def record (tag : Tag) (rs : RState) : Record :=
  { tag, variant := 0, generation := 1, offset := 0, rstate := rs, routeCursor := 0, opCursor := 0,
    quality := { offsetLimited := false, rejected := false, aborted := false, misrouted := false }, lastSeen := 0 }

/-- What holds of every element that is present. -/
theorem all_some {α : Type} {n : Nat} {v : Vector (Option α) n} {p : Fin n → α → Bool}
    (h : ∀ j, (v.get j).all (p j) = true) : ∀ j q, v.get j = some q → p j q = true := by
  intro j q hq
  have := h j
  rw [hq] at this
  simpa using this

/-- A record of tag `p` stands in slot `i` alone. -/
def aloneAt (p : Tag) (i : Slot) (s : State) : Bool :=
  (List.finRange 48).all (fun j => (s.ptb.slots.get j).all (fun q => decide (q.tag = p → j = i)))

theorem hasRecord {p : Tag} {i : Slot} {r : Record} {s : State} (h : s.ptb.slots.get i = some r) (ht : r.tag = p)
    (ha : aloneAt p i s = true) : HasRecord p i r s :=
  ⟨h, ht, fun j q hj hq =>
    of_decide_eq_true (all_some (v := s.ptb.slots) (p := fun j q => decide (q.tag = p → j = i))
      (fun j => by simpa [aloneAt] using List.all_eq_true.mp ha j (List.mem_finRange j)) j q hj) hq⟩

theorem noRecord {p : Tag} {s : State} (h : ∀ j, (s.ptb.slots.get j).all (fun q => decide (q.tag ≠ p)) = true) :
    NoRecord p s := fun j q hj =>
  of_decide_eq_true (all_some (v := s.ptb.slots) (p := fun _ q => decide (q.tag ≠ p)) h j q hj)

/-- Entry `e` is the only one of station `st`. -/
def onlyEntry (e : EntryNo) (st : Stn) (s : State) : Bool :=
  (List.finRange 24).all (fun j => (s.entry? j).all (fun q => decide (q.station = st → j = e)))

theorem leavesAlone {e : EntryNo} {en : Entry} {s : State}
    (h : en.origin = .controller ∧ (s.station en.station).pendingMode = none
      ∧ (∀ y, (s.proc y).wait = .nothing ∧ (s.proc y).due = none ∧ (s.proc y).replan = false)
      ∧ (freeEntry s).isSome = true) (ho : onlyEntry e en.station s = true) : LeavesAlone e en s :=
  ⟨h.1, h.2.1, h.2.2.1, fun j q hj hq =>
    of_decide_eq_true (all_some (v := s.mrt.entries) (p := fun j q => decide (q.station = en.station → j = e))
      (fun j => List.all_eq_true.mp ho j (List.mem_finRange j)) j q hj) hq, h.2.2.2⟩

/-- The holds of the stations end calmly where no entry is READY, every settle takes its time and no command is deferred. -/
theorem endsCalmly {ended : Stn → Prop} {s : State} (hd : s.ilk.deferred = [])
    (he : ∀ e, (s.entry? e).all (fun en => decide (en.estate ≠ .ready)) = true)
    (hs : ∀ x, (s.proc x).pstate = .settling → (s.station x).cfg.settle ≠ 0) : EndsCalmly ended s :=
  ⟨hd, fun e en h _ => of_decide_eq_true
    (all_some (v := s.mrt.entries) (p := fun _ (en : Entry) => decide (en.estate ≠ .ready)) he e en h), fun x _ => hs x⟩

/-! ### What is due -/

/-- Whether a command of the time has something to do. -/
def dueNow (s : State) : Instr → Bool
  | .trapFilterAssert z => assertDue s z
  | .trapFilterRelease z => releaseDue s z
  | .transitExpiry i => (s.ptb.slots.get i).any (fun r => (transitDue s.now r).isSome)
  | .settleExpiry st => timePassed (s.proc st).settleEnd s.now && !(s.proc st).settleTaken
  | .entryDeadlineExpiry e => (s.entry? e).any (entryDue s.now)
  | .deferExpiry e => (deferDue s e).isSome
  | .escalation k => (s.faultRec k).pending && timePassed (s.faultRec k).expiry s.now
  | _ => false

def timed : List Instr :=
  [.trapFilterAssert .a, .trapFilterAssert .b, .trapFilterRelease .a, .trapFilterRelease .b]
    ++ (List.finRange 48).map .transitExpiry ++ allStn.map .settleExpiry ++ allEntries.map .entryDeadlineExpiry
    ++ allEntries.map .deferExpiry ++ (List.finRange 20).map .escalation

theorem timed_complete {i : Instr} (h : isTimed i = true) : i ∈ timed := by
  cases i <;> simp_all [isTimed, timed, allStn, allEntries, List.mem_finRange] <;> rename_i z <;> cases z <;> simp

theorem not_due {s : State} {i : Instr} (ht : isTimed i = true) (h : dueNow s i = false) : exec i s = .next s := by
  cases i <;> simp only [isTimed, Bool.false_eq_true] at ht <;> simp only [dueNow] at h
  case trapFilterAssert z => simp [exec, execTrapFilterAssert, whenOut, h]
  case trapFilterRelease z => simp [exec, execTrapFilterRelease, whenOut, h]
  case transitExpiry i =>
    simp only [exec, execTransitExpiry]
    split
    · rfl
    · rename_i r hr
      rw [hr] at h
      cases hd : transitDue s.now r with
      | none => rfl
      | some d => simp [hd] at h
  case settleExpiry st => simp [exec, execSettleExpiry, whenOut, h]
  case entryDeadlineExpiry e =>
    simp only [exec, execEntryDeadlineExpiry]
    split
    · rfl
    · rename_i en he
      rw [he] at h
      simp only [Option.any_some] at h
      simp [whenOut, h]
  case deferExpiry e =>
    simp only [exec, execDeferExpiry]
    cases hd : deferDue s e with
    | none => rfl
    | some d => simp [hd] at h
  case escalation k => simp [exec, execEscalation, whenOut, h]

/-- Of the events of the time none but `i` has something to do. -/
theorem only_due {i : Instr} {s : State} (h : timed.all (fun j => decide (j = i) || !dueNow s j) = true) :
    ∀ j, isTimed j = true → j ≠ i → exec j s = .next s :=
  fun j hj hn => not_due hj (by simpa [hn] using List.all_eq_true.mp h j (timed_complete hj))

/-- Nothing is due, as a check of every field that holds a time. -/
def calmTime (s : State) : Bool :=
  [Zone.a, .b].all (fun z => !assertDue s z && !releaseDue s z)
    && (List.finRange 48).all (fun i => (s.ptb.slots.get i).all (fun r => (transitDue s.mga.time r).isNone))
    && allStn.all (fun st => (s.proc st).settleTaken || !timePassed (s.proc st).settleEnd s.mga.time)
    && allEntries.all (fun e => (s.entry? e).all (fun en => !entryDue s.mga.time en))
    && s.ilk.deferred.all (fun it => !passed it.deadline s.mga.time)
    && (List.finRange 20).all (fun k => !((s.faultRec k).pending && timePassed (s.faultRec k).expiry s.mga.time))

theorem nothingDue {s : State} (h : calmTime s = true) : NothingDue s := by
  simp only [calmTime, Bool.and_eq_true, List.all_eq_true, allStn, allEntries] at h
  obtain ⟨⟨⟨⟨⟨hz, ht⟩, hs⟩, he⟩, hd⟩, hk⟩ := h
  refine ⟨fun z => ?_, fun i r hr => ?_, fun st hn => ?_, fun e en hen => ?_, fun it hi => ?_, fun k hp => ?_⟩
  · have := hz z (by cases z <;> simp)
    simpa using this
  · have := ht i (List.mem_finRange i)
    rw [hr] at this
    simpa using this
  · have := hs st (List.mem_finRange st)
    simpa [hn] using this
  · have := he e (List.mem_finRange e)
    rw [hen] at this
    simpa using this
  · have := hd it hi
    simpa using this
  · have := hk k (List.mem_finRange k)
    simpa [hp] using this

/-! ### Witnesses: the machine as a whole -/

theorem witness_stepRunsFront :
    ({ line with pending := [.timeTick, .find] } : State).pending = .timeTick :: [.find] := rfl

/-- The line with its two prescalers at given counts. -/
def clock (ms scan : Nat) : State :=
  { line with mga := { line.mga with prescaler := ms }, fcu := { line.fcu with scanClock := scan } }

def held : State := { line with mga := { line.mga with inReset := true } }

theorem witness_idleStep :
    (held.pending = [] ∧ held.mga.inReset = true)
    ∧ ((clock 24998 6249998).pending = [] ∧ (clock 24998 6249998).mga.inReset = false
        ∧ (clock 24998 6249998).mga.prescaler < 24999 ∧ (clock 24998 6249998).fcu.scanClock < 6249999)
    ∧ ((clock 24999 6249999).pending = [] ∧ (clock 24999 6249999).mga.inReset = false
        ∧ 24999 ≤ (clock 24999 6249999).mga.prescaler ∧ 6249999 ≤ (clock 24999 6249999).fcu.scanClock) := by
  decide +kernel

theorem test_idle_carries :
    (match step (clock 24999 6249999) with
     | .next t => t.pending
     | _ => []) = [.timeTick, .integrityScan] := by decide +kernel

theorem witness_hardResets : held.mga.inReset = true ∧ line.mga.inReset = false := by decide +kernel

theorem witness_heldInReset :
    held.mga.inReset = true ∧ isHardReset .find = false ∧ Instr.find ≠ .resetInputLow
    ∧ ∀ z, Instr.find ≠ .trapInputChange z := by
  refine ⟨by decide +kernel, rfl, by decide, fun z => ?_⟩
  nofun

def urgent (d : DiqItem) : DiqItem := { d with msg := { d.msg with prio := 1 } }

theorem witness_onlyTheNext :
    ((act 5 0 7).msg.urgent = false ∧ (urgent (act 5 0 9)).msg.urgent = true)
    ∧ takesFromDiq .find = true ∧ ¬ ∃ d, Takes .find d line := by
  refine ⟨by decide +kernel, rfl, ?_⟩
  rintro ⟨d, _, h, _⟩
  simp [line, State.reset, State.atReset, resetChi, nextItem] at h

/-- A message of each kind that a row of R7 or R180 names, at the last entry and word of its table where it has one. -/
theorem witness_rows :
    kindRows.all (fun r => rowOf line (request r.1 1 0 0).msg == r.2) = true
    ∧ actionRows.all (fun r => rowOf line (act (BitVec.ofNat 16 r.1) 1 0).msg == r.2) = true
    ∧ writeRows.all (fun r =>
        let m := (write r.1 (r.2.1.getLast?.getD 0) (r.2.2.1.getLast?.getD 0) 0).msg
        decide (Addresses m r) && m.dst == line.mga.node && rowOf line m == r.2.2.2) = true
    ∧ (rowOf line (read 0 0 0).msg = .tblRead ∧ rowOf line (act 18 1 0).msg = .unknownActionCode
      ∧ rowOf line (act 0 1 0).msg = .unknownActionCode)
    ∧ [write 0 0 0 0, write 0 1 3 0, write 1 15 24 0, write 1 16 0 0, write 3 0 0 0, write 4 32 0 0, write 6 8 0 0,
        write 7 47 6 0, write 15 127 31 0].all (fun d => writeRows.all (fun r => !decide (Addresses d.msg r))
          && rowOf line d.msg == .tblWrite) = true
    ∧ [request 0x77 1 0 0, { write 0 0 1 0 with msg := { (write 0 0 1 0).msg with dst := 63 } }].all (fun d =>
        kindRows.all (fun r => d.msg.kind != r.1) && rowOf line d.msg == .downlaneForward) = true := by decide +kernel

theorem witness_capacities : WithinCapacity line ∧ ∃ t, step line = .next t :=
  ⟨⟨by decide +kernel, by decide +kernel, by decide +kernel, by decide +kernel, by decide +kernel, by decide +kernel,
    by decide +kernel⟩, _, rfl⟩

/-- Pallet 7 on its way to station 1 alone, and a TAG that reports it there. -/
def onItsWay : State :=
  { withRecord 47 (record 7 (.transit 1 0)) line with
    chi := { line.chi with b := { line.chi.b with claimed := true } }
    ptb := { (withRecord 47 (record 7 (.transit 1 0)) line).ptb with
      approach := upd line.ptb.approach 1 (fun _ => [7]) }
    pending := [.tagReport (report kTag 1 3 7 0 0)] }

theorem onItsWay_slot (j : Slot) (q : Record) (h : onItsWay.ptb.slots.get j = some q) :
    j = 47 ∧ q = record 7 (.transit 1 0) := by
  have := all_some (v := onItsWay.ptb.slots) (p := fun j q => decide (j = 47 ∧ q = record 7 (.transit 1 0)))
    (by decide +kernel) j q h
  exact of_decide_eq_true this

theorem onItsWay_list (st : Stn) : onItsWay.ptb.approach.get st = if st = 1 then [7] else [] := by
  revert st; decide +kernel

theorem witness_palletTable : PalletTable onItsWay ∧ isNext (.tagReport (report kTag 1 3 7 0 0)) { onItsWay with pending := [] } := by
  refine ⟨⟨fun i r h => ?_, fun i j r q hi hj _ => ?_, fun st => ?_, fun st p => ⟨fun h => ?_, ?_⟩, ?_⟩, by decide +kernel⟩
  · rw [(onItsWay_slot i r h).2]; decide
  · rw [(onItsWay_slot i r hi).1, (onItsWay_slot j q hj).1]
  · rw [onItsWay_list]; split <;> decide
  · rw [onItsWay_list] at h
    split at h
    · rename_i hs
      subst hs
      exact ⟨47, record 7 (.transit 1 0), 0, by decide +kernel, (List.mem_singleton.mp h).symm, rfl⟩
    · cases h
  · rintro ⟨i, r, dl, hi, ht, hr⟩
    obtain ⟨-, rfl⟩ := onItsWay_slot i r hi
    cases hr
    rw [onItsWay_list]
    subst ht
    decide
  · intro a h; cases h

/-- The motion request table is in order, as a check of every entry. -/
def tableInOrder (s : State) : Bool :=
  allEntries.all (fun e => (s.entry? e).all (fun x => allEntries.all (fun f => (s.entry? f).all (fun y =>
      decide (x.station = y.station → (x.estate = .pending ↔ y.estate = .pending) → e = f)))))
    && allEntries.all (fun e => s.ilk.deferred.any (·.entry == e) == (s.entry? e).any (·.estate == .deferred))
    && decide (s.ilk.deferred.map (·.entry)).Nodup
    && s.chi.deq.all (fun d => d.entry.all (fun e => (s.entry? e).any (·.estate == .sending)))
    && decide (s.chi.deq.filterMap (·.entry)).Nodup

theorem entryTable {s : State} (h : tableInOrder s = true) : EntryTable s := by
  simp only [tableInOrder, Bool.and_eq_true, List.all_eq_true, allEntries] at h
  obtain ⟨⟨⟨⟨hs, hd⟩, hn⟩, hc⟩, hq⟩ := h
  have one : ∀ e f x y, s.entry? e = some x → s.entry? f = some y → x.station = y.station →
      (x.estate = .pending ↔ y.estate = .pending) → e = f := fun e f x y hx hy h1 h2 => by
    have := hs e (List.mem_finRange e)
    rw [hx] at this
    have := List.all_eq_true.mp this f (List.mem_finRange f)
    rw [hy] at this
    exact of_decide_eq_true this h1 h2
  refine ⟨fun e f x y hx hy h1 h2 h3 => one e f x y hx hy h1 (by simp [h2, h3]),
    fun e f x y hx hy h1 h2 h3 => one e f x y hx hy h1 (by simp [h2, h3]), fun e => ?_, of_decide_eq_true hn,
    fun d hm e he => ?_, of_decide_eq_true hq⟩
  · have := hd e (List.mem_finRange e)
    rw [beq_iff_eq, Bool.eq_iff_iff] at this
    simpa [Option.any_eq_true] using this
  · have := hc d hm
    rw [he] at this
    simpa [Option.any_eq_true] using this

/-- Station 1 with an entry SENDING and one PENDING behind it, station 3 with one DEFERRED; then a tick. -/
def manyEntries : State :=
  let s := withEntry 5 (entry 1 (.clamp 3) .sending) (withEntry 23 (entry 1 (.clamp 5) .pending)
    (withEntry 0 (entry 3 (.release 2) .deferred) line))
  { s with
    chi := { s.chi with deq := [{ msg := msg 3 62 kClamp 1 7 3 0, entry := some 5 }] }
    ilk := { s.ilk with deferred := [{ entry := 0, deadline := 9, deferring := 4 }] } }

theorem witness_entryTable : EntryTable manyEntries ∧ ∃ t, step { manyEntries with pending := [.timeTick] } = .next t :=
  ⟨entryTable (by decide +kernel), _, exec_after (i := .timeTick) (s := manyEntries) (by decide +kernel)⟩

def restricted : State := { line with fcu := { line.fcu with restricted := true } }
def frozen : State := { line with ilk := { line.ilk with frozen := true } }

theorem witness_frozenTable :
    frozen.ilk.frozen = true ∧ isHardReset .find = false ∧ ∃ t, exec .find frozen = .next t :=
  ⟨rfl, rfl, _, exec_after (by decide +kernel)⟩

theorem witness_whileRestricted :
    restricted.fcu.restricted = true ∧ isHardReset .find = false ∧ Instr.find ≠ .reset ∧ Instr.find ≠ .recover
    ∧ (∃ t, exec .find restricted = .next t) ∧ ∃ e, restricted.entry? e = none :=
  ⟨rfl, rfl, by decide, by decide, ⟨_, exec_after (by decide +kernel)⟩, 0, by decide +kernel⟩

/-- Port B with a claimed place. -/
def claimed (s : State) : State := { s with chi := { s.chi with b := { s.chi.b with claimed := true } } }

theorem witness_referenceRun :
    let i : Instr := .atReport (report kAt 1 3 0 100 3)
    exec i (claimed line) = .next (after i (claimed line)) ∧ ((claimed line).station 1).referenced = false
    ∧ ((after i (claimed line)).station 1).referenced = true :=
  ⟨exec_after (by decide +kernel), by decide +kernel, by decide +kernel⟩

/-! ### Witnesses: shared operations -/

/-- `n` messages wait in the NQ. -/
def queued (n : Nat) (s : State) : State :=
  { s with chi := { s.chi with nq := List.replicate n (msg 0 62 kNotice 255 0 0 0) } }

theorem witness_replies : (queued 15 line).chi.nq.length < 16 ∧ (queued 15 line).mrt.kept = [] := by decide +kernel

/-- The notice mask without class FAULT. -/
def masked : State := { line with mga := { line.mga with noticeMask := 0x1FE } }

theorem witness_noticeAdmission :
    masked.mga.noticeMask.getLsbD (classCode (eventClass .fault)) = false
    ∧ line.mga.noticeMask.getLsbD (classCode (eventClass .fault)) = true
    ∧ (queued 12 line).chi.nq.length + (queued 12 line).mrt.kept.length ≤ 12
    ∧ 12 < (queued 13 line).chi.nq.length + (queued 13 line).mrt.kept.length := by decide +kernel

/-- R23: two kept refusals take their places before a NOTICE that is admitted. -/
theorem test_kept_before_notice :
    let s := { queued 1 line with mrt := { line.mrt with kept := List.replicate 2 (msg 0 62 kRefused 255 0 0 0) } }
    (notice .fault 255 0 3 s).chi.nq.map (·.kind) = [kNotice, kRefused, kRefused, kNotice]
    ∧ (notice .fault 255 0 3 s).mrt.kept = [] := by decide +kernel

/-- A record of fault kind `k` PENDING. -/
def faulted (k : FaultKind) (s : State) : State :=
  { s with fcu := { s.fcu with records := upd s.fcu.records k (fun r => { r with pending := true, count := 3 }) } }

theorem witness_faultOccurrence :
    (line.faultRec 13).pending = false ∧ ((faulted 13 line).faultRec 13).pending = true
    ∧ ((occur 7 (some 3) 9 line).faultRec 7).level = .report
    ∧ ((occur 13 (some 3) 9 line).faultRec 13).level = .stationStop := by decide +kernel

/-- An occurrence of kind 7 whose record is PENDING at a level, in a line with stations 3 and 6 in zones A and B. -/
def reacted (l : Level) (st : Option Stn) : State :=
  occur 7 st 9 { (faulted 7 (line.modStn 6 (fun r => { r with cfg := { r.cfg with zone := .b } }))) with
    fcu := { line.fcu with records := upd line.fcu.records 7 (fun r => { r with pending := true, level := l }) } }

/-- R159: the zones that each reaction traps, and the stations that it holds. -/
theorem witness_reactions :
    let traps (l : Level) (st : Option Stn) : Bool × Bool × Bool × Bool × Bool :=
      let t := reacted l st
      ((t.zone .a).causes.fault && (t.faultRec 7).zones.a, (t.zone .b).causes.fault && (t.faultRec 7).zones.b, t.held 3,
        t.held 6, t.fcu.restricted)
    [(Level.report, some 6), (.stationStop, some 6), (.stationStop, none), (.zoneTrap, some 3), (.zoneTrap, some 6),
      (.zoneTrap, none), (.lineTrap, some 3), (.restrict, none)].map (fun p => traps p.1 p.2)
    = [(false, false, false, false, false), (false, false, false, true, false), (true, true, true, true, false),
      (true, false, true, false, false), (false, true, false, true, false), (true, true, true, true, false),
      (true, true, true, true, false), (true, true, true, true, true)] := by decide +kernel

theorem witness_target : (-2047 : Int) ≤ -2047 ∧ (2047 : Int) ≤ 2047 := by decide

/-- A station that stands `f` counts before target 0 with wind `w`, at the least wind limit and the widest tolerance. -/
def turnedTo (f : Nat) (w : Int) : Station :=
  { resetStation 1 with
    cfg := { defaultCfg 1 with windLimit := 33024, tol := 255 }, c := BitVec.ofInt 16 (-f), w := w }

theorem witness_plannedMove :
    [turnedTo 32768 (-33024), turnedTo 32768 33024, turnedTo 32769 33024, turnedTo 32769 (-33024)].all (fun r =>
      decide (33024 ≤ r.cfg.windLimit ∧ r.cfg.tol ≤ 255 ∧ r.w.natAbs ≤ r.cfg.windLimit ∧ atTarget r.cfg.tol r.c 0 = false))
      = true
    ∧ (0 - (turnedTo 32768 0).c).toNat ≤ 32768 ∧ 32768 < (0 - (turnedTo 32769 0).c).toNat
    ∧ [turnedTo 32768 (-33024), turnedTo 32768 33024, turnedTo 32769 33024, turnedTo 32769 (-33024)].map
        (fun r => (planMove r 0).rev) = [false, true, true, false] := by decide +kernel

/-- An interlock entry that judges every command of stations 0..15 by an empty station 2. -/
def strict (d : Bool) (lim : Nat) : IlkEntry :=
  { valid := true, subjects := 0xFFFF,
    cmds := { move := true, clampClose := true, clampOpen := true, cycle := true, release := true },
    object := some 2, cond := .objectEmpty, defer := d, deferLimit := lim }

def guarded (i : IlkNo) (e : IlkEntry) (s : State) : State :=
  { s with ilk := { s.ilk with table := upd s.ilk.table i (fun _ => e) } }

/-- Station 1 referenced with its tool RETRACTED and its clamps known; station 2 occupied. -/
def ready : State :=
  (line.modStn 1 (fun r => { r with
    tool := .retracted, sensed := some 3, commanded := some 3, referenced := true, mode := .manual })).modStn 2
    (fun r => { r with occupant := .unmanaged 5 })

theorem witness_verdict :
    verdict ready 1 .move = .pass ∧ verdict line 1 .move = .refuse .hardInterlock 1
    ∧ verdict (guarded 31 (strict false 100) ready) 1 .move = .refuse .interlock 31
    ∧ verdict (guarded 3 (strict true 500) (guarded 9 (strict true 200) ready)) 1 .move = .defer 3 200 := by decide +kernel

/-- R135: the hard-wired checks pass and fail, the sensed pattern known or UNKNOWN. -/
theorem witness_kindChecks :
    let moving := withEntry 5 (entry 1 (.move 3 9 none) .sending) ready
    KindCheckPasses 1 .move ready ∧ ¬ KindCheckPasses 1 .move line
    ∧ KindCheckPasses 1 (.clamp 3) moving ∧ ¬ KindCheckPasses 1 (.clamp 2) moving ∧ ¬ KindCheckPasses 1 (.clamp 3) line
    ∧ KindCheckPasses 1 .cycle ready ∧ ¬ KindCheckPasses 1 .cycle moving ∧ ¬ KindCheckPasses 1 .release ready
    ∧ KindCheckPasses 0 .release (line.modStn 0 (fun r => { r with tool := .retracted, sensed := some 0 })) := by
  dsimp only [KindCheckPasses, UnderWay]
  refine ⟨?_, ?_, ?_, ?_, ?_, ?_, ?_, ?_, ?_⟩ <;> decide +kernel

def heldBy (s : State) : State := s.modStn 1 (fun r => { r with holds := { r.holds with operator := true } })

/-- Entry 5 for a MOVE of station 1 to 9000, or for a CLAMP. -/
def readied (p : Params) (es : EState) (s : State) : State := withEntry 5 (entry 1 p es) s

/-- The entry DEFERRED, the one item of the list. -/
def deferredAt (p : Params) (s : State) : State :=
  { readied p .deferred s with ilk := { s.ilk with deferred := [{ entry := 5, deadline := 9, deferring := 4 }] } }

def move9000 : Params := .move 3 9000 none

/-- Station 1 of `ready` already stands at 9000. -/
def arrived9000 : State := ready.modStn 1 (fun r => { r with c := 9000 })

/-- The verdict on entry 5 of station 1 and whether its plan is satisfied, at a station that is not held. -/
def judged (p : Params) (es : EState) (v : Verdict) (sat : Bool) (s : State) : Bool :=
  decide (BetweenEvents s) && s.entry? 5 == some (entry 1 p es) && !s.held 1 && verdict s 1 (judgedOf p) == v
    && planSatisfied (planEntry s (entry 1 p es)) == sat

/-- Nothing follows the freeing of entry 5. -/
def quiet (p : Params) (es : EState) (s : State) : Prop := LeavesAlone 5 (entry 1 p es) s

def fullDeq (s : State) : State :=
  { s with chi := { s.chi with deq := List.replicate 16 { msg := msg 3 0 kStatusReq 1 0 0 0, entry := none } } }

theorem witness_promotion :
    (judged move9000 .ready .pass true (readied move9000 .ready arrived9000)
      ∧ quiet move9000 .ready (readied move9000 .ready arrived9000))
    ∧ (judged move9000 .ready .pass false (readied move9000 .ready ready)
      ∧ sendingWaiters (readied move9000 .ready ready) = [] ∧ (readied move9000 .ready ready).chi.deq.length < 16)
    ∧ (judged move9000 .ready .pass false (readied move9000 .ready (fullDeq ready))
      ∧ sendingWaiters (readied move9000 .ready (fullDeq ready)) = [] ∧ 16 ≤ (fullDeq ready).chi.deq.length)
    ∧ (let s := readied move9000 .ready (guarded 3 (strict true 500) ready)
       judged move9000 .ready (.defer 3 500) false s ∧ s.ilk.deferred.length < 8)
    ∧ (let s := { readied move9000 .ready (guarded 3 (strict true 500) ready) with
         ilk := { (guarded 3 (strict true 500) ready).ilk with
           deferred := List.replicate 8 { entry := 6, deadline := 0, deferring := 1 } } }
       judged move9000 .ready (.defer 3 500) false s ∧ 8 ≤ s.ilk.deferred.length ∧ quiet move9000 .ready s)
    ∧ (let s := readied move9000 .ready (guarded 31 (strict false 100) ready)
       judged move9000 .ready (.refuse .interlock 31) false s ∧ quiet move9000 .ready s) := by
  refine ⟨⟨by decide +kernel, leavesAlone (by decide +kernel) (by decide +kernel)⟩, by decide +kernel, by decide +kernel,
    by decide +kernel, ⟨by decide +kernel, by decide +kernel, leavesAlone (by decide +kernel) (by decide +kernel)⟩,
    ⟨by decide +kernel, leavesAlone (by decide +kernel) (by decide +kernel)⟩⟩

theorem witness_pass :
    (judged move9000 .deferred .pass true (deferredAt move9000 arrived9000)
      ∧ quiet move9000 .deferred (deferredAt move9000 arrived9000))
    ∧ (judged move9000 .deferred .pass false (deferredAt move9000 ready)
      ∧ sendingWaiters (deferredAt move9000 ready) = [] ∧ (deferredAt move9000 ready).chi.deq.length < 16)
    ∧ (let s := deferredAt move9000 (heldBy ready)
       BetweenEvents s ∧ s.held 1 = true ∧ verdict s 1 .move = .pass
         ∧ planSatisfied (planEntry s (entry 1 move9000 .deferred)) = false)
    ∧ judged move9000 .deferred (.defer 3 500) false (deferredAt move9000 (guarded 3 (strict true 500) ready))
    ∧ (let s := deferredAt move9000 (guarded 31 (strict false 100) ready)
       judged move9000 .deferred (.refuse .interlock 31) false s ∧ quiet move9000 .deferred s) := by
  refine ⟨⟨by decide +kernel, leavesAlone (by decide +kernel) (by decide +kernel)⟩, by decide +kernel, by decide +kernel,
    by decide +kernel, ⟨by decide +kernel, leavesAlone (by decide +kernel) (by decide +kernel)⟩⟩

/-- R14: entry 7, SENDING since before, has its command in the DEQ before that of entry 5. -/
theorem test_waiter_first :
    (match promoteEvent 5 (withEntry 7 (entry 3 (.clamp 3) .sending) (readied move9000 .ready ready)) with
     | .next t => t.chi.deq.map (·.entry)
     | _ => []) = [some 7, some 5] := by decide +kernel

/-- Two items, of stations 1 and 3, whose commands pass. -/
def twoItems : State :=
  let s := withEntry 6 (entry 3 (.clamp 3) .deferred) (readied move9000 .deferred
    (ready.modStn 3 (fun r => { r with sensed := some 3 })))
  { s with ilk := { s.ilk with
      deferred := [{ entry := 6, deadline := 9, deferring := 4 }, { entry := 5, deadline := 9, deferring := 4 }] } }

theorem witness_passOrder :
    BetweenEvents twoItems ∧ (∀ i, (twoItems.ilk.table.get i).valid = false)
    ∧ hardCheck twoItems 3 (.clamp 3) = none ∧ hardCheck twoItems 1 .move = none
    ∧ planSatisfied (planEntry twoItems (entry 3 (.clamp 3) .deferred)) = false
    ∧ planSatisfied (planEntry twoItems (entry 1 move9000 .deferred)) = false
    ∧ twoItems.entry? 6 = some (entry 3 (.clamp 3) .deferred) ∧ twoItems.entry? 5 = some (entry 1 move9000 .deferred)
    ∧ sendingWaiters twoItems = [] ∧ twoItems.chi.deq.length ≤ 14 := by decide +kernel

/-! ### Witnesses: table requests -/

/-- The command takes the controller's message `d` from the DIQ of `s`. -/
def asked (row : Instr) (d : DiqItem) (s : State) : Bool :=
  decide (BetweenEvents (asks d s) ∧ Takes row d (asks d s) ∧ FromController d (asks d s))

/-- The same with a word that exists. -/
def askedWord (row : Instr) (d : DiqItem) (s : State) : Bool := asked row d s && (addressed (asks d s) d.msg).isSome

/-- Every station in one mode. -/
def inMode (m : Mode) (s : State) : State :=
  { s with stb := { s.stb with stn := s.stb.stn.map (fun r => { r with mode := m }) } }

theorem witness_requests :
    (isTableRow .tblRead = true ∧ BetweenEvents (asks (stranger (read 0 0 0)) line)
      ∧ Takes .tblRead (stranger (read 0 0 0)) (asks (stranger (read 0 0 0)) line)
      ∧ (stranger (read 0 0 0)).msg.src ≠ line.mga.controller)
    ∧ (isTableRow .tblWrite = true ∧ asked .tblWrite (write 15 0 0 0) line
      ∧ addressed (asks (write 15 0 0 0) line) (write 15 0 0 0).msg = none) := by decide +kernel

theorem witness_actions :
    (isActionRow .find = true ∧ BetweenEvents (asks (stranger (act 5 0 7)) line)
      ∧ Takes .find (stranger (act 5 0 7)) (asks (stranger (act 5 0 7)) line)
      ∧ (stranger (act 5 0 7)).msg.src ≠ line.mga.controller)
    ∧ asked .unknownActionCode (act 0 0 0) line ∧ asked .unknownActionCode (act 18 0 0) line := by decide +kernel

/-- Bank `b` in a state, with these recipes. -/
def withBank (b : Fin 2) (bs : BankState) (g : Option Nat) (rs : Vector Recipe 8) (s : State) : State :=
  { s with rcs := { s.rcs with banks := upd s.rcs.banks b (fun _ => { bstate := bs, generation := g, recipes := rs }) } }

/-- One step at the stations of `group`, one operation at stop 2 with pattern 3 and program 41. -/
def oneStep (group : StnSet) : Recipe :=
  { len := 1
    steps := upd clearedRecipe.steps 0 (fun _ =>
      { group, count := 1, ops := Vector.replicate 8 { stop := 2, pattern := 3, program := 41, limit := 450 } }) }

def recipes (group : StnSet) : Vector Recipe 8 := upd clearedRecipes 0 (fun _ => oneStep group)

theorem witness_reads :
    (askedWord .tblRead (read 3 0 0) line ∧ activeBank line = none)
    ∧ (askedWord .tblRead (read 3 0 0) (withBank 1 .active (some 1) (recipes 2) line)
      ∧ activeBank (withBank 1 .active (some 1) (recipes 2) line) = some 1)
    ∧ (askedWord .tblRead (read 12 0 0) line ∨ askedWord .tblRead (read 0 2 0) line)
    ∧ (askedWord .tblRead (read 2 0 25) (withBank 0 .staged none (recipes 2) line)
      ∧ addrTable (read 2 0 25).msg = 2
      ∧ ((withBank 0 .staged none (recipes 2) line).rcs.banks.get (stagingBank (withBank 0 .staged none (recipes 2) line))).bstate
          ≠ .empty)
    ∧ (askedWord .tblRead (read 2 127 0) (withBank 1 .active (some 1) (recipes 2) line)
      ∧ ((withBank 1 .active (some 1) (recipes 2) line).rcs.banks.get 0).bstate = .empty
      ∧ stagingBank (withBank 1 .active (some 1) (recipes 2) line) = 0) := by decide +kernel

theorem witness_plainAndHighWords :
    (askedWord .tblWrite (write 0 0 4 2048) line ∧ (write 0 0 4 2048).msg.argA = 4)
    ∧ (askedWord .tblWrite (write 0 0 0 1) line ∧ (write 0 0 0 1).msg.argA ≠ 4)
    ∧ (askedWord .wideHighWordWrite (write 1 15 14 3) line ∧ cfgStation? (write 1 15 14 3).msg = some 15
      ∧ (line.station 15).mode = .out)
    ∧ (askedWord .wideHighWordWrite (write 1 15 14 3) (inMode .manual line) ∧ ((inMode .manual line).station 15).mode ≠ .out)
    ∧ askedWord .wideHighWordWrite (write 1 0 20 3) line
    ∧ (askedWord .wideHighWordWrite (write 4 31 6 3) line ∧ line.ilk.frozen = false ∧ line.ilk.deferred = [])
    ∧ (askedWord .wideHighWordWrite (write 4 31 6 3) frozen ∧ frozen.ilk.frozen = true)
    ∧ (askedWord .wideHighWordWrite (write 5 18 1 3) line ∧ addrEntry (write 5 18 1 3).msg ≠ 19)
    ∧ (askedWord .wideHighWordWrite (write 5 19 1 3) line ∧ addrEntry (write 5 19 1 3).msg = 19) := by decide +kernel

theorem witness_recipeWrites :
    (askedWord .recipeWrite (write 2 0 0 6) (withBank 0 .retiring (some 1) (recipes 2) (withBank 1 .active (some 2) (recipes 2) line))
      ∧ stagingBank (withBank 0 .retiring (some 1) (recipes 2) (withBank 1 .active (some 2) (recipes 2) line)) = 0)
    ∧ askedWord .recipeWrite (write 2 15 0 13) line ∧ askedWord .recipeWrite (write 2 123 25 0) line
    ∧ askedWord .recipeWrite (write 2 0 0 65535) line ∧ askedWord .recipeWrite (write 2 11 1 9) line
    ∧ askedWord .recipeWrite (write 2 0 2 0x70F) line ∧ askedWord .recipeWrite (write 2 0 3 256) line
    ∧ (line.rcs.banks.get (stagingBank line)).bstate ≠ .retiring := by decide +kernel

theorem witness_stationConfiguration :
    (askedWord .stationConfigWrite (write 1 6 10 5) (inMode .auto line) ∧ cfgStation? (write 1 6 10 5).msg = some 6
      ∧ ((inMode .auto line).station 6).mode ≠ .out)
    ∧ (askedWord .stationConfigWrite (write 1 6 2 5) line ∧ (line.station 6).mode = .out)
    ∧ askedWord .stationConfigWrite (write 1 6 0 63) line ∧ askedWord .stationConfigWrite (write 1 6 12 0) line
    ∧ askedWord .stationConfigWrite (write 1 6 13 2001) line ∧ askedWord .stationConfigWrite (write 1 6 16 201) line
    ∧ askedWord .stationConfigWrite (write 1 6 17 501) line ∧ askedWord .stationConfigWrite (write 1 6 18 49) line
    ∧ askedWord .stationConfigWrite (write 1 6 19 60001) line ∧ askedWord .stationConfigWrite (write 1 6 23 99) line
    ∧ askedWord .stationConfigWrite (write 1 6 21 999) (inMode .auto line)
    ∧ (askedWord .approachCapacityWrite (write 1 6 22 9) line ∧ NobodyWaits (asks (write 1 6 22 9) line)) := by decide +kernel

/-- Section 12.3.1: the two halves of a transit limit of 120000 ms at station 11. -/
theorem test_wide_write :
    let s := after .wideHighWordWrite (asks (write 1 11 20 1) line)
    let t := after .stationConfigWrite (asks (write 1 11 21 54464) s)
    s.mga.latch = 1 ∧ (s.station 11).cfg.transitLimit = 60000 ∧ t.mga.latch = 0
    ∧ (t.station 11).cfg.transitLimit = 120000 ∧ t.chi.nq.map (fun m => (m.argA, m.argB)) = [(0, 1), (0, 54464)] := by
  decide +kernel

theorem witness_windLimitAndTolerance :
    (askedWord .windLimitToleranceWrite (write 1 6 11 256) (inMode .manual line)
      ∧ ((inMode .manual line).station 6).mode ≠ .out)
    ∧ (askedWord .windLimitToleranceWrite (write 1 6 11 256) line ∧ cfgStation? (write 1 6 11 256).msg = some 6
      ∧ (line.station 6).mode = .out)
    ∧ askedWord .windLimitToleranceWrite (write 1 6 15 0) line := by decide +kernel

/-- Zone `z` TRAPPED by its input. -/
def trapped (z : Zone) (s : State) : State := s.setZone z { s.zone z with causes := { noCauses with pin := true } }

theorem witness_zoneWrite :
    (askedWord .zoneWrite (write 1 6 1 1) (inMode .manual line) ∧ ((inMode .manual line).station 6).mode ≠ .out)
    ∧ (askedWord .zoneWrite (write 1 6 1 1) line ∧ cfgStation? (write 1 6 1 1).msg = some 6 ∧ (line.station 6).mode = .out
      ∧ (line.zone .b).trapped = false ∧ (line.station 6).holds.held = false)
    ∧ (askedWord .zoneWrite (write 1 6 1 2) (trapped .b line) ∧ ((trapped .b line).station 6).holds.held = false
      ∧ ((trapped .b line).zone .b).trapped = true) := by decide +kernel

def trapOnly : HoldCauses := { noHolds with trap := true }
def operatorOnly : HoldCauses := { noHolds with operator := true }

/-- Station `st` held in the middle of its work: entry 4 ISSUED with 50 ms left, and a settle under way. -/
def paused (st : Stn) (h : HoldCauses) (s : State) : State :=
  (withEntry 4 { entry st (.clamp 3) .issued with remaining := some 50 } (s.modStn st (fun r => { r with holds := h }))).modProc
    st (fun p => { p with pstate := .settling, settleSucc := some .operation })

theorem witness_zoneWriteEndsTheHold :
    let s := asks (write 1 6 1 1) (paused 6 trapOnly (trapped .a line))
    askedWord .zoneWrite (write 1 6 1 1) s ∧ (s.station 6).mode = .out ∧ (s.station 6).holds = trapOnly
    ∧ (s.zone .b).trapped = false ∧ EndsCalmly (· = 6) s :=
  ⟨by decide +kernel, by decide +kernel, by decide +kernel, by decide +kernel,
    endsCalmly (by decide +kernel) (by decide +kernel) (by decide +kernel)⟩

def rework3 : State := { line with stb := { line.stb with rework := some 3 } }

/-- A recipe of the ACTIVE bank names station 4. -/
def naming4 : State := withBank 1 .active (some 1) (recipes 0x10) line

theorem witness_designation :
    askedWord .designationWrite (write 0 0 2 16) line
    ∧ (askedWord .designationWrite (write 0 0 2 3) rework3 ∧ rework3.stb.rework = some 3)
    ∧ (askedWord .designationWrite (write 0 0 2 0) line ∧ line.stb.load = 0 ∧ line.stb.rework ≠ some 0)
    ∧ (askedWord .designationWrite (write 0 0 2 15) (inMode .manual line) ∧ ((inMode .manual line).station 15).mode ≠ .out)
    ∧ (askedWord .designationWrite (write 0 0 2 4) naming4 ∧ namedByBank (asks (write 0 0 2 4) naming4) 4 = true)
    ∧ (askedWord .designationWrite (write 0 0 2 5) naming4 ∧ namedByBank (asks (write 0 0 2 5) naming4) 5 = false
      ∧ (naming4.station 0).mode = .out ∧ (naming4.station 5).mode = .out)
    ∧ (askedWord .designationWrite (write 0 0 3 254) line ∧ (write 0 0 3 254).msg.argB ≠ 255)
    ∧ (askedWord .designationWrite (write 0 0 3 0) line ∧ some (0 : Stn) = some line.stb.load)
    ∧ (askedWord .designationWrite (write 0 0 3 255) line ∧ (write 0 0 3 255).msg.argB.toNat = stnWord none
      ∧ line.stb.rework = none)
    ∧ (askedWord .designationWrite (write 0 0 3 15) (inMode .auto line) ∧ ((inMode .auto line).station 15).mode ≠ .out)
    ∧ (askedWord .designationWrite (write 0 0 3 4) naming4 ∧ namedByBank (asks (write 0 0 3 4) naming4) 4 = true)
    ∧ (askedWord .designationWrite (write 0 0 3 255) rework3 ∧ (rework3.station 3).mode = .out) := by decide +kernel

theorem witness_agentWrites :
    askedWord .controllerNodeWrite (write 0 0 1 63) line ∧ askedWord .controllerNodeWrite (write 0 0 1 62) line
    ∧ askedWord .eventSummaryWrite (write 0 0 9 0x1FF) line ∧ askedWord .maskWrite (write 0 0 10 0) line
    ∧ askedWord .maskWrite (write 0 0 11 0) line := by decide +kernel

/-- Zone B ACTIVE by its filtered level, or with RESET among its causes. -/
def zoneB (filtered : Bool) (c : ZoneCauses) (s : State) : State :=
  s.setZone .b { s.zone .b with filtered := filtered, causes := c }

theorem witness_filterAndExitMode :
    (askedWord .filterWrite (write 0 1 4 16) line ∧ askedWord .filterWrite (write 0 2 5 256) line
      ∧ assertDue line .a = false ∧ releaseDue line .a = false)
    ∧ askedWord .exitModeWrite (write 0 1 6 2) line ∧ askedWord .exitModeWrite (write 0 2 6 0) line
    ∧ (askedWord .exitModeWrite (write 0 2 6 1) (zoneB true { noCauses with pin := true } line)
      ∧ ((zoneB true { noCauses with pin := true } line).zone .b).filtered = true)
    ∧ (askedWord .exitModeWrite (write 0 2 6 1) (zoneB false { noCauses with reset := true } line)
      ∧ ((zoneB false { noCauses with reset := true } line).zone .b).filtered = false
      ∧ ((zoneB false { noCauses with reset := true } line).zone .b).causes.reset = true) := by decide +kernel

/-- Station 6 of zone B held by its trap alone, in the middle of its work. -/
def pausedInB (s : State) : State :=
  paused 6 trapOnly (s.modStn 6 (fun r => { r with cfg := { r.cfg with zone := .b } }))

/-- R149: inputs that have kept their levels for 12 ms, with filters of 15 and 20 ms before the write. -/
def lasting (raw : Bool) : State :=
  let z := { line.zone .b with raw := raw, filtered := raw, changedAt := 88, assertFilter := 15, releaseFilter := 20 }
  { line.setZone .b z with mga := { line.mga with time := 100 } }

theorem witness_filterEndsTheMeasurement :
    (askedWord .filterWrite (write 0 2 4 12) (lasting false)
      ∧ ((after .filterWrite (asks (write 0 2 4 12) (lasting false))).zone .b).filtered = true
      ∧ ((after .filterWrite (asks (write 0 2 4 13) (lasting false))).zone .b).filtered = false)
    ∧ (askedWord .filterWrite (write 0 2 5 12) (lasting true)
      ∧ ((after .filterWrite (asks (write 0 2 5 12) (lasting true))).zone .b).filtered = false
      ∧ ((after .filterWrite (asks (write 0 2 5 13) (lasting true))).zone .b).filtered = true)
    ∧ (askedWord .exitModeWrite (write 0 2 6 1) line ∧ (line.zone .b).filtered = false ∧ (line.zone .b).causes = noCauses) := by
  decide +kernel

theorem witness_exitModeEndsTheHold :
    let s := asks (write 0 2 6 1) (zoneB false { noCauses with pin := true } (pausedInB line))
    askedWord .exitModeWrite (write 0 2 6 1) s ∧ (s.zone .b).filtered = false
    ∧ (s.zone .b).causes = { noCauses with pin := true } ∧ (s.station 6).cfg.zone = .b ∧ (s.station 6).holds = trapOnly
    ∧ EndsCalmly (fun x => (s.station x).cfg.zone = .b ∧ (s.station x).holds = trapOnly) s :=
  ⟨by decide +kernel, by decide +kernel, by decide +kernel, by decide +kernel, by decide +kernel,
    endsCalmly (by decide +kernel) (by decide +kernel) (by decide +kernel)⟩

theorem witness_interlockAndReaction :
    askedWord .interlockWrite (write 4 31 0 2) frozen
    ∧ (askedWord .interlockWrite (write 4 31 0 2) line ∧ line.ilk.frozen = false)
    ∧ askedWord .interlockWrite (write 4 31 3 17) line ∧ askedWord .interlockWrite (write 4 31 4 0x305) line
    ∧ askedWord .interlockWrite (write 4 31 5 2) line
    ∧ (askedWord .interlockWrite (write 4 0 0 1) line ∧ line.ilk.deferred = [])
    ∧ askedWord .interlockWrite (write 4 0 2 0xFFFF) line ∧ askedWord .interlockWrite (write 4 0 4 3) line
    ∧ askedWord .interlockWrite (write 4 0 4 0x205) line ∧ askedWord .interlockWrite (write 4 0 4 0x704) line
    ∧ askedWord .interlockWrite (write 4 0 7 99) line
    ∧ (askedWord .reactionWrite (write 5 19 0 0) line ∧ addrEntry (write 5 19 0 0).msg = (19 : FaultKind).val)
    ∧ askedWord .reactionWrite (write 5 18 0 5) line
    ∧ (askedWord .reactionWrite (write 5 18 0 4) line ∧ levelCode .restrict = (write 5 18 0 4).msg.argB.toNat)
    ∧ askedWord .reactionWrite (write 5 0 2 99) line ∧ askedWord .reactionWrite (write 5 0 2 0) line := by decide +kernel

theorem witness_counterWrites :
    askedWord .counterConfigWrite (write 6 4 0 16) line ∧ askedWord .counterConfigWrite (write 6 3 0 22) line
    ∧ askedWord .counterConfigWrite (write 6 7 1 17) line ∧ askedWord .counterConfigWrite (write 6 7 2 257) line
    ∧ askedWord .counterConfigWrite (write 6 7 5 2) line
    ∧ askedWord .counterConfigWrite (write 6 3 0 21) line ∧ askedWord .counterConfigWrite (write 6 7 3 64) line := by
  decide +kernel

/-- Pallet 7 PRESENT at the MANUAL station 1, on the recipe of the ACTIVE bank, with its route cursor at `k`. -/
def standing (k : Nat) : State :=
  withRecord 47 { record 7 (.present 1) with routeCursor := k } (inMode .manual (withBank 1 .active (some 1) (recipes 2) line))

theorem witness_recordWrites :
    (askedWord .palletRecordWrite (write 7 0 7 1) line ∧ line.ptb.slots.get 0 = none)
    ∧ (askedWord .palletRecordWrite (write 7 47 7 1) (inMode .out (standing 0))
      ∧ ((inMode .out (standing 0)).station 1).mode ≠ .manual)
    ∧ (askedWord .palletRecordWrite (write 7 47 7 13) (standing 0)
      ∧ (standing 0).ptb.slots.get 47 = some (record 7 (.present 1)) ∧ ((standing 0).station 1).mode = .manual)
    ∧ (askedWord .palletRecordWrite (write 7 47 8 8) (standing 0)
      ∧ (currentStep (standing 0) (record 7 (.present 1))).isSome = true)
    ∧ (askedWord .palletRecordWrite (write 7 47 8 1) (standing 1)
      ∧ routeLen (standing 1) { record 7 (.present 1) with routeCursor := 1 } ≤ 1)
    ∧ askedWord .palletRecordWrite (write 7 47 9 16) (standing 0) := by decide +kernel

/-- Pallet 7 at station 1 with its clamps closed for the operation, the settle end now. -/
def settled : State :=
  let s := (withRecord 47 (record 7 (.present 1)) (withBank 1 .active (some 1) (recipes 2) line)).modStn 1 (fun r =>
    { r with mode := .auto, tool := .retracted, sensed := some 3, commanded := some 3, referenced := true,
             occupant := .tracked 7 })
  { s with idx := { s.idx with procs := upd s.idx.procs 1 (fun p =>
      { p with pstate := .settling, pallet := some 7, settleEnd := some 0, settleSucc := some .operation }) } }

/-! ### Witnesses: actions -/

theorem witness_find :
    asked .find (act 5 0 0) line
    ∧ (asked .find (act 5 0 7) (standing 0) ∧ (standing 0).ptb.slots.get 47 = some (record 7 (.present 1))
      ∧ ∀ j : Slot, j < 47 → (standing 0).ptb.slots.get j = none)
    ∧ (asked .find (act 5 0 7) line ∧ ∀ j, line.ptb.slots.get j = none) := by decide +kernel

theorem test_find_answers_slot :
    (after .find (asks (act 5 0 7) (standing 0))).chi.nq.map (fun m => (m.argA, m.argB)) = [(0, 47)] := by decide +kernel

theorem witness_discard :
    (asked .discard (act 7 0 0) (withBank 0 .staged none (recipes 2) line)
      ∧ stagingBank (withBank 0 .staged none (recipes 2) line) = 0)
    ∧ (asked .discard (act 7 0 0) line ∧ (line.rcs.banks.get (stagingBank line)).bstate = .empty)
    ∧ (asked .discard (act 7 0 0) (withBank 0 .retiring (some 1) (recipes 2) (withBank 1 .active (some 2) (recipes 2) line))
      ∧ stagingBank (withBank 0 .retiring (some 1) (recipes 2) (withBank 1 .active (some 2) (recipes 2) line)) = 0) := by
  decide +kernel

/-- Bank 0 STAGED behind bank 1 ACTIVE with generation 1. -/
def changeover (rs : Vector Recipe 8) (s : State) : State :=
  withBank 0 .staged none rs (withBank 1 .active (some 1) (recipes 2) s)

theorem witness_commit :
    (asked .commit (act 6 0 0) line ∧ (line.rcs.banks.get (stagingBank line)).bstate = .empty)
    ∧ asked .commit (act 6 0 0) (withBank 0 .retiring (some 1) (recipes 2) (withBank 1 .active (some 2) (recipes 2) line))
    ∧ (asked .commit (act 6 0 0) (changeover (recipes 1) line)
      ∧ (recipesFault (changeover (recipes 1) line) 0 (recipes 1).toList).isSome = true)
    ∧ (asked .commit (act 6 0 0) (changeover (recipes 4) (standing 0))
      ∧ recipesFault (changeover (recipes 4) (standing 0)) 0 (recipes 4).toList = none
      ∧ 0 < carrierCount (changeover (recipes 4) (standing 0)) 1)
    ∧ (asked .commit (act 6 0 0) (changeover (recipes 4) line) ∧ carrierCount (changeover (recipes 4) line) 1 = 0)
    ∧ (asked .commit (act 6 0 0) (withBank 0 .staged none clearedRecipes line)
      ∧ recipesFault (withBank 0 .staged none clearedRecipes line) 0 clearedRecipes.toList = none
      ∧ ((withBank 0 .staged none clearedRecipes line).rcs.banks.get 1).bstate ≠ .active) := by decide +kernel

theorem witness_freezeTimeMonitor :
    asked .freeze (act 8 0 0) line ∧ asked .snapshot (act 14 0 0) line
    ∧ asked .clearCounters (act 15 0 0) line ∧ asked .clearCounts (act 12 0 0) (faulted 13 line) := by decide +kernel

/-- The state that SET_TIME 1 sets the time of, before anything that it makes due. -/
def timeSet (s : State) : State :=
  { answered (act 16 0 1) .done 1 (asks (act 16 0 1) s) with mga := { s.mga with time := 0x10000, prescaler := 0 } }

theorem witness_setTime :
    (asked .setTime (act 16 0 1) line ∧ NothingDue (timeSet line))
    ∧ (let s := withRecord 47 (record 7 (.transit 1 1000)) line
       let u := after (.transitExpiry 47) (timeSet s)
       asked .setTime (act 16 0 1) s ∧ exec (.transitExpiry 47) (timeSet s) = .next u ∧ u ≠ timeSet s
         ∧ (∀ j, isTimed j = true → j ≠ .transitExpiry 47 → exec j (timeSet s) = .next (timeSet s)) ∧ NothingDue u) := by
  refine ⟨⟨by decide +kernel, nothingDue (by decide +kernel)⟩, by decide +kernel, exec_after (by decide +kernel),
    by decide +kernel, only_due (by decide +kernel), nothingDue (by decide +kernel)⟩

def linkDown (p : Port) (s : State) : State := s.setPort p { s.port p with up := false }

theorem witness_faultAck :
    asked .faultAck (act 11 0 20) line
    ∧ (asked .faultAck (act 11 0 19) (faulted 19 line) ∧ (19 : FaultKind).val = (act 11 0 19).msg.argB.toNat)
    ∧ (asked .faultAck (act 11 0 0) line ∧ (line.faultRec 0).pending = false)
    ∧ (asked .faultAck (act 11 0 14) (linkDown .a (faulted 14 line)) ∧ (linkDown .a (faulted 14 line)).chi.a.up = false
      ∧ ((linkDown .a (faulted 14 line)).faultRec 14).pending = true)
    ∧ (asked .faultAck (act 11 0 15) (linkDown .b (faulted 15 line)) ∧ (linkDown .b (faulted 15 line)).chi.b.up = false)
    ∧ (asked .faultAck (act 11 0 18) (faulted 18 line) ∧ ((faulted 18 line).faultRec 18).pending = true)
    ∧ (asked .faultAck (act 11 0 14) (faulted 14 line) ∧ (faulted 14 line).chi.a.up = true) := by decide +kernel

/-- RESTRICTED with the check value of the reaction table wrong. -/
def corrupted : State :=
  { restricted with fcu := { restricted.fcu with checks := { restricted.fcu.checks with reaction := 0 } } }

theorem witness_recover :
    (asked .recover (act 13 0 0) line ∧ line.fcu.restricted = false)
    ∧ (asked .recover (act 13 0 0) corrupted ∧ scanSet (asks (act 13 0 0) corrupted) ≠ 0)
    ∧ (asked .recover (act 13 0 0) restricted ∧ scanSet (asks (act 13 0 0) restricted) = 0
      ∧ restrictingKind restricted = none ∧ NobodyWaits restricted) := by decide +kernel

theorem witness_softReset :
    asked .reset (act 17 0 0) line ∧ line.mga.noticeMask.getLsbD 8 = true := by decide +kernel

/-- The zone traps of the line with a fault record that lists zone A. -/
def faultTrapped : State :=
  { (line.setZone .a { line.zone .a with causes := { noCauses with fault := true } }) with
    fcu := { line.fcu with records := upd line.fcu.records 3 (fun r =>
      { r with pending := true, zones := { a := true, b := false } }) } }

theorem witness_trapSet :
    asked .trapSet (act 9 0 2) line
    ∧ (asked .trapSet (act 9 0 1) (trapped .b line) ∧ ((trapped .b line).zone .b).trapped = true)
    ∧ (asked .trapSet (act 9 0 0) line ∧ (line.zone .a).trapped = false) := by decide +kernel

theorem witness_trapAck :
    asked .trapAck (act 10 0 2) line
    ∧ (asked .trapAck (act 10 0 1) line ∧ (line.zone .b).trapped = false)
    ∧ (asked .trapAck (act 10 0 0) faultTrapped ∧ (faultTrapped.zone .a).causes.fault = true
      ∧ (faultTrapped.faultRec 3).pending = true ∧ (faultTrapped.faultRec 3).zones.lists .a = true
      ∧ ∀ j : FaultKind, j < 3 → (faultTrapped.faultRec j).pending = false)
    ∧ (asked .trapAck (act 10 0 1) (zoneB true { noCauses with pin := true } line)
      ∧ ((zoneB true { noCauses with pin := true } line).zone .b).trapped = true)
    ∧ (let s := asks (act 10 0 1) (zoneB false { noCauses with command := true } (pausedInB line))
       asked .trapAck (act 10 0 1) s ∧ (s.zone .b).trapped = true ∧ (s.station 6).cfg.zone = .b
         ∧ (s.station 6).holds = trapOnly
         ∧ EndsCalmly (fun x => (s.station x).cfg.zone = .b ∧ (s.station x).holds = trapOnly) s) :=
  ⟨by decide +kernel, by decide +kernel, by decide +kernel, by decide +kernel, by decide +kernel, by decide +kernel,
    by decide +kernel, by decide +kernel, endsCalmly (by decide +kernel) (by decide +kernel) (by decide +kernel)⟩

/-- Station 1 MANUAL and referenced, its fixture away from stop 2. -/
def fixed : State :=
  ready.modStn 1 (fun r => { r with cfg := { r.cfg with stops := Vector.replicate 8 9000 } })

/-- The conditions of INDEX that the statement asks for in every clause. -/
def canIndex (s : State) : Bool :=
  !s.fcu.restricted && !stationTrapped s 1 && isMachining s 1 && (s.station 1).mode == .manual && (s.station 1).referenced

theorem witness_index :
    (asked .index (act 1 1 7) ready ∧ canIndex ready ∧ hasEntry ready 1 = false
      ∧ (ready.station 1).isAt (targetOf (ready.station 1).cfg 7 (occOffset ready 1)) = true)
    ∧ (let s := withEntry 23 (entry 1 (.clamp 3) .pending) (withEntry 0 (entry 1 (.clamp 3) .issued) fixed)
       asked .index (act 1 1 0) s ∧ canIndex s ∧ (activeEntry s 1).isSome = true ∧ (pendingEntry s 1).isSome = true)
    ∧ (let s := withEntry 0 (entry 1 (.clamp 3) .issued) fixed
       asked .index (act 1 1 0) s ∧ canIndex s ∧ (activeEntry s 1).isSome = true ∧ pendingEntry s 1 = none
         ∧ freeEntry s = some 1)
    ∧ (asked .index (act 1 1 0) (heldBy fixed) ∧ canIndex (heldBy fixed) ∧ hasEntry (heldBy fixed) 1 = false
      ∧ ((heldBy fixed).station 1).isAt (targetOf ((heldBy fixed).station 1).cfg 0 0) = false
      ∧ freeEntry (heldBy fixed) = some 0 ∧ (heldBy fixed).held 1 = true)
    ∧ (asked .index (act 1 1 0) fixed ∧ canIndex fixed ∧ hasEntry fixed 1 = false
      ∧ (fixed.station 1).isAt (targetOf (fixed.station 1).cfg 0 0) = false ∧ freeEntry fixed = some 0
      ∧ fixed.held 1 = false) := by decide +kernel

theorem witness_cancel :
    asked .cancel (act 2 16 0) line ∧ (act 2 16 0).msg.stn? = none
    ∧ (asked .cancel (act 2 15 0) line ∧ (line.station 15).mode ≠ .manual)
    ∧ (asked .cancel (act 2 1 0) ready ∧ activeEntry ready 1 = none ∧ pendingEntry ready 1 = none)
    ∧ (let s := withEntry 5 (entry 1 (.move 3 9 none) .cancelling) ready
       asked .cancel (act 2 1 0) s ∧ activeEntry s 1 = some 5 ∧ pendingEntry s 1 = none)
    ∧ (let s := withEntry 5 (entry 1 (.release 3) .issued) ready
       asked .cancel (act 2 1 0) s ∧ activeEntry s 1 = some 5)
    ∧ (let s := withEntry 5 (entry 1 (.cycle 3 0 none) .issued) ready
       asked .cancel (act 2 1 0) s ∧ activeEntry s 1 = some 5) := by decide +kernel

/-- The line with entry 5 of station 1, its command in the DEQ where it is SENDING. -/
def withActive (p : Params) (es : EState) : State :=
  let s := withEntry 5 (entry 1 p es) ready
  if es = .sending then { s with chi := { s.chi with deq := [{ msg := msg 3 62 kClamp 1 7 3 0, entry := some 5 }] } } else s

/-- What the statement asks of a MANUAL station whose CANCEL frees the active entry 5. -/
def cancelFrees (es : EState) (items : List DeferItem) : Prop :=
  let s := asks (act 2 1 0) { withActive (.clamp 3) es with ilk := { ready.ilk with deferred := items } }
  asked .cancel (act 2 1 0) s ∧ (s.station 1).mode = .manual ∧ activeEntry s 1 = some 5 ∧ pendingEntry s 1 = none
    ∧ LeavesAlone 5 (entry 1 (.clamp 3) es) s ∧ ∀ it ∈ s.ilk.deferred, it.entry = 5

theorem witness_cancelFrees :
    cancelFrees .ready [] ∧ cancelFrees .sending [] ∧ cancelFrees .deferred [{ entry := 5, deadline := 9, deferring := 4 }]
    ∧ (let s := asks (act 2 1 0) (withEntry 7 (entry 1 (.clamp 3) .pending) ready)
       asked .cancel (act 2 1 0) s ∧ activeEntry s 1 = none ∧ pendingEntry s 1 = some 7
         ∧ LeavesAlone 7 (entry 1 (.clamp 3) .pending) s ∧ s.ilk.deferred = []) := by
  refine ⟨?_, ?_, ?_, by decide +kernel, by decide +kernel, by decide +kernel,
    leavesAlone (by decide +kernel) (by decide +kernel), by decide +kernel⟩ <;>
  exact ⟨by decide +kernel, by decide +kernel, by decide +kernel, by decide +kernel,
    leavesAlone (by decide +kernel) (by decide +kernel), by decide +kernel⟩

theorem witness_cancelBoth :
    [(EState.ready, Params.clamp 3), (.sending, .clamp 3), (.issued, .release 2), (.issued, .clamp 3), (.cancelling, move9000),
        (.issued, move9000), (.issued, .cycle 3 0 none)].all (fun x =>
      let s := asks (act 2 1 0) (withEntry 7 (entry 1 (.clamp 5) .pending) (withActive x.2 x.1))
      asked .cancel (act 2 1 0) s && decide (pendingEntry s 1 = some 7) && decide (activeEntry s 1 = some 5)
        && (s.station 1).pendingMode == none && (freeEntry s).isSome && decide (s.ilk.deferred = [])
        && decide (∀ y, (s.proc y).wait = .nothing ∧ (s.proc y).due = none ∧ (s.proc y).replan = false)
        && allEntries.all (fun j => (s.entry? j).all (fun q => decide (q.station = 1 → j = 7 ∨ j = 5)))) = true := by
  decide +kernel

/-- Station 1 MANUAL with an occupant, pallet 7 in a state of its record, its clamps closed for another pattern. -/
def manualWith (o : Occupant) (rs : RState) (h : HoldCauses) : State :=
  asks (act 3 1 0) ((withRecord 47 (record 7 rs) (withBank 1 .active (some 1) (recipes 2) line)).modStn 1 (fun r =>
    { r with mode := .manual, tool := .retracted, sensed := some 1, commanded := some 1, referenced := true, occupant := o,
             holds := h }))

/-- What the statement asks of a station that enters AUTO. -/
def entersAuto (s : State) : Bool :=
  asked .mode (act 3 1 0) s && (s.station 1).mode == .manual && !hasEntry s 1 && isMachining s 1 && (s.station 1).referenced
    && decide (NobodyWaits s)

theorem witness_modeAuto :
    (let s := (manualWith (.tracked 7) (.present 1) noHolds).modProc 1 (fun p => { p with pstate := .blocked })
     entersAuto s ∧ (s.proc 1).pstate = .blocked)
    ∧ (entersAuto (manualWith .nobody (.present 2) noHolds) ∧ ((manualWith .nobody (.present 2) noHolds).proc 1).pstate ≠ .blocked)
    ∧ entersAuto (manualWith (.unmanaged 9) (.present 2) noHolds)
    ∧ (let s := manualWith (.tracked 7) (.transit 2 9) noHolds
       entersAuto s ∧ s.ptb.slots.get 47 = some (record 7 (.transit 2 9)) ∧ aloneAt 7 47 s)
    ∧ [noHolds, { noHolds with operator := true }].all (fun h =>
        let s := manualWith (.tracked 7) (.present 1) h
        entersAuto s && s.ptb.slots.get 47 == some (record 7 (.present 1)) && aloneAt 7 47 s && !(s.proc 1).stepEnded
          && (currentStep s (record 7 (.present 1))).any (fun k => k.group.getLsbD 1 && (k.op? 0).any (·.pattern == 3))
          && (s.station 1).sensed != some 3 && !s.fcu.restricted && freeEntry s == some 0 && s.held 1 == h.operator) = true
    ∧ CanBeSent 1 (.clamp 3) (manualWith (.tracked 7) (.present 1) noHolds) := by decide +kernel

/-- The AUTO station 1 waits MODE with an operation due, MANUAL pending. -/
def waitsMode : State :=
  ((manualWith (.tracked 7) (.present 1) noHolds).modStn 1 (fun r =>
    { r with mode := .auto, pendingMode := some .manual })).modProc 1 (fun p =>
    { p with pstate := .arrived, pallet := some 7, wait := .mode, due := some .operation })

theorem witness_waitsMode :
    asked .mode (act 3 1 0) waitsMode ∧ modeCode (waitsMode.station 1).mode = 0 ∧ (waitsMode.proc 1).wait = .mode
    ∧ (waitsMode.proc 1).due = some .operation ∧ (waitsMode.proc 1).pallet = some 7 ∧ aloneAt 7 47 waitsMode
    ∧ waitsMode.ptb.slots.get 47 = some (record 7 (.present 1))
    ∧ (currentStep waitsMode (record 7 (.present 1))).any (fun k => (k.op? 0).any (·.pattern == 3)) = true
    ∧ (waitsMode.station 1).sensed ≠ some 3 ∧ hasEntry waitsMode 1 = false ∧ waitsMode.fcu.restricted = false
    ∧ freeEntry waitsMode = some 0 ∧ (∀ y, (waitsMode.proc y).wait ≠ .entry) ∧ waitsMode.held 1 = false
    ∧ CanBeSent 1 (.clamp 3) waitsMode := by decide +kernel

/-- R119: station 5 joins behind station 3, which stands at rank 1; station 2 and an older waiting-since join before it. -/
theorem test_join_place :
    let s := line.modProc 3 (fun p => { p with wait := .entry, waitingSince := some 9, place := { plainPlace with rank := 1 } })
    (joinPlace s 5 9).rank = 1 ∧ (joinPlace s 2 9).rank = 0 ∧ (joinPlace s 5 8).rank = 0 := by decide +kernel

/-- R119: after a SET_TIME back, a station whose own entry is freed waits behind station 3, since 3000, at 1000 all the same. -/
theorem test_own_entry_freed_goes_last :
    let s := (line.modProc 3 (fun p => { p with wait := .entry, waitingSince := some 3000 })).modEv
      (fun v => { v with freed := StnSet.one 1 })
    entryWaiters (waitEntry 1 .operation (some 1000) (joinPlace s 1 1000) s) = [3, 1] := by decide +kernel

/-- R85, R119: presented anew, stations with one waiting-since stand by their numbers. -/
theorem test_presented_by_number :
    let s := (line.modProc 3 (fun p => { p with wait := .entry, waitingSince := some 9, place := { plainPlace with rank := 1 } })).modProc 5
      (fun p => { p with wait := .entry, waitingSince := some 9 })
    entryWaiters s = [5, 3] ∧ entryWaiters (presentWaiters s) = [3, 5] := by decide +kernel

/-- R101: a restart of a station that waits ENTRY keeps its waiting-since and its place. -/
theorem test_restart_keeps_the_place :
    let s := restricted.modProc 3 (fun p => { p with wait := .entry, waitingSince := some 9, place := { plainPlace with rank := 2 } })
    let p := (makeDue 3 (.release 2) .routing false true s).1.proc 3
    p.waitingSince = some 9 ∧ p.place.rank = 2 := by decide +kernel

/-- R87: a settle end that passes while the station waits MODE evaluates the operation again, here at no pending mode. -/
theorem test_settle_evaluates_again :
    let s := settled.modProc 1 (fun p => { p with wait := .mode, due := some .operation })
    ((after (.settleExpiry 1) s).proc 1).pstate = .machining ∧ (after (.settleExpiry 1) s).chi.deq.length = 1 := by
  decide +kernel

theorem witness_mode :
    asked .mode (act 3 1 3) line ∧ asked .mode (act 3 16 0) line
    ∧ (asked .mode (act 3 15 2) line ∧ (line.station 15).mode = .out ∧ (line.proc 15).wait ≠ .mode)
    ∧ (let s := withEntry 5 (entry 1 (.clamp 3) .issued) ready
       asked .mode (act 3 1 0) s ∧ (s.station 1).mode = .manual ∧ hasEntry s 1 = true)
    ∧ (asked .mode (act 3 6 0) line ∧ hasEntry line 6 = false ∧ isMachining line 6 = true
      ∧ (line.station 6).referenced = false)
    ∧ (asked .mode (act 3 6 1) line ∧ NobodyWaits (asks (act 3 6 1) line))
    ∧ (asked .mode (act 3 6 2) (inMode .auto line) ∧ ((inMode .auto line).station 6).mode = .auto
      ∧ NobodyWaits (asks (act 3 6 2) (inMode .auto line))) := by decide +kernel

/-- A LOST pallet 7, which station 2 still has as its occupant. -/
def lost : State := (withRecord 0 (record 7 (.lost (some 1))) line).modStn 2 (fun r => { r with occupant := .tracked 7 })

theorem witness_forget :
    asked .forget (act 4 0 0) line ∧ (asked .forget (act 4 0 7) line ∧ ∀ j, line.ptb.slots.get j = none)
    ∧ (asked .forget (act 4 0 7) (standing 0) ∧ (standing 0).ptb.slots.get 47 = some (record 7 (.present 1))
      ∧ (1 : Stn) ≠ (standing 0).stb.load ∧ (standing 0).stb.rework ≠ some 1)
    ∧ (asked .forget (act 4 0 7) lost ∧ lost.ptb.slots.get 0 = some (record 7 (.lost (some 1)))
      ∧ lost.ptb.pendingAdm = none ∧ retiringBank lost = none) := by decide +kernel

/-! ### Witnesses: station requests -/

/-- The command takes the message `d`, from whoever it comes. -/
def takes (row : Instr) (d : DiqItem) (s : State) : Bool := decide (BetweenEvents (asks d s) ∧ Takes row d (asks d s))

/-- All 24 entries in use by station 15. -/
def used (s : State) : State :=
  { s with mrt := { s.mrt with entries := Vector.replicate 24 (some (entry 15 (.clamp 3) .issued)) } }

/-- R119: a station whose own entry is freed at 1000 waits behind the DIQ's message, since 3200. -/
theorem test_own_entry_freed_behind_diq :
    let d := { request kClamp 1 3 0 with arrival := 3200 }
    let s := (asks d (used ready)).modEv (fun v => { v with freed := StnSet.one 5, diqClaim := true })
    diqWaiter s = some d ∧ diqFirst (waitEntry 5 .operation (some 1000) (joinPlace s 5 1000) s) d 5 = true
    ∧ diqFirst (waitEntry 5 .operation (some 1000) plainPlace s) d 5 = false := by decide +kernel

/-- R6: each of the four conditions alone makes a message wait. -/
theorem test_canTake :
    let d := request kClamp 1 3 0
    let stopping := withEntry 5 (entry 1 (.move 3 9 none) .issued) ready
    canTake ready d.msg = true ∧ canTake (fullDeq ready) d.msg = false ∧ canTake (fullDeq ready) (urgent d).msg = true
    ∧ canTake (fullDeq line) (urgent (request kStatusReq 1 0 0)).msg = false
    ∧ canTake { ready with chi := { ready.chi with nq := List.replicate 15 (msg 0 62 kNotice 255 0 0 0) } }
        (urgent (request kResume 1 0x8000 0)).msg = false
    ∧ canTake (used ready) d.msg = false ∧ canTake (used ready) (urgent d).msg = true
    ∧ canTake { stopping with chi := { stopping.chi with ugq := List.replicate 4 { msg := d.msg, entry := 5 } } }
        (act 2 1 0).msg = false := by decide +kernel

theorem witness_indexRefusals :
    takes .index (stranger (act 1 1 0)) ready = true ∧ asked .index (act 1 16 0) ready ∧ asked .index (act 1 1 8) ready
    ∧ asked .index (act 1 1 7) { ready with fcu := { ready.fcu with restricted := true } }
    ∧ (asked .index (act 1 1 7) (trapped .a ready) ∧ stationTrapped (trapped .a ready) 1 = true)
    ∧ (asked .index (act 1 0 0) ready ∧ ready.stb.load = 0) ∧ asked .index (act 1 1 0) (inMode .out ready)
    ∧ asked .index (act 1 1 0) (ready.modStn 1 (fun r => { r with referenced := false }))
    ∧ (asked .index (urgent (act 1 1 0)) (used fixed) ∧ canIndex (used fixed) ∧ freeEntry (used fixed) = none
      ∧ ((used fixed).station 1).isAt (targetOf ((used fixed).station 1).cfg 0 0) = false) := by decide +kernel

/-- Every station held by OPERATOR. -/
def allHeld (s : State) : State :=
  { s with stb := { s.stb with stn := s.stb.stn.map (fun r => { r with holds := { noHolds with operator := true } }) } }

theorem witness_hold :
    takes .hold (stranger (request kHold 1 0x8000 0)) line
    ∧ (let s := withEntry 4 (entry 1 (.clamp 3) .sending) line
       let s := { s with chi := { s.chi with deq := [{ msg := msg 3 62 kClamp 1 0 3 0, entry := some 4 }] } }
       asked .hold (request kHold 1 0x8000 0) s ∧ s.held 1 = false ∧ s.held 15 = false
         ∧ (s.entry? 4).any (fun en => en.station == 1 && en.estate == .sending)) := by decide +kernel

theorem witness_resume :
    takes .resume (stranger (request kResume 1 0x8000 0)) line
    ∧ (asked .resume (request kResume 1 0x8000 0) restricted ∧ restricted.fcu.restricted = true)
    ∧ (asked .resume (request kResume 1 0x8000 0) (allHeld line) ∧ (allHeld line).fcu.restricted = false
      ∧ (allHeld line).ilk.deferred = [] ∧ (∀ i, ((allHeld line).lmn.counters.get i).source ≠ .event .refused)
      ∧ (allHeld line).held 15 = true)
    ∧ (let s := asks (request kResume 1 0x8000 0) (paused 15 operatorOnly (allHeld line))
       asked .resume (request kResume 1 0x8000 0) s ∧ s.held 15 = true ∧ (s.station 15).holds = operatorOnly
         ∧ (∀ x, (s.proc x).pstate ≠ .stalled ∧ (s.proc x).pstate ≠ .arrived) ∧ ∀ ended, EndsCalmly ended s) :=
  ⟨by decide +kernel, by decide +kernel, by decide +kernel, by decide +kernel, by decide +kernel, by decide +kernel,
    by decide +kernel, fun _ => endsCalmly (by decide +kernel) (by decide +kernel) (by decide +kernel)⟩

/-- What holds of a message's set of stations. -/
def namesOnly (d : DiqItem) (st : Stn) : Bool :=
  allStn.all (fun x => decide ((d.msg.argA.getLsbD x.val = true ∨ d.msg.station.toNat = x.val) ↔ x = st))

/-- Zone A TRAPPED by COMMAND, station 1 held by it alone. -/
def commandTrapped : State :=
  (ready.setZone .a { ready.zone .a with causes := { noCauses with command := true } }).modStn 1
    (fun r => { r with holds := trapOnly })

theorem witness_readyIsPromoted :
    (let s := asks (request kResume 1 0 0) (readied move9000 .ready (heldBy ready))
     asked .resume (request kResume 1 0 0) s ∧ s.ilk.deferred = [] ∧ s.entry? 5 = some (entry 1 move9000 .ready)
       ∧ onlyEntry 5 1 s ∧ planSatisfied (planEntry s (entry 1 move9000 .ready)) = false ∧ CanBeSent 1 .move s
       ∧ (∀ x, (s.proc x).pstate = .empty) ∧ s.fcu.restricted = false ∧ namesOnly (request kResume 1 0 0) 1
       ∧ (s.station 1).holds = operatorOnly)
    ∧ (let s := asks (act 10 0 0) (readied move9000 .ready commandTrapped)
       asked .trapAck (act 10 0 0) s ∧ s.ilk.deferred = [] ∧ s.entry? 5 = some (entry 1 move9000 .ready)
         ∧ onlyEntry 5 1 s ∧ (∀ j, j ≠ 5 → s.entry? j = none)
         ∧ planSatisfied (planEntry s (entry 1 move9000 .ready)) = false ∧ CanBeSent 1 .move s
         ∧ (∀ x, (s.proc x).pstate = .empty) ∧ (s.zone .a).causes = { noCauses with command := true }
         ∧ (s.station 1).cfg.zone = .a ∧ (s.station 1).holds = trapOnly) := by decide +kernel

/-- Station 1 AUTO, referenced and STALLED with pallet 7, held by OPERATOR. -/
def stalled (r : Station → Station) (p : Process → Process) : State :=
  asks (request kResume 1 0 0) ((settled.modStn 1 (fun x => r { x with holds := operatorOnly })).modProc 1 (fun x =>
    p { x with pstate := .stalled, settleEnd := none, settleSucc := none }))

/-- What the statement asks of a STALLED station in every clause. -/
def canLeaveStalled (s : State) : Bool :=
  asked .resume (request kResume 1 0 0) s && !s.fcu.restricted && decide (s.ilk.deferred = [])
    && namesOnly (request kResume 1 0 0) 1 && (s.station 1).holds == operatorOnly && (s.station 1).mode == .auto
    && (s.station 1).pendingMode == none && isMachining s 1 && (s.proc 1).pstate == .stalled
    && allEntries.all (fun e => (s.entry? e).all (fun en => en.estate == .issued))

theorem witness_stalled :
    (let s := stalled (fun r => { r with referenced := false }) id
     canLeaveStalled s ∧ (s.station 1).referenced = false)
    ∧ (let s := withEntry 5 (entry 1 (.clamp 3) .issued) (stalled id id)
       canLeaveStalled s ∧ hasEntry s 1 = true)
    ∧ (let s := stalled (fun r => { r with occupant := .nobody }) id
       canLeaveStalled s ∧ (s.station 1).referenced = true ∧ hasEntry s 1 = false ∧ (s.station 1).occupant = .nobody)
    ∧ (let s := stalled (fun r => { r with sensed := some 1, commanded := some 1 }) id
       canLeaveStalled s ∧ (s.station 1).referenced = true ∧ hasEntry s 1 = false ∧ (s.station 1).occupant = .tracked 7
         ∧ s.ptb.slots.get 47 = some (record 7 (.present 1)) ∧ aloneAt 7 47 s ∧ freeEntry s = some 0
         ∧ (∀ y, (s.proc y).wait ≠ .entry) ∧ (s.proc 1).stepEnded = false
         ∧ ((currentStep s (record 7 (.present 1))).any (fun k => k.group.getLsbD 1 && (k.op? 0).any (·.pattern == 3))) = true
         ∧ CanBeSent 1 (.clamp 3) s)
    ∧ (let s := stalled (fun r => { r with c := 9000 }) (fun p => { p with stepEnded := true })
       canLeaveStalled s ∧ (s.station 1).referenced = true ∧ hasEntry s 1 = false ∧ (s.station 1).occupant = .tracked 7
         ∧ s.ptb.slots.get 47 = some (record 7 (.present 1)) ∧ aloneAt 7 47 s ∧ freeEntry s = some 0
         ∧ (∀ y, (s.proc y).wait ≠ .entry) ∧ (s.proc 1).stepEnded = true ∧ (s.proc 1).pallet = some 7
         ∧ (s.station 1).isAt (targetOf (s.station 1).cfg 0 0) = false ∧ (s.station 1).sensed = some 3
         ∧ (s.station 1).commanded = some 3 ∧ CanBeSent 1 .move s) := by decide +kernel

theorem test_resume_releases :
    ((after .resume (asks (request kResume 1 0x8000 0) (allHeld line))).held 15 = false)
    ∧ (after .resume (asks (request kResume 1 0x8000 0) (allHeld line))).held 14 = true := by decide +kernel

/-- Addressed to the device. -/
def toDevice (d : DiqItem) : DiqItem := { d with msg := { d.msg with dst := 62 } }

/-- The three station commands, at station 1. -/
def commands : List (Instr × Byte) := [(.clamp, kClamp), (.cycle, kCycle), (.release, kRelease)]

theorem witness_stationCommands :
    commands.all (fun c =>
      let d := request c.2 1 3 0
      let free := withEntry 7 (entry 1 (.clamp 3) .issued) ready
      let full := withEntry 23 (entry 1 (.clamp 3) .pending) free
      takes c.1 (toDevice d) ready && takes c.1 (stranger d) ready
      && asked c.1 { d with msg := { d.msg with station := 16 } } ready
      && asked c.1 { d with msg := { d.msg with dst := 4 } } ready
      && asked c.1 d { ready with fcu := { ready.fcu with restricted := true } }
      && (asked c.1 d (trapped .a ready) && stationTrapped (trapped .a ready) 1)
      && asked c.1 d (inMode .auto ready)
      && asked c.1 d (inMode .out line)
      && (asked c.1 d full && (activeEntry full 1).isSome && (pendingEntry full 1).isSome)
      && (asked c.1 d free && (activeEntry free 1).isSome && decide (pendingEntry free 1 = none)
        && decide (freeEntry free = some 0))
      && (asked c.1 d (heldBy ready) && decide (activeEntry (heldBy ready) 1 = none)
        && decide (freeEntry (heldBy ready) = some 0) && (heldBy ready).held 1)
      && (asked c.1 d ready && decide (activeEntry ready 1 = none) && decide (freeEntry ready = some 0)
        && !ready.held 1)) = true := by decide +kernel

/-- An urgent command at a MANUAL station with room, and no free entry. -/
theorem witness_noFreeEntry :
    commands.all (fun c => asked c.1 (urgent (request c.2 1 3 0)) (used ready) && decide (freeEntry (used ready) = none)
      && decide (activeEntry (used ready) 1 = none)) = true := by decide +kernel

/-- An OUT station 1 with its clamps open and its tool RETRACTED, at a stop. -/
def open1 : State :=
  line.modStn 1 (fun r => { r with tool := .retracted, sensed := some 0, commanded := some 0, referenced := true })

/-- The same with the clamps closed. -/
def shut1 : State := open1.modStn 1 (fun r => { r with sensed := some 3, commanded := some 3 })

theorem witness_outCommands :
    asked .clamp (request kClamp 1 3 0) open1 ∧ hardCheck open1 1 (.clamp 3) = none
    ∧ asked .clamp (request kClamp 1 0 0) line ∧ hardCheck line 1 (.clamp 0) = some 2
    ∧ asked .cycle (request kCycle 1 3 0) shut1 ∧ hardCheck shut1 1 .cycle = none
    ∧ asked .cycle (request kCycle 1 3 0) open1 ∧ hardCheck open1 1 .cycle = some 3
    ∧ asked .release (request kRelease 1 3 0) open1 ∧ hardCheck open1 1 .release = none
    ∧ asked .release (request kRelease 1 3 0) (heldBy open1) ∧ hardCheck (heldBy open1) 1 .release = some 5 := by
  decide +kernel

theorem witness_jogAndRefer :
    [(Instr.jog, kJog), (.refer, kRefer)].all (fun c =>
      let d := request c.2 1 3 0
      takes c.1 (toDevice d) line
      && (asked c.1 d (trapped .a line)
        && (match checkRequest (trapped .a line) d.msg with
            | .error r => r == .trapped
            | .ok _ => false))
      && asked c.1 d (inMode .manual line) && asked c.1 d line
      && (asked c.1 d open1 && (open1.station 1).tool == .retracted)) = true
    ∧ (line.station 1).tool ≠ .retracted := by decide +kernel

theorem witness_otherMessages :
    [(Instr.move, kMove), (.stop, kStop), (.abort, kAbort)].all (fun c =>
      takes c.1 (toDevice (request c.2 1 3 0)) line && takes c.1 (stranger (request c.2 1 3 0)) line
      && asked c.1 (request c.2 1 3 0) line) = true
    ∧ [(Instr.statusReq, kStatusReq), (.downlaneForward, 0x77)].all (fun c =>
      takes c.1 (toDevice (request c.2 1 3 0)) line && takes c.1 (stranger (request c.2 1 3 0)) line) = true := by
  decide +kernel

/-! ### Witnesses: reception, links, inputs, time -/

def claimedA (s : State) : State := { s with chi := { s.chi with a := { s.chi.a with claimed := true } } }

theorem witness_reception :
    (Running line ∧ (∀ p, (line.port p).up = true ∧ (line.port p).claimed = false ∧ readyOut line p = true))
    ∧ (Running (claimedA line) ∧ (claimedA line).chi.a.claimed = true ∧ (report kTag 1 3 7 0 0).intact = true)
    ∧ (Running (claimed line) ∧ (claimed line).chi.b.claimed = true ∧ isReportKind 0x37 = false
      ∧ (report 0x37 1 3 7 0 0).intact = true)
    ∧ [kTag, kAt, kClamped, kTool, kCycleEnd, kGone, kNodeFault].all (fun k =>
        (report k 1 9 7 0 0).intact && (reporter (claimed line) (report k 1 9 7 0 0)).isNone) = true
    ∧ (broken (report kTag 1 3 7 0 0)).intact = false ∧ line.chi.a.claimed = false := by
  refine ⟨⟨by decide +kernel, fun p => ?_⟩, by decide +kernel, by decide +kernel, by decide +kernel, by decide +kernel⟩
  cases p <;> decide +kernel

theorem witness_links :
    (∀ p, Running (linkDown p line) ∧ ((linkDown p line).port p).up = false ∧ (line.port p).up = true) ∧ Running line := by
  refine ⟨fun p => ?_, by decide +kernel⟩
  cases p <;> decide +kernel

/-- Zone A with its input at a level since time 0, now 50 ms. -/
def input (low filtered auto : Bool) (c : ZoneCauses) : State :=
  { (line.setZone .a { line.zone .a with raw := !low, filtered := filtered, exitAuto := auto, causes := c }) with
    mga := { line.mga with time := 50 } }

/-- The filter is in force: the level has lasted. -/
def lasted (s : State) (ms : Nat) : Bool := heldFor (s.zone .a) s.mga.time ms

theorem witness_trapInputs :
    held.mga.inReset = true
    ∧ (let s := line.setZone .a { line.zone .a with raw := !(line.zone .a).raw, changedAt := line.mga.time }
       Running line ∧ assertDue s .a = false ∧ releaseDue s .a = false)
    ∧ (let s := input true false false noCauses
       Running s ∧ (s.zone .a).trapped = false ∧ lasted s (s.zone .a).assertFilter)
    ∧ (let s := input true false false { noCauses with reset := true }
       Running s ∧ (s.zone .a).trapped = true ∧ lasted s (s.zone .a).assertFilter)
    ∧ (let s := input false true false { noCauses with pin := true }
       Running s ∧ lasted s (s.zone .a).releaseFilter)
    ∧ (let s := input false true true { noCauses with pin := true, command := true }
       Running s ∧ lasted s (s.zone .a).releaseFilter)
    ∧ (let s := paused 1 trapOnly (input false true true { noCauses with pin := true })
       Running s ∧ lasted s (s.zone .a).releaseFilter ∧ (s.station 1).holds = trapOnly
         ∧ EndsCalmly (fun x => (s.station x).cfg.zone = .a ∧ (s.station x).holds = trapOnly) s) :=
  ⟨by decide +kernel, by decide +kernel, by decide +kernel, by decide +kernel, by decide +kernel, by decide +kernel,
    by decide +kernel, by decide +kernel, by decide +kernel,
    endsCalmly (by decide +kernel) (by decide +kernel) (by decide +kernel)⟩

/-- Counter 0 samples the DIQ's length. -/
def sampling (threshold : Nat) (edge : Bool) : State :=
  { line with lmn := { line.lmn with counters := upd line.lmn.counters 0 (fun c =>
      { c with source := .occ .diq, threshold := threshold, edge := edge }) } }

/-- The tick's own step of the time. -/
def ticked (s : State) : State := { s with mga := { s.mga with time := s.mga.time + 1, prescaler := 0 } }

theorem witness_tick : Running line ∧ NothingDue { line with mga := { line.mga with time := line.mga.time + 1 } } :=
  ⟨by decide +kernel, nothingDue (by decide +kernel)⟩

/-- Pallet 7 on its way to station 1, its deadline at time `t`. -/
def underway (t : Time) : State := withRecord 47 (record 7 (.transit 1 t)) line

theorem witness_tickTakesWhatIsDue :
    let now := ticked (underway 1)
    let u := after (.transitExpiry 47) now
    Running (underway 1) ∧ exec (.transitExpiry 47) now = .next u ∧ u ≠ now
    ∧ (∀ j, isTimed j = true → j ≠ .transitExpiry 47 → exec j now = .next now) ∧ NothingDue u :=
  ⟨by decide +kernel, exec_after (by decide +kernel), by decide +kernel, only_due (by decide +kernel),
    nothingDue (by decide +kernel)⟩

/-- R149, R186: a low level since time 0 with a filter of 3 ms is ACTIVE after the tick to time 3, not before. -/
theorem test_tick_judges_the_new_time :
    let s (t : Time) : State := { line.setZone .a { line.zone .a with raw := false, changedAt := 0 } with
      mga := { line.mga with time := t } }
    ((after .timeTick (s 1)).zone .a).filtered = false ∧ ((after .timeTick (s 2)).zone .a).filtered = true := by
  decide +kernel

theorem witness_tickAndScan :
    [sampling 0 false, sampling 1 false, sampling 0 true].all (fun s =>
      decide (Running s) && (s.lmn.counters.get 0).source == .occ .diq) = true
    ∧ (Running line ∧ scanSet line = 0)
    ∧ (let s := { corrupted with fcu := { corrupted.fcu with restricted := false } }
       Running s ∧ scanSet s ≠ 0 ∧ (s.faultRec 19).pending = false ∧ (s.fcu.reaction.get 19).level = .restrict) := by
  decide +kernel

/-! ### Witnesses: expiries and ends -/

theorem witness_transitExpiry :
    (Running (underway 0) ∧ (underway 0).ptb.slots.get 47 = some (record 7 (.transit 1 0))
      ∧ (0 - (underway 0).mga.time).toInt ≤ 0 ∧ ∀ x, ((underway 0).proc x).wait ≠ .route)
    ∧ HasRecord 7 47 (record 7 (.transit 1 0)) (underway 0) :=
  ⟨by decide +kernel, hasRecord (by decide +kernel) rfl (by decide +kernel)⟩

/-- Fault kind 13 PENDING at a level with its expiry now. -/
def rising (l : Level) (esc : Nat) : State :=
  { line with fcu := { line.fcu with
      records := upd line.fcu.records 13 (fun r => { r with pending := true, level := l, expiry := some 0 })
      reaction := upd line.fcu.reaction 13 (fun r => { r with escalation := esc }) } }

theorem witness_escalation :
    [rising .report 100, rising .lineTrap 100, rising .zoneTrap 0].all (fun s =>
      decide (Running s) && (s.faultRec 13).pending && (s.faultRec 13).expiry == some 0
        && decide (((0 : Time) - s.mga.time).toInt ≤ 0)) = true := by decide +kernel

theorem witness_settled :
    Running settled ∧ (settled.proc 1).settleEnd = some 0 ∧ (settled.proc 1).settleTaken = false ∧ ((0 : Time) - settled.mga.time).toInt ≤ 0
    ∧ (settled.proc 1).settleSucc = some .operation ∧ (settled.proc 1).pallet = some 7
    ∧ settled.record? 7 = some (record 7 (.present 1))
    ∧ (currentStep settled (record 7 (.present 1))).bind (·.op? 0)
        = some { stop := 2, pattern := 3, program := 41, limit := 450 }
    ∧ (settled.station 1).sensed = some 3 ∧ (settled.station 1).commanded = some 3
    ∧ (settled.station 1).isAt (targetOf (settled.station 1).cfg 2 0) = true
    ∧ (settled.station 1).pendingMode = none ∧ hasEntry settled 1 = false ∧ settled.fcu.restricted = false
    ∧ freeEntry settled = some 0 ∧ (∀ y, (settled.proc y).wait ≠ .entry) ∧ hardCheck settled 1 .cycle = none
    ∧ (∀ i, (settled.ilk.table.get i).valid = false) ∧ settled.chi.deq.length < 16 ∧ sendingWaiters settled = [] := by
  decide +kernel

theorem test_settled_cycle :
    (after (.settleExpiry 1) settled).chi.deq.map (fun d => (d.msg.kind, d.msg.argA, d.entry)) = [(kCycle, 41, some 0)]
    ∧ ((after (.settleExpiry 1) settled).proc 1).pstate = .machining := by decide +kernel

/-- A report of station 1 that the device applies in `s`. -/
def applied (k : Byte) (m : Msg) (s : State) : Bool := decide (BetweenEvents s ∧ ReportAt k m 1 s)

/-- Entry 5 is the only one of station 1. -/
theorem only_entry {en : Entry} {s : State} (hs : ∀ j, (s.entry? j).all (fun q => decide (q.station = 1 → j = 5)) = true) :
    ∀ j q, s.entry? j = some q → q.station = en.station → en.station = 1 → j = 5 := by
  intro j q h h1 h2
  simpa [h1, h2] using all_some (v := s.mrt.entries) (p := fun j q => decide (q.station = 1 → j = 5)) hs j q h

/-- Entry 5 at station 1 and nothing else. -/
def busy (p : Params) (es : EState) (dl : Option Time) : State :=
  withEntry 5 { entry 1 p es with deadline := dl } line

theorem witness_cycleEnd :
    (let s := claimed (busy (.cycle 41 2 none) .issued none)
     applied kCycleEnd (report kCycleEnd 1 3 0 2 1) s ∧ NobodyWaits s ∧ (s.station 1).pendingMode = none
       ∧ (s.entry? 5).isSome = true)
    ∧ ∀ j q, (claimed (busy (.cycle 41 2 none) .issued none)).entry? j = some q → q.station = 1 → j = 5 :=
  ⟨by decide +kernel, fun j q h h1 => only_entry (en := entry 1 (.clamp 0) .issued) (by decide +kernel) j q h h1 rfl⟩

theorem witness_entryDeadline :
    [Params.move 3 9 none, .clamp 3, .cycle 4 0 none, .release 2].all (fun p =>
      let s := busy p .issued (some 0)
      decide (Running s) && decide (NobodyWaits s) && decide ((s.station 1).pendingMode = none)
        && (s.entry? 5).any (fun en => en.deadline == some 0 && decide (((0 : Time) - s.mga.time).toInt ≤ 0))
        && (List.finRange 24).all (fun j => (s.entry? j).all (fun q => decide (q.station = 1 → j = 5)))) = true := by
  decide +kernel

/-- Entry 5, an ISSUED RELEASE of pallet 7 from station 1 to `dest` whose deadline is now. -/
def releasing (o : Occupant) (rs : RState) (dest : Word) : State :=
  withEntry 5 { entry 1 (.release dest) .issued with deadline := some 0, released := some 7 }
    ((withRecord 47 (record 7 rs) line).modStn 1 (fun r => { r with occupant := o }))

theorem witness_releaseTimeout :
    [(Occupant.tracked 7, RState.transit 2 9), (.tracked 7, .lost (some 2)), (.nobody, .transit 2 9), (.tracked 7, .present 2),
        (.tracked 7, .transit 3 9), (.tracked 7, .lost (some 3))].all (fun x =>
      let s := releasing x.1 x.2 2
      decide (Running s) && decide (NobodyWaits s) && decide ((s.station 1).pendingMode = none) && onlyEntry 5 1 s
        && s.ptb.slots.get 47 == some (record 7 x.2) && aloneAt 7 47 s) = true := by decide +kernel

/-- Entry 5 DEFERRED behind interlock entry 9, its deferral deadline now. -/
def waiting : State :=
  { busy (.clamp 3) .deferred none with
    ilk := { line.ilk with deferred := [{ entry := 5, deadline := 0, deferring := 9 }] } }

theorem witness_deferExpiry :
    (Running waiting ∧ (waiting.entry? 5).isSome = true ∧ ((0 : Time) - waiting.mga.time).toInt ≤ 0
      ∧ (freeEntry waiting).isSome = true
      ∧ (∀ y, (waiting.proc y).wait = .nothing ∧ (waiting.proc y).due = none ∧ (waiting.proc y).replan = false)
      ∧ (waiting.station 1).pendingMode = none)
    ∧ ∀ j q, waiting.entry? j = some q → q.station = 1 → j = 5 :=
  ⟨by decide +kernel, fun j q h h1 => only_entry (en := entry 1 (.clamp 0) .issued) (by decide +kernel) j q h h1 rfl⟩

/-! ### Witnesses: reports -/

/-- Pallet 7 in a state of its record, with an approach list of station 1, its recipe's step at the stations of `group`. -/
def tagged (rs : RState) (l : List Tag) (group : StnSet) : State :=
  let s := withRecord 47 (record 7 rs) (claimed (withBank 1 .active (some 1) (recipes group) line))
  { s with ptb := { s.ptb with approach := upd s.ptb.approach 1 (fun _ => l) } }

/-- The same with an occupant of station 1. -/
def occupied (o : Occupant) (rs : RState) : State := (tagged rs [] 2).modStn 1 (fun r => { r with occupant := o })

theorem witness_tagReRead :
    ([RState.present 1, .transit 2 0, .present 2, .lost none].all (fun rs =>
      applied kTag (report kTag 1 3 7 0 0) (occupied (.tracked 7) rs)
        && decide ((occupied (.tracked 7) rs).ilk.deferred = []) && aloneAt 7 47 (occupied (.tracked 7) rs)
        && (occupied (.tracked 7) rs).ptb.slots.get 47 == some (record 7 rs))) = true
    ∧ (let s := occupied (.unmanaged 7) (.present 2)
       applied kTag (report kTag 1 3 7 0 0) s ∧ (s.station 1).occupant = .unmanaged 7)
    ∧ (let s := occupied (.tracked 9) (.present 2)
       applied kTag (report kTag 1 3 7 0 0) s ∧ applied kTag (report kTag 1 3 8 0 0) s
         ∧ ∀ j, (s.ptb.slots.get j).all (fun q => decide (q.tag ≠ 8)) = true)
    ∧ (let s := occupied .nobody (.present 2)
       applied kTag (report kTag 1 3 7 0 0) s ∧ applied kTag (report kTag 1 3 0 0 0) s ∧ aloneAt 7 47 s
         ∧ s.ptb.slots.get 47 = some (record 7 (.present 2)) ∧ (1 : Stn) ≠ s.stb.load) := by decide +kernel

theorem witness_tagArrivals :
    [(RState.transit 1 0, [(7 : Tag), 8]), (.transit 1 0, [8, 7, 9]), (.lost (some 1), []), (.transit 2 0, []),
        (.lost none, [])].all
      (fun x => [(2 : StnSet), 4].all (fun group =>
        let s := tagged x.1 x.2 group
        applied kTag (report kTag 1 3 7 0 0) s && decide (NobodyWaits s) && (s.station 1).mode != .auto
          && (s.station 1).occupant == .nobody && aloneAt 7 47 s && s.ptb.slots.get 47 == some (record 7 x.1)
          && s.ptb.approach.get 1 == x.2)) = true
    ∧ inCurrentGroup (tagged (.transit 2 0) [] 2) (record 7 (.transit 2 0)) 1 = true
    ∧ inCurrentGroup (tagged (.transit 2 0) [] 4) (record 7 (.transit 2 0)) 1 = false := by decide +kernel

/-- Pallet 7 arrives at the AUTO station 1, whose clamps are closed for another pattern. -/
def atAuto (r : Bool) (h : HoldCauses) : State :=
  (tagged (.transit 1 0) [7] 2).modStn 1 (fun x =>
    { x with mode := .auto, tool := .retracted, sensed := some 1, commanded := some 1, referenced := r, holds := h })

theorem witness_tagAtAuto :
    [atAuto false noHolds, atAuto true noHolds, atAuto true { noHolds with operator := true }].all (fun s =>
      applied kTag (report kTag 1 3 7 0 0) s && decide (NobodyWaits s) && isMachining s 1 && (s.station 1).mode == .auto
        && (s.proc 1).pstate == .empty && aloneAt 7 47 s && s.ptb.slots.get 47 == some (record 7 (.transit 1 0))
        && s.ptb.approach.get 1 == [7] && !(s.proc 1).stepEnded
        && (currentStep s (record 7 (.transit 1 0))).any (fun k => k.group.getLsbD 1 && (k.op? 0).any (fun o => o.pattern == 3))
        && (s.station 1).pendingMode == none && !hasEntry s 1 && freeEntry s == some 0) = true
    ∧ (let s := atAuto true noHolds
       hardCheck s 1 (.clamp 3) = none ∧ (∀ n, (s.ilk.table.get n).valid = false) ∧ sendingWaiters s = []
         ∧ s.chi.deq.length < 16)
    ∧ (atAuto true { noHolds with operator := true }).held 1 = true := by decide +kernel

/-- Station 1 is the load station and bank 1 ACTIVE. -/
def loading : State :=
  let s := claimed (withBank 1 .active (some 1) (recipes 2) line)
  { s with stb := { s.stb with load := 1 } }

theorem witness_loadStation :
    applied kTag (report kTag 1 3 7 0xFDA8 8) loading ∧ loading.ilk.deferred = [] ∧ loading.stb.load = 1
    ∧ (loading.station 1).mode ≠ .auto ∧ (loading.station 1).occupant = .nobody ∧ (∀ j, loading.ptb.slots.get j = none)
    ∧ activeBank loading = some 1 ∧ (loading.rcs.banks.get 1).generation = some 1
    ∧ 0 < ((loading.rcs.banks.get 1).recipes.get (tagVariant (report kTag 1 3 7 0xFDA8 8))).len
    ∧ (applied kTag (report kTag 1 3 7 0 1) loading
      ∧ ((loading.rcs.banks.get 1).recipes.get (tagVariant (report kTag 1 3 7 0 1))).len = 0)
    ∧ applied kTag (report kTag 1 3 0 0 0) loading := by decide +kernel

/-- Station 1 the load station with an occupant, pallet 7 in a state of its record. -/
def loadingWith (o : Occupant) (rs : RState) : State := (withRecord 47 (record 7 rs) loading).modStn 1 (fun r => { r with occupant := o })

theorem witness_loadStationRecords :
    [(Occupant.tracked 7, RState.transit 2 0), (.tracked 9, .present 2), (.nobody, .present 2), (.tracked 7, .present 1),
        (.nobody, .transit 2 0), (.nobody, .transit 1 0), (.nobody, .lost none), (.unmanaged 7, .lost (some 1))].all (fun x =>
      let s := loadingWith x.1 x.2
      applied kTag (report kTag 1 3 7 0 0) s && decide (s.ilk.deferred = []) && s.stb.load == 1 && aloneAt 7 47 s
        && s.ptb.slots.get 47 == some (record 7 x.2) && decide (NobodyWaits s) && (s.station 1).mode != .auto
        && activeBank s == some 1 && retiringBank s == none) = true
    ∧ applied kTag (report kTag 1 3 7 0 1) (loadingWith (.tracked 7) (.present 1)) := by decide +kernel

/-- Every slot in use. -/
def fullTable : State :=
  { loading with ptb := { loading.ptb with
      slots := Vector.ofFn (fun i => some (record (BitVec.ofNat 12 (1000 + i.val)) (.lost none))) } }

theorem witness_fullTable :
    applied kTag (report kTag 1 3 7 0 0) fullTable ∧ (∀ j, fullTable.ptb.slots.get j ≠ none)
    ∧ ∀ j, (fullTable.ptb.slots.get j).all (fun q => decide (q.tag ≠ 7)) = true := by decide +kernel

/-- The load station AUTO and held, the first group station 2. -/
def routed (md : Mode) : State :=
  let s := claimed (withBank 1 .active (some 1) (recipes 4) line)
  let s := ({ s with stb := { s.stb with load := 1 } }).modStn 2 (fun r => { r with mode := md })
  s.modStn 1 (fun r => { r with mode := .auto, holds := { noHolds with operator := true } })

theorem witness_loadStationAuto :
    [routed .manual, routed .auto].all (fun s =>
      applied kTag (report kTag 1 3 7 0 0) s && (s.station 1).mode == .auto && bankOf s 1 == activeBank s
        && decide (∀ e, s.entry? e = none) && (s.proc 1).pstate == .empty && decide (∀ y, (s.proc y).wait = .nothing)
        && ((oneStep 4).steps.get 0).group == 1#16 <<< (2 : Stn).val) = true
    ∧ ((routed .manual).station 2).mode ≠ .auto
    ∧ (let s := routed .auto
       (s.station 2).mode = .auto ∧ (s.ptb.approach.get 2).length < (s.station 2).cfg.capacity ∧ s.held 1 = true
         ∧ s.fcu.restricted = false ∧ (s.station 1).pendingMode = none) := by decide +kernel

/-- Raw offset -600 under an offset_max of 512. -/
theorem test_admission_limits :
    ((after (.tagReport (report kTag 1 3 7 0xFDA8 8)) loading).ptb.slots.get 0).map
      (fun r => (r.offset, r.quality.offsetLimited, r.variant.val)) = some (-512, true, 0) := by decide +kernel

def plan : Plan := { rev := false, dist := 100, start := 8900, timeout := some 20 }

theorem witness_angleReports :
    applied kAt (report kAt 1 3 0 100 3) (claimed (busy (.move 3 9000 (some plan)) .issued none))
    ∧ (applied kAt (report kAt 1 3 0 32 2) (claimed ready) ∧ inFlight (claimed ready) 1 .move = none
      ∧ (ready.station 1).mode ≠ .out ∧ (ready.station 1).cfg.tol = 32)
    ∧ applied kAt (report kAt 1 3 0 33 2) (claimed ready)
    ∧ (let s := claimed (busy (.move 3 9000 (some plan)) .issued none)
       applied kAt (report kAt 1 3 0 8950 1) s ∧ inFlight s 1 .move = some 5 ∧ s.ilk.deferred = [])
    ∧ (let s := claimed (busy (.move 3 9000 (some plan)) .issued none)
       applied kAt (report kAt 1 3 0 9032 0) s ∧ NobodyWaits s ∧ atTarget (s.station 1).cfg.tol 9032 9000 = true
         ∧ (windAfter plan 32 9032 (s.station 1).w).natAbs ≤ (s.station 1).cfg.windLimit) := by decide +kernel

theorem witness_driveFault :
    applied kAt (report kAt 1 3 0 0 4) (claimed ready) ∧ applied kAt (report kAt 1 3 0 0 0xFFFF) (claimed ready)
    ∧ ready.ilk.deferred = [] := by decide +kernel

/-- Entry 5 is all there is, and the report is applied. -/
def endsBy (k : Byte) (m : Msg) (p : Params) (es : EState) : Prop :=
  let s := claimed (busy p es none)
  applied k m s = true ∧ s.entry? 5 = some (entry 1 p es) ∧ LeavesAlone 5 (entry 1 p es) s ∧ s.ilk.deferred = []

theorem endsBy_of {k : Byte} {m : Msg} {p : Params} {es : EState}
    (h : (let s := claimed (busy p es none)
      applied k m s = true ∧ s.entry? 5 = some (entry 1 p es) ∧ s.ilk.deferred = [] ∧ (s.station 1).pendingMode = none
        ∧ (∀ y, (s.proc y).wait = .nothing ∧ (s.proc y).due = none ∧ (s.proc y).replan = false)
        ∧ (freeEntry s).isSome = true ∧ onlyEntry 5 1 s = true)) : endsBy k m p es :=
  ⟨h.1, h.2.1, leavesAlone ⟨rfl, h.2.2.2.1, h.2.2.2.2.1, h.2.2.2.2.2.1⟩ h.2.2.2.2.2.2, h.2.2.1⟩

/-- A MOVE of station 1 to 9000 with its plan. -/
def underWay9000 : Params := .move 3 9000 (some plan)

theorem witness_reportsEndMoves :
    (endsBy kAt (report kAt 1 3 0 9000 2) underWay9000 .issued ∧ endsBy kAt (report kAt 1 3 0 8000 0) underWay9000 .issued
      ∧ atTarget 32 8000 9000 = false)
    ∧ (endsBy kAt (report kAt 1 3 0 9032 0) underWay9000 .cancelling ∧ atTarget 32 9032 9000 = true
      ∧ (windAfter plan 32 9032 (line.station 1).w).natAbs ≤ (line.station 1).cfg.windLimit)
    ∧ (endsBy kAt (report kAt 1 3 0 8950 2) underWay9000 .cancelling
      ∧ (windAfter plan 32 8950 (line.station 1).w).natAbs ≤ (line.station 1).cfg.windLimit) :=
  ⟨⟨endsBy_of (by decide +kernel), endsBy_of (by decide +kernel), by decide +kernel⟩,
    ⟨endsBy_of (by decide +kernel), by decide +kernel⟩, endsBy_of (by decide +kernel), by decide +kernel⟩

theorem witness_reportsEndOthers :
    (endsBy kCycleEnd (report kCycleEnd 1 3 0 2 0) (.cycle 41 2 none) .cancelling
      ∧ endsBy kCycleEnd (report kCycleEnd 1 3 0 2 1) (.cycle 41 2 none) .cancelling
      ∧ endsBy kCycleEnd (report kCycleEnd 1 3 0 2 2) (.cycle 41 2 none) .cancelling)
    ∧ (endsBy kClamped (report kClamped 1 3 0 15 0) (.clamp 15) .issued)
    ∧ (endsBy kGone (report kGone 1 3 0 0 0) (.release 2) .issued ∧ endsBy kGone (report kGone 1 3 0 0 0) (.release 2) .sending
      ∧ (line.station 1).mode ≠ .auto ∧ ∀ i, line.ptb.slots.get i = none) :=
  ⟨⟨endsBy_of (by decide +kernel), endsBy_of (by decide +kernel), endsBy_of (by decide +kernel)⟩,
    endsBy_of (by decide +kernel), endsBy_of (by decide +kernel), endsBy_of (by decide +kernel), by decide +kernel⟩

/-- R129: STOPPED frees the CANCELLING MOVE, and its STOP leaves the UGQ. -/
theorem test_cancelled_move_ends :
    let s := claimed (busy underWay9000 .cancelling none)
    let s := { s with chi := { s.chi with ugq := [{ msg := msg 3 62 kStop 1 7 0 0, entry := 5 }] } }
    ((after (.atReport (report kAt 1 3 0 8950 2)) s).entry? 5).isNone
    ∧ (after (.atReport (report kAt 1 3 0 8950 2)) s).chi.ugq = [] := by decide +kernel

theorem witness_otherReports :
    (applied kClamped (report kClamped 1 3 0 15 0) (claimed line) ∧ ∀ e, line.entry? e = none)
    ∧ applied kTool (report kTool 1 3 0 0 0) (claimed ready) ∧ applied kTool (report kTool 1 3 0 2 0) (claimed ready)
    ∧ (applied kTool (report kTool 1 3 0 1 0) (claimed line) ∧ (line.station 1).mode = .out)
    ∧ (applied kTool (report kTool 1 3 0 1 0) (claimed (inMode .manual line))
      ∧ atAStop (claimed (inMode .manual line)) 1 = false)
    ∧ (applied kGone (report kGone 1 3 0 0 0) (claimed line) ∧ (line.station 1).occupant = .nobody)
    ∧ [RState.present 1, .transit 2 0, .lost none].all (fun rs =>
        let s := (withRecord 47 (record 7 rs) (claimed line)).modStn 1 (fun r => { r with occupant := .tracked 7 })
        applied kGone (report kGone 1 3 0 0 0) s && (s.station 1).mode != .auto) = true
    ∧ applied kNodeFault (report kNodeFault 1 3 0 0 0) (claimed line) := by decide +kernel

/-- R72: a MOVE in flight, an opening not confirmed, and a fixture at a stop with its clamps as commanded. -/
theorem witness_toolReports :
    let advanced := report kTool 1 3 0 1 0
    let moving := claimed (withEntry 5 (entry 1 (.move 3 9 none) .cancelling) ready)
    let opening := claimed (withEntry 5 (entry 1 (.clamp 1) .issued) (ready.modStn 1 (fun r => { r with commanded := some 1 })))
    let closing := claimed (withEntry 5 (entry 1 (.clamp 3) .issued) ready)
    (applied kTool advanced moving ∧ MoveInFlight 1 moving)
    ∧ (applied kTool advanced opening ∧ ∃ q ∈ (opening.station 1).sensed, ∃ c ∈ (opening.station 1).commanded, q &&& ~~~c ≠ 0)
    ∧ (applied kTool advanced closing ∧ ¬ MoveInFlight 1 closing ∧ FixtureAtAStop 1 closing
      ∧ ∃ q ∈ (closing.station 1).sensed, ∃ c ∈ (closing.station 1).commanded, q &&& ~~~c = 0)
    ∧ ¬ FixtureAtAStop 1 (claimed (inMode .manual line)) := by
  dsimp only [MoveInFlight]
  decide +kernel

/-! ### Witnesses: transmission -/

def aMsg : Msg := msg 0 62 kNotice 255 0 0 0

theorem witness_portA :
    (let s := { line with chi := { line.chi with uiq := [aMsg], nq := [aMsg], lastServed := .nq } }
     Running s ∧ s.chi.a.up = true ∧ s.chi.a.tx = none)
    ∧ (let s := { line with chi := { line.chi with uiq := [aMsg], nq := [aMsg], lastServed := .uiq } }
       Running s ∧ s.chi.a.up = true ∧ s.chi.a.tx = none)
    ∧ (let s := { queued 15 line with mrt := { line.mrt with kept := [aMsg] } }
       Running s ∧ s.chi.nq.length < 16)
    ∧ (let s := line.setPort .b { line.chi.b with tx := some aMsg }
       Running s ∧ (s.port .b).tx.isSome = true)
    ∧ (linkDown .a line).chi.a.up = false := by decide +kernel

theorem witness_holdImage :
    (let s := { line with chi := { line.chi with softHold := true } }
     Running s ∧ canStart s .b true = true ∧ s.chi.softHold = true)
    ∧ (let s := allHeld line
       Running s ∧ canStart s .b true = true ∧ s.chi.softHold = false ∧ holdDue s ≠ 0)
    ∧ (let s := { line with chi := { line.chi with sent := 0x8001 } }
       Running s ∧ canStart s .b true = true ∧ holdDue s = 0 ∧ resumeDue s = 0x8001 ∧ sendingWaiters s = []
         ∧ s.chi.deq.length + (s.chi.owed ||| resumeDue s).members.length ≤ 16) := by decide +kernel

/-- Heads of the DEQ and the UGQ. -/
def sends (d : DeqItem) (s : State) : State := { s with chi := { s.chi with deq := [d] } }

theorem witness_portB :
    [line, heldBy line].all (fun l =>
      let s := withEntry 5 (entry 1 (.move 3 9 none) .cancelling) l
      let s := { s with chi := { s.chi with ugq := [{ msg := aMsg, entry := 5 }], sent := heldSet s } }
      decide (Running s) && decide (PortBFree s) && (s.entry? 5).isSome) = true
    ∧ (let s := sends { msg := msg 3 0 kStatusReq 1 0 0 0, entry := none } line
       Running s ∧ PortBFree s ∧ judgedMsg? (msg 3 0 kStatusReq 1 0 0 0) = none)
    ∧ (let s := sends { msg := msg 3 0 kClamp 1 0 0 0, entry := none } line
       Running s ∧ PortBFree s ∧ judgedMsg? (msg 3 0 kClamp 1 0 0 0) = some (.clamp 0)
         ∧ hardCheck s 1 (.clamp 0) = some 2)
    ∧ (let s := sends { msg := msg 3 0 kClamp 1 0 3 0, entry := some 5 } (withEntry 5 (entry 1 (.clamp 3) .sending) open1)
       Running s ∧ PortBFree s ∧ hardCheck s 1 (.clamp 3) = none ∧ (s.entry? 5).isSome = true)
    ∧ (let s := sends { msg := msg 3 0 kJog 1 0 3 0, entry := none } line
       Running s ∧ PortBFree s ∧ (s.station 1).mode ≠ .auto)
    ∧ (let s := sends { msg := msg 3 0 kMove 1 0 9000 0, entry := some 5 }
        (withEntry 5 (entry 1 (.move 3 9000 (some { rev := false, dist := 100, start := 8900, timeout := some 20 })) .sending) open1)
       Running s ∧ PortBFree s ∧ hardCheck s 1 .move = none ∧ (s.entry? 5).isSome = true)
    ∧ (let s := sends { msg := msg 3 0 kRelease 1 7 15 0, entry := some 5 } (withEntry 5 (entry 1 (.release 15) .sending)
        ((withRecord 47 (record 7 (.present 1)) open1).modStn 1 (fun r => { r with occupant := .tracked 7 })))
       Running s ∧ PortBFree s ∧ hardCheck s 1 .release = none ∧ (s.station 1).occupant = .tracked 7 ∧ aloneAt 7 47 s
         ∧ s.ptb.slots.get 47 = some (record 7 (.present 1)) ∧ (s.ptb.approach.get 15).length < 8)
    ∧ (let s := sends { msg := msg 3 0 kRelease 1 7 15 0, entry := none }
        ((withRecord 47 (record 7 (.present 1)) open1).modStn 1 (fun r => { r with occupant := .tracked 7 }))
       Running s ∧ PortBFree s ∧ hardCheck s 1 .release = none ∧ (s.station 1).occupant = .tracked 7 ∧ aloneAt 7 47 s
         ∧ s.ptb.slots.get 47 = some (record 7 (.present 1)) ∧ (s.ptb.approach.get 15).length < 8)
    ∧ (let s := { line with chi := { line.chi with owed := 0x8000 } }
       Running s ∧ s.chi.deq.length < 16 ∧ sendingWaiters s = [] ∧ s.chi.owed.getLsbD 15 = true
         ∧ ∀ x : Stn, x < 15 → s.chi.owed.getLsbD x.val = false)
    ∧ (let s := withEntry 23 (entry 1 (.clamp 3) .sending) line
       Running s ∧ s.chi.deq = [] ∧ ∀ j, j ≠ 23 → s.entry? j = none) := by decide +kernel

/-- A CLAMP of entry 5 that fails H2 at its transmission; a RELEASE to no station, and one to a station whose list is full. -/
theorem witness_portBFailures :
    (let s := sends { msg := msg 3 0 kClamp 1 7 0 0, entry := some 5 } (withEntry 5 (entry 1 (.clamp 0) .sending) line)
     Running s ∧ PortBFree s ∧ hardCheck s 1 (.clamp 0) = some 2 ∧ LeavesAlone 5 (entry 1 (.clamp 0) .sending) s)
    ∧ (let there := (withRecord 47 (record 7 (.present 1)) open1).modStn 1 (fun r => { r with occupant := .tracked 7 })
       let full := { there with ptb := { there.ptb with approach := upd there.ptb.approach 15 (fun _ => [1, 2, 3, 4, 5, 6, 8, 9]) } }
       [sends { msg := msg 3 0 kRelease 1 7 16 0, entry := none } there,
         sends { msg := msg 3 0 kRelease 1 7 15 0, entry := some 5 } (withEntry 5 (entry 1 (.release 15) .sending) full)].all
         (fun s => decide (Running s) && decide (PortBFree s) && decide (hardCheck s 1 .release = none) && decide (aloneAt 7 47 s)
           && (s.station 1).occupant == .tracked 7 && s.ptb.slots.get 47 == some (record 7 (.present 1))
           && allStn.all (fun y => (s.proc y).wait != .route)) = true
       ∧ 8 ≤ (full.ptb.approach.get 15).length) :=
  ⟨⟨by decide +kernel, by decide +kernel, by decide +kernel, leavesAlone (by decide +kernel) (by decide +kernel)⟩,
    by decide +kernel, by decide +kernel⟩

/-- Pallet 7 PRESENT at station 1, whose clamps hold it at stop 2, a CYCLE of operation `op` at the head of the DEQ. -/
def cycling (op : Word) (lim : Option Nat) : State :=
  let s := withEntry 5 (entry 1 (.cycle 41 op lim) .sending) settled
  sends { msg := msg 3 0 kCycle 1 7 41 op, entry := some 5 } s

theorem witness_portBCycle :
    [cycling 0 (some 9), cycling 0 none, cycling 5 none].all (fun s =>
      decide (Running s) && decide (PortBFree s) && decide (hardCheck s 1 .cycle = none) && (s.entry? 5).isSome
        && (s.proc 1).pallet == some 7 && (s.station 1).occupant == .tracked 7
        && s.record? 7 == some (record 7 (.present 1))) = true
    ∧ ((currentStep (cycling 0 none) (record 7 (.present 1))).bind (·.op? 0)).isSome = true
    ∧ ((currentStep (cycling 5 none) (record 7 (.present 1))).bind (·.op? 5)) = none := by decide +kernel

end Sys2Proof.Tests
end

section
namespace Sys2Proof.Machine

/-! ### The capacities (R1, R28, R142) under the operations of the state -/

section
variable {s t : State}

/-- A state whose queues, deferred list and approach lists are those of one within its capacities. -/
theorem WithinCapacity.congr (h : WithinCapacity s) (hc : t.chi = s.chi) (hd : t.ilk.deferred = s.ilk.deferred)
    (ha : t.ptb.approach = s.ptb.approach) : WithinCapacity t := by
  obtain ⟨hdiq, huiq, hdeq, hugq, hnq, hdef, happ⟩ := h
  constructor <;> simp only [hc, hd, ha] <;> assumption

/-- An update that leaves the queues and lists is as much within the capacities as the state before it. -/
theorem withinCapacity_congr (hc : t.chi = s.chi) (hd : t.ilk.deferred = s.ilk.deferred)
    (ha : t.ptb.approach = s.ptb.approach) : WithinCapacity t ↔ WithinCapacity s :=
  ⟨fun h => h.congr hc.symm hd.symm ha.symm, fun h => h.congr hc hd ha⟩

@[simp] theorem withinCapacity_modStn (st : Stn) (f : Station → Station) :
    WithinCapacity (s.modStn st f) ↔ WithinCapacity s := withinCapacity_congr rfl rfl rfl

@[simp] theorem withinCapacity_modProc (st : Stn) (f : Process → Process) :
    WithinCapacity (s.modProc st f) ↔ WithinCapacity s := withinCapacity_congr rfl rfl rfl

@[simp] theorem withinCapacity_setEntry (e : EntryNo) (v : Option Entry) :
    WithinCapacity (s.setEntry e v) ↔ WithinCapacity s := withinCapacity_congr rfl rfl rfl

@[simp] theorem withinCapacity_modEntry (e : EntryNo) (f : Entry → Entry) :
    WithinCapacity (s.modEntry e f) ↔ WithinCapacity s := withinCapacity_congr rfl rfl rfl

@[simp] theorem withinCapacity_setSlot (i : Slot) (r : Option Record) :
    WithinCapacity (s.setSlot i r) ↔ WithinCapacity s := withinCapacity_congr rfl rfl rfl

@[simp] theorem withinCapacity_modSlot (i : Slot) (f : Record → Record) :
    WithinCapacity (s.modSlot i f) ↔ WithinCapacity s := withinCapacity_congr rfl rfl rfl

@[simp] theorem withinCapacity_modFaultRec (k : FaultKind) (f : FaultRec → FaultRec) :
    WithinCapacity (s.modFaultRec k f) ↔ WithinCapacity s := withinCapacity_congr rfl rfl rfl

@[simp] theorem withinCapacity_modMga (f : Mga → Mga) : WithinCapacity (s.modMga f) ↔ WithinCapacity s :=
  withinCapacity_congr rfl rfl rfl

@[simp] theorem withinCapacity_modEv (f : Within → Within) : WithinCapacity (s.modEv f) ↔ WithinCapacity s :=
  withinCapacity_congr rfl rfl rfl

@[simp] theorem withinCapacity_setZone (z : Zone) (v : ZoneState) :
    WithinCapacity (s.setZone z v) ↔ WithinCapacity s :=
  withinCapacity_congr (State.setZone_chi ..) (by rw [State.setZone_ilk]) (by rw [State.setZone_ptb])

@[simp] theorem withinCapacity_lmnEvent (src : EvSource) (st : Option Stn) (k : Option Byte) :
    WithinCapacity (lmnEvent src st k s) ↔ WithinCapacity s := withinCapacity_congr rfl rfl rfl

@[simp] theorem withinCapacity_setCounters (cs : Vector Counter 8) :
    WithinCapacity (s.setCounters cs) ↔ WithinCapacity s := withinCapacity_congr rfl rfl rfl

/-! #### The queues toward port A -/

@[simp] theorem postReply_within (m : Msg) (h : WithinCapacity s) : WithinCapacity (postReply m s) where
  diq := by simpa using h.diq
  uiq := by simpa using h.uiq
  deq := by simpa using h.deq
  ugq := by simpa using h.ugq
  nq := by
    unfold postReply
    split
    next hr => simp [Config.nqCap] at hr ⊢; omega
    next => exact h.nq
  deferred := by simpa using h.deferred
  approach := by simpa using h.approach

@[simp] theorem answerAction_within (m : Msg) (st : Status) (v : Word) (h : WithinCapacity s) :
    WithinCapacity (answerAction m st v s) := postReply_within _ h

@[simp] theorem answerTable_within (m : Msg) (st : Status) (v : Word) (h : WithinCapacity s) :
    WithinCapacity (answerTable m st v s) := postReply_within _ h

@[simp] theorem refuse_within (m : Msg) (r : Status) (d : Nat) (h : WithinCapacity s) : WithinCapacity (refuse m r d s) :=
  (withinCapacity_lmnEvent ..).2 (postReply_within _ h)

@[simp] theorem refuseHeld_within (m : Msg) (r : Status) (st : Stn) (h : WithinCapacity s) :
    WithinCapacity (refuseHeld m r st s) := (withinCapacity_lmnEvent ..).2 (postReply_within _ h)

@[simp] theorem refuseEntry_within (en : Entry) (r : Status) (d : Nat) (h : WithinCapacity s) :
    WithinCapacity (refuseEntry en r d s) := (withinCapacity_lmnEvent ..).2 (postReply_within _ h)

/-- R23: a NOTICE enters the NQ only with four places free beside those of the kept refusals, which it takes along. -/
theorem notice_nq_length (ev : Event) (st : Byte) (p : Tag) (d : Nat) (h : s.chi.nq.length ≤ 16) :
    (notice ev st p d s).chi.nq.length ≤ 16 := by
  unfold notice
  dsimp only
  split
  · exact h
  · split
    next hr =>
      simp only [nqFree, Config.noticePlaces, Config.nqCap, State.modMga_chi, State.modMga_mrt] at hr
      simp only [State.modChi_chi, State.modMga_chi, State.modMga_mrt, List.length_append, List.length_singleton]
      omega
    next => exact h

@[simp] theorem notice_within (ev : Event) (st : Byte) (p : Tag) (d : Nat) (h : WithinCapacity s) :
    WithinCapacity (notice ev st p d s) where
  diq := by simpa using h.diq
  uiq := by simpa using h.uiq
  deq := by simpa using h.deq
  ugq := by simpa using h.ugq
  nq := notice_nq_length ev st p d h.nq
  deferred := by simpa using h.deferred
  approach := by simpa using h.approach

@[simp] theorem flushMonitor_within (n : Nat) (h : WithinCapacity s) : WithinCapacity (flushMonitor n s) := by
  induction n generalizing s with
  | zero => exact h
  | succ n ih => unfold flushMonitor; split <;> [exact h; exact ih (notice_within _ _ _ _ ((withinCapacity_modEv _).2 h))]

@[simp] theorem closeEvent_within (h : WithinCapacity s) : WithinCapacity (closeEvent s) :=
  (flushMonitor_within 9 h).congr rfl rfl rfl

/-! #### The queues toward port B and the deferred list -/

/-- R14: messages placed in the DEQ within its room. -/
theorem withDeq_within {q : List DeqItem} (h : WithinCapacity s) (hq : q.length ≤ deqRoom s) :
    WithinCapacity (withDeq s q) where
  diq := h.diq
  uiq := h.uiq
  deq := by
    have := h.deq
    simp only [deqRoom, Config.deqCap] at hq
    simp only [withDeq, List.length_append]
    omega
  ugq := h.ugq
  nq := h.nq
  deferred := h.deferred
  approach := h.approach

@[simp] theorem pushDeq_within (m : Msg) (e : Option EntryNo) (h : WithinCapacity s) (hr : 0 < deqRoom s) :
    WithinCapacity (pushDeq m e s) := withDeq_within (q := [{ msg := m, entry := e }]) h hr

@[simp] theorem enqueueCommand_within (e : EntryNo) (h : WithinCapacity s) (hr : 0 < deqRoom s) :
    WithinCapacity (enqueueCommand e s) := by
  obtain ⟨q, hq, hl, -⟩ := enqueueCommand_eq e s
  exact hq ▸ withDeq_within h (by omega)

@[simp] theorem startSending_within (e : EntryNo) (h : WithinCapacity s) : WithinCapacity (startSending e s) := by
  obtain ⟨q, hq, hl, -⟩ := startSending_eq e s
  exact hq ▸ withDeq_within ((withinCapacity_modEntry ..).2 h) hl

@[simp] theorem dropDeq_within (e : EntryNo) (h : WithinCapacity s) : WithinCapacity (dropDeq e s) where
  diq := h.diq
  uiq := h.uiq
  deq := (List.length_filter_le ..).trans h.deq
  ugq := h.ugq
  nq := h.nq
  deferred := h.deferred
  approach := h.approach

@[simp] theorem dropUgq_within (e : EntryNo) (h : WithinCapacity s) : WithinCapacity (dropUgq e s) where
  diq := h.diq
  uiq := h.uiq
  deq := h.deq
  ugq := (List.length_filter_le ..).trans h.ugq
  nq := h.nq
  deferred := h.deferred
  approach := h.approach

@[simp] theorem dropDeferred_within (e : EntryNo) (h : WithinCapacity s) : WithinCapacity (dropDeferred e s) where
  diq := h.diq
  uiq := h.uiq
  deq := h.deq
  ugq := h.ugq
  nq := h.nq
  deferred := (List.length_filter_le ..).trans h.deferred
  approach := h.approach

/-! #### The DIQ and the approach lists -/

@[simp] theorem removeDiq_within (d : DiqItem) (h : WithinCapacity s) : WithinCapacity (removeDiq d s) where
  diq := by
    have : (s.chi.diq.erase d).length ≤ s.chi.diq.length := List.length_erase_le
    exact (Nat.add_le_add_right this _).trans h.diq
  uiq := h.uiq
  deq := h.deq
  ugq := h.ugq
  nq := h.nq
  deferred := h.deferred
  approach := h.approach

/-- R28: a change of one approach list that leaves it within its capacity. -/
theorem modApproach_within (st : Stn) {f : List Tag → List Tag} (h : WithinCapacity s)
    (hf : (f (s.ptb.approach.get st)).length ≤ 8) : WithinCapacity (s.modApproach st f) where
  diq := h.diq
  uiq := h.uiq
  deq := h.deq
  ugq := h.ugq
  nq := h.nq
  deferred := h.deferred
  approach := by
    intro x
    rw [State.modApproach_ptb, upd_get]
    split
    · exact hf
    · exact h.approach x

/-! #### Holds, zones and faults -/

/-- What a step of a fold keeps within the capacities, the fold keeps. -/
theorem foldl_within {α : Type} {f : State → α → State} (hf : ∀ s a, WithinCapacity s → WithinCapacity (f s a)) (l : List α)
    (h : WithinCapacity s) : WithinCapacity (l.foldl f s) := by
  induction l generalizing s with
  | nil => exact h
  | cons a l ih => exact ih (hf s a h)

@[simp] theorem beginHold_within (st : Stn) (h : WithinCapacity s) : WithinCapacity (beginHold st s) :=
  (foldl_within (f := fun s e => dropDeq e s) (fun _ e hs => dropDeq_within e hs) (sendingOf s st) h).congr rfl rfl rfl

@[simp] theorem changeHolds_within (f : Stn → Station → Station) (h : WithinCapacity s) :
    WithinCapacity (changeHolds f s).1 :=
  foldl_within (fun _ st hs => beginHold_within st hs) _ (h.congr rfl rfl rfl)

@[simp] theorem endHolds_within (r : State × StnSet) (byResume : Bool) (h : WithinCapacity r.1) :
    WithinCapacity (endHolds r byResume).1 := by
  unfold endHolds; split <;> simp [only, h]

@[simp] theorem zoneAdd_within (z : Zone) (c : ZoneCauses) (h : WithinCapacity s) : WithinCapacity (zoneAdd z c s) := by
  unfold zoneAdd; dsimp only; split <;> simp [h]

@[simp] theorem zoneRemove_within (z : Zone) (c : ZoneCauses) (h : WithinCapacity s) :
    WithinCapacity (zoneRemove z c s).1 := by
  unfold zoneRemove; dsimp only; split <;> simp [only, h]

@[simp] theorem trapForFault_within (k : FaultKind) (z : Zone) (h : WithinCapacity s) :
    WithinCapacity (trapForFault k z s) := by simp [trapForFault, h]

@[simp] theorem lineTrap_within (k : FaultKind) (h : WithinCapacity s) : WithinCapacity (lineTrap k s) := by
  simp [lineTrap, h]

@[simp] theorem enterRestricted_within (h : WithinCapacity s) : WithinCapacity (enterRestricted s) := h.congr rfl rfl rfl

@[simp] theorem react_within (k : FaultKind) (l : Level) (st : Option Stn) (h : WithinCapacity s) :
    WithinCapacity (react k l st s) := by unfold react; split <;> simp [h]

@[simp] theorem recordFault_within (k : FaultKind) (st : Option Stn) (p : Tag) (h : WithinCapacity s) :
    WithinCapacity (recordFault k st p s) := by unfold recordFault; dsimp only; split <;> simp [h]

@[simp] theorem occur_within (k : FaultKind) (st : Option Stn) (p : Tag) (h : WithinCapacity s) :
    WithinCapacity (occur k st p s) := by simp [occur, h]

@[simp] theorem enterStalled_within (st : Stn) (d : Nat) (h : WithinCapacity s) : WithinCapacity (enterStalled st d s) := by
  simp [enterStalled, h]

@[simp] theorem enterBlocked_within (st : Stn) (h : WithinCapacity s) : WithinCapacity (enterBlocked st s) := by
  simp [enterBlocked, h]

@[simp] theorem refLost_within (st : Stn) (h : WithinCapacity s) : WithinCapacity (refLost st s) := by
  unfold refLost; split <;> simp [h]

@[simp] theorem clearReference_within (st : Stn) (h : WithinCapacity s) : WithinCapacity (clearReference st s) := by
  unfold clearReference; split <;> simp [h]

end
end Sys2Proof.Machine
end

section
namespace Sys2Proof.Machine

/-! ### The capacities under the steps of an event -/

section
variable {s : State}

/-! #### The motion request table -/

@[simp] theorem withinCapacity_insertEntry (e : EntryNo) (en : Entry) :
    WithinCapacity (insertEntry e en s) ↔ WithinCapacity s := by simp [insertEntry]

/-- R142: an item joins the deferred list only while it has a place. -/
theorem promote_within (e : EntryNo) (h : WithinCapacity s) : WithinCapacity (promote e s).1 := by
  unfold promote
  split
  · exact h
  · split
    · exact h
    · dsimp only
      split
      · simp [h]
      · split
        · simp [only, h]
        · simp [h]
        · split
          next hr =>
            refine (withinCapacity_lmnEvent ..).2 ⟨h.diq, h.uiq, h.deq, h.ugq, h.nq, ?_, h.approach⟩
            simp only [Config.deferMax, State.setEntry_ilk] at hr
            simp only [State.setEntry_ilk, List.length_append, List.length_singleton]
            omega
          next => simp [h]

@[simp] theorem removeEntry_within (e : EntryNo) (en : Entry) (how : Ending) (h : WithinCapacity s) :
    WithinCapacity (removeEntry e en how s) := by
  have hd : WithinCapacity (dropDeferred e (dropUgq e (dropDeq e (s.setEntry e none)))) :=
    dropDeferred_within e (dropUgq_within e (dropDeq_within e (by simp [h])))
  unfold removeEntry
  dsimp only
  split <;> simp [hd]

theorem freeEntryStep_within (e : EntryNo) (how : Ending) (h : WithinCapacity s) :
    WithinCapacity (freeEntryStep e how s).1 := by
  unfold freeEntryStep
  split
  · exact h
  · dsimp only
    split <;> simp [h]

theorem reportEnding_within (en : Entry) (how : Ending) (h : WithinCapacity s) :
    WithinCapacity (reportEnding en how s).1 := by
  unfold reportEnding; split <;> simp [only, h]

theorem promoteSuccessor_within (st : Stn) (h : WithinCapacity s) : WithinCapacity (promoteSuccessor st s).1 := by
  unfold promoteSuccessor; split <;> simp [only, h]

theorem afterLastEntry_within (st : Stn) (h : WithinCapacity s) : WithinCapacity (afterLastEntry st s).1 := by
  unfold afterLastEntry
  split
  · exact h
  · split
    · exact h
    · dsimp only
      split <;> simp [only, h]

theorem judgeItem_within (it : DeferItem) (h : WithinCapacity s) : WithinCapacity (judgeItem it s).1 := by
  unfold judgeItem
  split
  · dsimp only
    split
    · simp [h]
    · split
      · simp [h]
      · exact ⟨h.diq, h.uiq, h.deq, h.ugq, h.nq, by simpa [only] using h.deferred, h.approach⟩
      · split <;> simp [only, h]
  · exact h

/-! #### The dispatcher -/

@[simp] theorem withinCapacity_waitEntry (st : Stn) (pt : DuePoint) (since : Option Time) (place : Place) :
    WithinCapacity (waitEntry st pt since place s) ↔ WithinCapacity s := by simp [waitEntry]

@[simp] theorem withinCapacity_createDispatch (st : Stn) (e : EntryNo) (p : Params) (pt : DuePoint) :
    WithinCapacity (createDispatch st e p pt s).1 ↔ WithinCapacity s := by simp [createDispatch]

@[simp] theorem makeDue_within (st : Stn) (p : Params) (pt : DuePoint) (granted keep : Bool) (h : WithinCapacity s) :
    WithinCapacity (makeDue st p pt granted keep s).1 := by
  unfold makeDue
  dsimp only
  repeat' split
  all_goals simp [only, h]

@[simp] theorem withinCapacity_modRecord (t : Tag) (f : Record → Record) :
    WithinCapacity (modRecord t f s) ↔ WithinCapacity s := by
  unfold modRecord; split <;> simp

@[simp] theorem evalOperation_within (st : Stn) (granted : Bool) (h : WithinCapacity s) :
    WithinCapacity (evalOperation st granted s).1 := by
  unfold evalOperation
  dsimp only
  repeat' split
  all_goals simp [only, h]

@[simp] theorem runSettle_within (st : Stn) (h : WithinCapacity s) : WithinCapacity (runSettle st s).1 := by
  simp [runSettle, only, apply_ite Prod.fst, h]

@[simp] theorem startSettle_within (st : Stn) (succ : Succ) (h : WithinCapacity s) :
    WithinCapacity (startSettle st succ s).1 := by simp [startSettle, h]

@[simp] theorem recordCycle_within (st : Stn) (t : Tag) (op : Nat) (r : CycleResult) (h : WithinCapacity s) :
    WithinCapacity (recordCycle st t op r s).1 := by
  unfold recordCycle
  split
  · simp [h]
  · simp [h]
  · dsimp only
    split <;> split <;> simp [h]

@[simp] theorem waitRoute_within (st : Stn) (keep : Bool) (h : WithinCapacity s) :
    WithinCapacity (waitRoute st keep s) := by
  unfold waitRoute; dsimp only; split <;> simp [h]

@[simp] theorem routeChoice_within (st : Stn) (granted keep : Bool) (h : WithinCapacity s) :
    WithinCapacity (routeChoice st granted keep s).1 := by
  unfold routeChoice
  dsimp only
  repeat' split
  all_goals simp [only, h]

theorem routeTry_within (st : Stn) (h : WithinCapacity s) : WithinCapacity (routeTry st s).1 := by
  unfold routeTry; split <;> simp [only, h]

@[simp] theorem unclampDone_within (st : Stn) (granted : Bool) (h : WithinCapacity s) :
    WithinCapacity (unclampDone st granted s).1 := by
  unfold unclampDone
  dsimp only
  repeat' split
  all_goals simp [h]

@[simp] theorem enterUnclamp_within (st : Stn) (granted : Bool) (h : WithinCapacity s) :
    WithinCapacity (enterUnclamp st granted s).1 := by
  unfold enterUnclamp; dsimp only; split <;> simp [h]

@[simp] theorem evalHoming_within (st : Stn) (granted : Bool) (h : WithinCapacity s) :
    WithinCapacity (evalHoming st granted s).1 := by
  unfold evalHoming
  dsimp only
  repeat' split
  all_goals simp [only, h]

@[simp] theorem withinCapacity_stayInOrder (st : Stn) (old : State) :
    WithinCapacity (stayInOrder st old s) ↔ WithinCapacity s := by
  unfold stayInOrder; split <;> simp

theorem settleOver_within (st : Stn) (h : WithinCapacity s) : WithinCapacity (settleOver st s).1 := by
  unfold settleOver; split <;> simp [h]

theorem reevaluate_within (st : Stn) (granted : Bool) (h : WithinCapacity s) :
    WithinCapacity (reevaluate st granted s).1 := by
  unfold reevaluate; split <;> simp [only, h]

theorem takeUp_within (st : Stn) (keep : Bool) (h : WithinCapacity s) : WithinCapacity (takeUp st keep s).1 := by
  unfold takeUp
  dsimp only
  repeat' split
  all_goals simp [only, h]

theorem onArrival_within (st : Stn) (h : WithinCapacity s) : WithinCapacity (onArrival st s).1 := by
  unfold onArrival; split <;> exact h

theorem onAdmission_within (st : Stn) (h : WithinCapacity s) : WithinCapacity (onAdmission st s).1 := by
  unfold onAdmission
  dsimp only
  repeat' split
  all_goals simp [only, h]

@[simp] theorem failProcess_within (st : Stn) (h : WithinCapacity s) : WithinCapacity (failProcess st s).1 := by
  unfold failProcess; dsimp only; split <;> simp [only, h]

@[simp] theorem onCycle_within (st : Stn) (t : Tag) (op : Nat) (r : CycleResult) (h : WithinCapacity s) :
    WithinCapacity (onCycle st t op r s).1 := by
  unfold onCycle; dsimp only; split <;> simp [h]

theorem onOutcome_within (en : Entry) (how : Ending) (h : WithinCapacity s) : WithinCapacity (onOutcome en how s).1 := by
  unfold onOutcome
  dsimp only
  repeat' split
  all_goals simp [only, h]

theorem onEntryLeft_within (st : Stn) (h : WithinCapacity s) : WithinCapacity (onEntryLeft st s).1 := by
  unfold onEntryLeft
  dsimp only
  repeat' split
  all_goals exact h

theorem applyMode_within (st : Stn) (m : Mode) (h : WithinCapacity s) : WithinCapacity (applyMode st m s).1 := by
  unfold applyMode
  dsimp only
  repeat' split
  all_goals simp [h]

theorem holdEnded_within (v : StnSet) (byResume : Bool) (h : WithinCapacity s) :
    WithinCapacity (holdEnded v byResume s).1 := h.congr rfl rfl rfl

theorem holdEndedIdx_within (st : Stn) (byResume : Bool) (h : WithinCapacity s) :
    WithinCapacity (holdEndedIdx st byResume s).1 := by
  unfold holdEndedIdx
  dsimp only
  repeat' split
  all_goals simp [only, h]

@[simp] theorem onGone_within (st : Stn) (h : WithinCapacity s) : WithinCapacity (onGone st s) := by
  unfold onGone
  dsimp only
  repeat' split
  all_goals simp [h]

/-! #### The pallet table -/

@[simp] theorem leaveList_within (st : Stn) (t : Tag) (h : WithinCapacity s) : WithinCapacity (leaveList st t s) :=
  modApproach_within st h (List.length_erase_le.trans (h.approach st))

@[simp] theorem withinCapacity_setOccupant (st : Stn) (o : Occupant) :
    WithinCapacity (setOccupant st o s) ↔ WithinCapacity s := by simp [setOccupant]

@[simp] theorem withinCapacity_becomePresent (st : Stn) (t : Tag) :
    WithinCapacity (becomePresent st t s) ↔ WithinCapacity s := by simp [becomePresent]

@[simp] theorem leaveOld_within (r : Record) (h : WithinCapacity s) : WithinCapacity (leaveOld r s) := by
  unfold leaveOld; split <;> simp [h]

/-- R28, R29, R30: a tag joins an approach list only while it has room. -/
@[simp] theorem sendToward_within (t : Tag) (r : Record) (dest : Word) (h : WithinCapacity s) :
    WithinCapacity (sendToward t r dest s).1 := by
  have hl := leaveOld_within r h
  unfold sendToward
  dsimp only
  split
  · simp [hl]
  · split
    next d hd hr =>
      refine modApproach_within d ((withinCapacity_modRecord ..).2 hl) ?_
      have hp : ∀ f (x : State), (modRecord t f x).ptb.approach = x.ptb.approach := by
        intro f x; unfold modRecord; split <;> rfl
      simp only [Config.approachMax] at hr
      simp only [hp, List.length_append, List.length_singleton]
      omega
    next => simp [hl]

@[simp] theorem releaseTransmitted_within (st : Stn) (dest : Word) (h : WithinCapacity s) :
    WithinCapacity (releaseTransmitted st dest s).1 := by
  unfold releaseTransmitted; split <;> simp [h]

theorem releaseFailed_within (en : Entry) (h : WithinCapacity s) : WithinCapacity (releaseFailed en s).1 := by
  unfold releaseFailed
  repeat' split
  all_goals simp [only, h]

@[simp] theorem transitExpired_within (r : Record) (d : Stn) (h : WithinCapacity s) :
    WithinCapacity (transitExpired r d s).1 := by simp [transitExpired, h]

@[simp] theorem tagOccupied_within (st : Stn) (t : Tag) (h : WithinCapacity s) : WithinCapacity (tagOccupied st t s) := by
  simp [tagOccupied, h]

@[simp] theorem tagStranger_within (st : Stn) (t : Tag) (h : WithinCapacity s) : WithinCapacity (tagStranger st t s) := by
  simp [tagStranger, h]

@[simp] theorem tagDuplicate_within (st : Stn) (t : Tag) (h : WithinCapacity s) :
    WithinCapacity (tagDuplicate st t s) := by simp [tagDuplicate, h]

@[simp] theorem tagReRead_within (st : Stn) (t : Tag) (r : Record) (h : WithinCapacity s) :
    WithinCapacity (tagReRead st t r s).1 := by
  unfold tagReRead
  repeat' split
  all_goals simp [only, h]

@[simp] theorem arriveIntended_within (st : Stn) (t : Tag) (r : Record) (h : WithinCapacity s) :
    WithinCapacity (arriveIntended st t r s).1 := by
  unfold arriveIntended
  dsimp only
  repeat' split
  all_goals simp [only, h]

@[simp] theorem arriveMisrouted_within (st : Stn) (t : Tag) (r : Record) (h : WithinCapacity s) :
    WithinCapacity (arriveMisrouted st t r s).1 := by simp [arriveMisrouted, h]

@[simp] theorem tagElsewhere_within (st : Stn) (t : Tag) (h : WithinCapacity s) :
    WithinCapacity (tagElsewhere st t s).1 := by
  unfold tagElsewhere
  dsimp only
  split_ifs
  · split <;> simp [only, h]
  · exact h
  · simp [only, h]
  · split
    · simp [only, h]
    · repeat' split
      all_goals simp [only, h]
  · split
    · simp [only, h]
    · repeat' split
      all_goals simp [only, h]

@[simp] theorem variantUndefined_within (st : Stn) (t : Tag) (h : WithinCapacity s) :
    WithinCapacity (variantUndefined st t s) := by
  unfold variantUndefined; split <;> simp [h]

@[simp] theorem withinCapacity_admitPallet (st : Stn) (i : Slot) (t : Tag) (v : Fin 8) (raw : Int) (gen : Nat) :
    WithinCapacity (admitPallet st i t v raw gen s).1 ↔ WithinCapacity s := by simp [admitPallet]

@[simp] theorem restart_within (st : Stn) (i : Slot) (r : Record) (wasHere : Bool) (v : Fin 8) (raw : Int) (gen : Nat)
    (h : WithinCapacity s) : WithinCapacity (restart st i r wasHere v raw gen s).1 := by
  unfold restart; dsimp only; split <;> simp [h]

@[simp] theorem admissionPart_within (st : Stn) (t : Tag) (v : Fin 8) (raw : Int) (wasHere : Bool)
    (h : WithinCapacity s) : WithinCapacity (admissionPart st t v raw wasHere s).1 := by
  have h' : ∀ a, WithinCapacity { s with ptb := { s.ptb with pendingAdm := a } } := fun a => h.congr rfl rfl rfl
  unfold admissionPart
  dsimp only
  repeat' split
  all_goals simp [only, h']

@[simp] theorem arrivalPart_within (st : Stn) (t : Tag) (h : WithinCapacity s) :
    WithinCapacity (arrivalPart st t s).1 := by
  unfold arrivalPart
  repeat' split
  all_goals simp [only, h]

@[simp] theorem tagAtLoad_within (st : Stn) (t : Tag) (v : Fin 8) (raw : Int) (h : WithinCapacity s) :
    WithinCapacity (tagAtLoad st t v raw s).1 := by
  unfold tagAtLoad
  dsimp only
  repeat' split
  all_goals simp [only, h]

theorem retryAdmission_within (h : WithinCapacity s) : WithinCapacity (retryAdmission s).1 := by
  unfold retryAdmission; split <;> simp [only, h]

@[simp] theorem goneOccupant_within (st : Stn) (h : WithinCapacity s) : WithinCapacity (goneOccupant st s) := by
  have h' : WithinCapacity (if st = s.stb.load then { s with ptb := { s.ptb with pendingAdm := none } } else s) := by
    split <;> [exact h.congr rfl rfl rfl; exact h]
  unfold goneOccupant
  dsimp only
  generalize (if st = s.stb.load then { s with ptb := { s.ptb with pendingAdm := none } } else s) = u at h'
  repeat' split
  all_goals simp [h']

@[simp] theorem retireBank_within (t : Tag) (h : WithinCapacity s) : WithinCapacity (retireBank t s) := by
  unfold retireBank
  split
  · exact h
  · split
    · exact notice_within _ _ _ _ (h.congr rfl rfl rfl)
    · exact h

@[simp] theorem withinCapacity_freeRecord (i : Slot) (t : Tag) :
    WithinCapacity (freeRecord i t s) ↔ WithinCapacity s := withinCapacity_congr rfl rfl rfl

end
end Sys2Proof.Machine
end

section
namespace Sys2Proof.Machine

/-! ### Which row a message is of (R7, R180) -/

/-- A request's station field names station `st`. -/
theorem stn?_eq_some {m : Msg} {st : Stn} : m.stn? = some st ↔ m.station.toNat = st.val := by
  unfold Msg.stn?
  split
  next h => simp [Fin.ext_iff]
  next h => simp; omega

theorem stn?_eq_none {m : Msg} : m.stn? = none ↔ 16 ≤ m.station.toNat := by
  unfold Msg.stn?
  split <;> simp <;> omega

theorem isTableRow_writeRow (t e w : Nat) : isTableRow (writeRow t e w) = true := by
  unfold writeRow
  split_ifs <;> rfl

theorem isActionRow_actionRow (c : Nat) : isActionRow (actionRow c) = true := by
  unfold actionRow
  split <;> rfl

theorem rowOf_of_kindRow (s : State) {m : Msg} {r : Byte × Instr} (hr : r ∈ kindRows) (h : m.kind = r.1) :
    rowOf s m = r.2 := by
  simp only [kindRows, List.mem_cons, List.not_mem_nil, or_false] at hr
  rcases hr with rfl | rfl | rfl | rfl | rfl | rfl | rfl | rfl | rfl | rfl | rfl <;> simp_all [rowOf]

/-- A kind that gives no row of its own leaves the row to the management requests of the device (R7, R180). -/
theorem rowOf_of_other (s : State) {m : Msg} (h : ∀ r ∈ kindRows, m.kind ≠ r.1) :
    rowOf s m = if m.dst = s.mga.node ∧ m.kind = kTblRead then .tblRead
      else if m.dst = s.mga.node ∧ m.kind = kTblWrite then writeRow (addrTable m) (addrEntry m) (addrWord m)
      else if m.dst = s.mga.node ∧ m.kind = kAction then actionRow m.argA.toNat
      else .downlaneForward := by
  simp only [kindRows, List.forall_mem_cons] at h
  obtain ⟨h1, h2, h3, h4, h5, h6, h7, h8, h9, h10, h11, -⟩ := h
  simp only [rowOf, h1, h2, h3, h4, h5, h6, h7, h8, h9, h10, h11, if_false]

/-- No kind of a row of its own, and yet not the row of a table request, an ACTION or a forwarded message: there is none. -/
theorem rowOf_other_class (s : State) {m : Msg} (h : ∀ r ∈ kindRows, m.kind ≠ r.1) :
    isTableRow (rowOf s m) = true ∨ isActionRow (rowOf s m) = true ∨ rowOf s m = .downlaneForward := by
  rw [rowOf_of_other s h]
  split_ifs
  · exact .inl rfl
  · exact .inl (isTableRow_writeRow ..)
  · exact .inr (.inl (isActionRow_actionRow _))
  · exact .inr (.inr rfl)

/-- The rows of kinds belong to one kind each. -/
theorem kind_of_rowOf {s : State} {m : Msg} {r : Byte × Instr} (hr : r ∈ kindRows) (h : rowOf s m = r.2) :
    m.kind = r.1 := by
  by_cases hk : ∃ q ∈ kindRows, m.kind = q.1
  · obtain ⟨q, hq, hm⟩ := hk
    have : q.2 = r.2 := (rowOf_of_kindRow s hq hm).symm.trans h
    have inj : ∀ q ∈ kindRows, ∀ r ∈ kindRows, q.2 = r.2 → q.1 = r.1 := by decide
    exact hm.trans (inj q hq r hr this)
  · have hno : ∀ q ∈ kindRows, isTableRow q.2 = false ∧ isActionRow q.2 = false ∧ q.2 ≠ .downlaneForward := by decide
    obtain ⟨ht, ha, hd⟩ := hno r hr
    rcases rowOf_other_class s (m := m) (fun q hq hm => hk ⟨q, hq, hm⟩) with h' | h' | h'
    · rw [h, ht] at h'; cases h'
    · rw [h, ha] at h'; cases h'
    · exact absurd (h ▸ h') hd

/-- A row of ACTION is the row of an ACTION to the device. -/
theorem action_of_rowOf {s : State} {m : Msg} (h : isActionRow (rowOf s m) = true) :
    m.dst = s.mga.node ∧ m.kind = kAction ∧ rowOf s m = actionRow m.argA.toNat := by
  have hno : ∀ r ∈ kindRows, isActionRow r.2 = false := by decide
  have hk : ∀ r ∈ kindRows, m.kind ≠ r.1 := by
    intro r hr hm
    rw [rowOf_of_kindRow s hr hm, hno r hr] at h
    cases h
  have hw : ∀ i, isTableRow i = true → isActionRow i = false := by intro i; cases i <;> simp [isTableRow, isActionRow]
  rw [rowOf_of_other s hk] at h ⊢
  split_ifs at h ⊢ with h1 h2 h3
  · cases h
  · rw [hw _ (isTableRow_writeRow ..)] at h; cases h
  · exact ⟨h3.1, h3.2, rfl⟩
  · cases h

/-- A row of a kind is no row of the management agent. -/
theorem rowOf_forward_iff {s : State} {m : Msg} : rowOf s m = .downlaneForward ↔
    (∀ r ∈ kindRows, m.kind ≠ r.1) ∧
      (m.dst ≠ s.mga.node ∨ (m.kind ≠ kTblRead ∧ m.kind ≠ kTblWrite ∧ m.kind ≠ kAction)) := by
  have hno : ∀ r ∈ kindRows, r.2 ≠ .downlaneForward := by decide
  have ht : ∀ i, isTableRow i = true → i ≠ .downlaneForward := by rintro i h rfl; cases h
  have ha : ∀ i, isActionRow i = true → i ≠ .downlaneForward := by rintro i h rfl; cases h
  by_cases hk : ∀ r ∈ kindRows, m.kind ≠ r.1
  · rw [rowOf_of_other s hk]
    have := ht _ (isTableRow_writeRow (addrTable m) (addrEntry m) (addrWord m))
    have := ha _ (isActionRow_actionRow m.argA.toNat)
    split_ifs
    all_goals simp_all
    all_goals tauto
  · constructor
    · intro h
      push Not at hk
      obtain ⟨r, hr, hm⟩ := hk
      exact absurd ((rowOf_of_kindRow s hr hm).symm.trans h) (hno r hr)
    · exact fun h => absurd h.1 hk

/-! ### The codes of the rows (section 12.3) -/

theorem actionRow_of_mem {c : Nat} {r : Nat × Instr} (hr : r ∈ actionRows) (h : c = r.1) : actionRow c = r.2 := by
  subst h
  revert r
  decide

theorem actionRow_other {c : Nat} (h : ∀ r ∈ actionRows, c ≠ r.1) : actionRow c = .unknownActionCode := by
  simp only [actionRows, List.forall_mem_cons] at h
  unfold actionRow
  split <;> simp_all

theorem actionRow_eq_cancel {c : Nat} (h : actionRow c = .cancel) : c = 2 := by
  unfold actionRow at h; split at h <;> simp_all

end Sys2Proof.Machine
end

section
namespace Sys2Proof.Machine

/-! ### The words of the rows of TBL_WRITE (section 12.3) -/

theorem writeRow_table0 (e w : Nat) : writeRow 0 e w =
    if e = 0 then
      if w = 1 then .controllerNodeWrite else if w = 2 ∨ w = 3 then .designationWrite
      else if w = 9 then .eventSummaryWrite else if w = 10 ∨ w = 11 then .maskWrite else .tblWrite
    else if e = 1 ∨ e = 2 then
      if w = 4 ∨ w = 5 then .filterWrite else if w = 6 then .exitModeWrite else .tblWrite
    else .tblWrite := by simp [writeRow, isHighWord]

theorem writeRow_table1 (e w : Nat) : writeRow 1 e w =
    if e < 16 then
      if w = 14 ∨ w = 20 then .wideHighWordWrite else if w = 1 then .zoneWrite
      else if w = 11 ∨ w = 15 then .windLimitToleranceWrite else if w = 22 then .approachCapacityWrite
      else if w < 24 then .stationConfigWrite else .tblWrite
    else .tblWrite := by by_cases h : e < 16 <;> simp [writeRow, isHighWord, h]

theorem writeRow_table2 (e w : Nat) : writeRow 2 e w = .recipeWrite := by simp [writeRow, isHighWord]

theorem writeRow_table4 (e w : Nat) : writeRow 4 e w =
    if e < 32 then if w = 6 then .wideHighWordWrite else if w < 8 then .interlockWrite else .tblWrite
    else .tblWrite := by by_cases h : e < 32 <;> simp [writeRow, isHighWord, h]

theorem writeRow_table5 (e w : Nat) : writeRow 5 e w =
    if e < 20 then if w = 1 then .wideHighWordWrite else if w = 0 ∨ w = 2 then .reactionWrite else .tblWrite
    else .tblWrite := by by_cases h : e < 20 <;> simp [writeRow, isHighWord, h]

theorem writeRow_table6 (e w : Nat) : writeRow 6 e w = if e < 8 ∧ w < 6 then .counterConfigWrite else .tblWrite := by
  simp [writeRow, isHighWord]

theorem writeRow_table7 (e w : Nat) :
    writeRow 7 e w = if e < 48 ∧ (w = 7 ∨ w = 8 ∨ w = 9) then .palletRecordWrite else .tblWrite := by
  simp [writeRow, isHighWord]

theorem writeRow_otherTable {t : Nat} (h : t ≠ 0 ∧ t ≠ 1 ∧ t ≠ 2 ∧ t ≠ 4 ∧ t ≠ 5 ∧ t ≠ 6 ∧ t ≠ 7) (e w : Nat) :
    writeRow t e w = .tblWrite := by simp [writeRow, isHighWord, h]

/-- The row of TBL_WRITE that the table of rows gives. -/
theorem writeRow_of_mem {r : Nat × List Nat × List Nat × Instr} (hr : r ∈ writeRows) {e w : Nat}
    (he : e ∈ r.2.1) (hw : w ∈ r.2.2.1) : writeRow r.1 e w = r.2.2.2 := by
  simp only [writeRows, List.mem_cons, List.not_mem_nil, or_false] at hr
  rcases hr with rfl | rfl | rfl | rfl | rfl | rfl | rfl | rfl | rfl | rfl | rfl | rfl | rfl | rfl | rfl | rfl | rfl | rfl
  all_goals simp only [List.mem_cons, List.not_mem_nil, or_false, List.mem_range] at he hw
  case inr.inr.inr.inr.inr.inr.inr.inr.inr.inr.inl =>
    rcases hw with rfl | rfl | rfl | rfl | rfl | rfl | rfl | rfl | rfl | rfl | rfl | rfl | rfl | rfl | rfl | rfl | rfl | rfl
    all_goals simp [writeRow_table1, he]
  all_goals
    simp only [writeRow_table0, writeRow_table1, writeRow_table2, writeRow_table4, writeRow_table5, writeRow_table6,
      writeRow_table7]
  all_goals split_ifs <;> first | rfl | omega

/-- A word that is in no row of its own is of the row TBL_WRITE. -/
theorem writeRow_other {t e w : Nat} (he : e < 128) (hw : w < 32)
    (h : ∀ r ∈ writeRows, ¬ (t = r.1 ∧ e ∈ r.2.1 ∧ w ∈ r.2.2.1)) : writeRow t e w = .tblWrite := by
  by_cases ht : t ≠ 0 ∧ t ≠ 1 ∧ t ≠ 2 ∧ t ≠ 4 ∧ t ≠ 5 ∧ t ≠ 6 ∧ t ≠ 7
  · exact writeRow_otherTable ht e w
  · have : t = 0 ∨ t = 1 ∨ t = 2 ∨ t = 4 ∨ t = 5 ∨ t = 6 ∨ t = 7 := by omega
    simp only [writeRows, List.forall_mem_cons] at h
    rcases this with rfl | rfl | rfl | rfl | rfl | rfl | rfl
    all_goals simp at h
    case inl => rw [writeRow_table0]; split_ifs <;> first | rfl | omega
    case inr.inl => rw [writeRow_table1]; split_ifs <;> first | rfl | omega
    case inr.inr.inl => omega
    case inr.inr.inr.inl => rw [writeRow_table4]; split_ifs <;> first | rfl | omega
    case inr.inr.inr.inr.inl => rw [writeRow_table5]; split_ifs <;> first | rfl | omega
    case inr.inr.inr.inr.inr.inl => rw [writeRow_table6]; split_ifs <;> first | rfl | omega
    case inr.inr.inr.inr.inr.inr => rw [writeRow_table7]; split_ifs <;> first | rfl | omega

end Sys2Proof.Machine
end

section
namespace Sys2Proof.Machine

/-! ### The checks of a request and what its taking needs (R6, R8, R102) -/

theorem stop?_eq_some {n : Nat} {k : Fin 8} : stop? n = some k ↔ n = k.val := by
  unfold stop?
  split
  next h => simp [Fin.ext_iff]
  next h => simp; omega

/-- R8: a request passes every check exactly where its checks answer the station. -/
theorem checkRequest_eq_ok {s : State} {m : Msg} {st : Stn} :
    checkRequest s m = .ok st ↔ PassesRequestChecks m st s := by
  unfold checkRequest
  cases hst : m.stn? with
  | none =>
    have := stn?_eq_none.1 hst
    have hlt := st.isLt
    simp only [PassesRequestChecks]
    split_ifs <;> simp <;> omega
  | some x =>
    have hx := stn?_eq_some.1 hst
    have hxs : m.station.toNat = st.val ↔ x = st := by rw [hx, Fin.ext_iff]
    simp only [PassesRequestChecks, hxs]
    split_ifs <;> simp <;> aesop

/-- The station at which a request passes its checks is one. -/
theorem exists_passes_iff {s : State} {m : Msg} {st : Stn} (h : checkRequest s m = .ok st) (P : Stn → Prop) :
    (∃ x, PassesRequestChecks m x s ∧ P x) ↔ P st := by
  have hp := checkRequest_eq_ok.1 h
  constructor
  · rintro ⟨x, hx, hP⟩
    obtain rfl : x = st := Fin.ext (hx.2.1.symm.trans hp.2.1)
    exact hP
  · exact fun hP => ⟨st, hp, hP⟩

theorem not_passes_of_error {s : State} {m : Msg} {r : Status} (h : checkRequest s m = .error r) (st : Stn) :
    ¬ PassesRequestChecks m st s := by
  intro hp
  rw [checkRequest_eq_ok.2 hp] at h
  cases h

/-- R102: INDEX passes every check exactly where its checks answer the station and the stop. -/
theorem checkIndex_eq_ok {s : State} {m : Msg} {st : Stn} {k : Fin 8} : checkIndex s m = .ok (st, k) ↔
    m.station.toNat = st.val ∧ m.argB.toNat = k.val ∧ s.fcu.restricted = false ∧ stationTrapped s st = false
      ∧ isMachining s st = true ∧ (s.station st).mode = .manual ∧ (s.station st).referenced = true := by
  rw [← stn?_eq_some, ← stop?_eq_some]
  unfold checkIndex
  split
  next x j hx hj =>
    rw [hx, hj]
    split_ifs <;> simp <;> aesop
  next h =>
    simp only [reduceCtorEq, false_iff]
    rintro ⟨hst, hk, -⟩
    exact h st k hst hk

/-- R14: the DEQ has a place for the DIQ's next message. -/
theorem deqFreeForDiq_pos {s : State} :
    0 < deqFreeForDiq s ↔ s.chi.deq.length < 16 ∧ sendingWaiters s = [] ∧ s.chi.owed = 0 := by
  unfold deqFreeForDiq deqRoom Config.deqCap
  split
  next h => simp at h; simp [h]
  next h => simp at h; simp; tauto

theorem freeEntry_eq_none {s : State} : freeEntry s = none ↔ ∀ e, s.entry? e ≠ none := by
  simp [freeEntry, allEntries, List.find?_eq_none]

theorem freeEntry_isSome {s : State} : (freeEntry s).isSome = true ↔ ∃ e, s.entry? e = none := by
  rw [Option.isSome_iff_ne_none, ne_eq, freeEntry_eq_none]
  push Not
  rfl

theorem entriesFull_iff {s : State} {st : Stn} :
    entriesFull s st = true ↔ (activeEntry s st).isSome = true ∧ (pendingEntry s st).isSome = true := by
  simp [entriesFull]

/-- R102: the fixture stands at the target of the stop and the station has no entry. -/
theorem indexDone_iff {s : State} {st : Stn} {k : Fin 8} : indexDone s st k = true ↔
    hasEntry s st = false ∧ (s.station st).isAt (targetOf (s.station st).cfg k (occOffset s st)) = true := by
  simp [indexDone, atStop, occTarget]

/-- R6: taking the message would create an entry. -/
theorem wouldCreate_iff {s : State} {m : Msg} : wouldCreate s m = true ↔ WouldCreateEntry m s := by
  unfold wouldCreate WouldCreateEntry
  by_cases hd : m.dst = s.mga.node
  · simp only [hd, if_true, ne_eq, not_true_eq_false, false_and, false_or, true_and, Bool.and_eq_true, beq_iff_eq]
    cases hc : checkIndex s m with
    | ok p =>
      obtain ⟨st, k⟩ := p
      obtain ⟨h1, h2, h3, h4, h5, h6, h7⟩ := checkIndex_eq_ok.1 hc
      have huniq : ∀ (x : Stn) (j : Fin 8), m.station.toNat = x.val → m.argB.toNat = j.val → x = st ∧ j = k :=
        fun x j hx hj => ⟨Fin.ext (hx.symm.trans h1), Fin.ext (hj.symm.trans h2)⟩
      have hi := indexDone_iff (s := s) (st := st) (k := k)
      have hf := entriesFull_iff (s := s) (st := st)
      simp only [Bool.not_eq_true', Bool.and_eq_true, ← Bool.not_eq_true, hi, hf, h3, true_and, and_assoc]
      constructor
      · rintro ⟨ha, hb, hc, hd, he⟩
        exact ⟨ha, hb, hc, st, k, h1, h2, by simp [h4], h5, h6, h7, hd, he⟩
      · rintro ⟨ha, hb, hsrc, x, j, hx, hj, -, -, -, -, hd, he⟩
        obtain ⟨rfl, rfl⟩ := huniq x j hx hj
        exact ⟨ha, hb, hsrc, hd, he⟩
    | error r =>
      simp only [Bool.false_eq_true, and_false, false_iff]
      rintro ⟨-, -, -, hr, st, k, h1, h2, h3, h4, h5, h6, -⟩
      rw [checkIndex_eq_ok.2 ⟨h1, h2, hr, h3, h4, h5, h6⟩] at hc
      cases hc
  · simp only [hd, if_false, ne_eq, not_false_eq_true, true_and, false_and, or_false]
    by_cases hk : m.kind = kClamp ∨ m.kind = kCycle ∨ m.kind = kRelease
    · simp only [hk, if_true, true_and]
      cases hc : checkRequest s m with
      | ok st =>
        have hf := entriesFull_iff (s := s) (st := st)
        rw [exists_passes_iff hc]
        simp only [Bool.and_eq_true, beq_iff_eq, Bool.not_eq_true', ← Bool.not_eq_true, hf]
      | error r => simp [not_passes_of_error hc]
    · simp only [hk, if_false, false_and, Bool.false_eq_true]

/-- R9: the judged view of a CLAMP, CYCLE or RELEASE at an OUT station decides its forwarding. -/
theorem wouldForward_of_judged {s : State} {m : Msg} {j : Judged} (hd : m.dst ≠ s.mga.node) (hj : judgedMsg? m = some j)
    (hk : m.kind ≠ kMove) (hrow : rowOf s m = .clamp ∨ rowOf s m = .cycle ∨ rowOf s m = .release) :
    wouldForward s m = true ↔
      ∃ st, PassesRequestChecks m st s ∧ (s.station st).mode = .out ∧ hardCheck s st j = none := by
  have hk' : m.kind ≠ 16#8 := hk
  cases hc : checkRequest s m with
  | ok st =>
    rw [exists_passes_iff hc]
    rcases hrow with hrow | hrow | hrow <;> simp [wouldForward, hrow, hd, hj, hk', hc]
  | error r =>
    rcases hrow with hrow | hrow | hrow <;> simp [wouldForward, hrow, hj, hc, not_passes_of_error hc]

/-- R10: the tool of its OUT station decides the forwarding of a JOG or REFER. -/
theorem wouldForward_of_tool {s : State} {m : Msg} (hd : m.dst ≠ s.mga.node) (hrow : rowOf s m = .jog ∨ rowOf s m = .refer) :
    wouldForward s m = true ↔
      ∃ st, PassesRequestChecks m st s ∧ (s.station st).mode = .out ∧ (s.station st).tool = .retracted := by
  cases hc : checkRequest s m with
  | ok st =>
    rw [exists_passes_iff hc]
    rcases hrow with hrow | hrow <;> simp [wouldForward, hrow, hd, hc]
  | error r =>
    rcases hrow with hrow | hrow <;> simp [wouldForward, hrow, hc, not_passes_of_error hc]

/-- R7, R9, R10: taking the message would place it in the DEQ as it is. -/
theorem wouldForward_iff {s : State} {m : Msg} : wouldForward s m = true ↔ WouldEnterDeq m s := by
  unfold WouldEnterDeq
  by_cases hd : m.dst = s.mga.node
  · have : wouldForward s m = false := by unfold wouldForward; split <;> simp [hd]
    simp [this, hd]
  · by_cases hk : ∀ r ∈ kindRows, m.kind ≠ r.1
    · have hrow : rowOf s m = .downlaneForward := rowOf_forward_iff.2 ⟨hk, .inl hd⟩
      have : wouldForward s m = true := by simp [wouldForward, hrow, hd]
      exact iff_of_true this ⟨hd, .inl (.inr hk)⟩
    · simp only [ne_eq, hd, not_false_eq_true, true_and, hk, or_false]
      push Not at hk
      obtain ⟨r, hr, hm⟩ := hk
      have hrow := rowOf_of_kindRow s hr hm
      simp only [kindRows, List.mem_cons, List.not_mem_nil, or_false] at hr
      rcases hr with rfl | rfl | rfl | rfl | rfl | rfl | rfl | rfl | rfl | rfl | rfl
      case inr.inr.inr.inr.inr.inl =>
        rw [wouldForward_of_judged (j := .clamp (argPattern m)) hd (by simp [judgedMsg?, hm]) (by simp [hm]) (.inl hrow)]
        simp [hm, argPattern]
      case inr.inr.inr.inr.inr.inr.inl =>
        rw [wouldForward_of_judged (j := .cycle) hd (by simp [judgedMsg?, hm]) (by simp [hm]) (.inr (.inl hrow))]
        simp [hm]
      case inr.inr.inr.inr.inr.inr.inr.inl =>
        rw [wouldForward_of_judged (j := .release) hd (by simp [judgedMsg?, hm]) (by simp [hm]) (.inr (.inr hrow))]
        simp [hm]
      case inr.inr.inr.inr.inr.inr.inr.inr.inl => rw [wouldForward_of_tool hd (.inl hrow)]; simp [hm]
      case inr.inr.inr.inr.inr.inr.inr.inr.inr.inl => rw [wouldForward_of_tool hd (.inr hrow)]; simp [hm]
      all_goals simp [wouldForward, hrow, hd, judgedMsg?, hm]
      all_goals cases checkRequest s m <;> rfl

theorem needsUgq_iff {s : State} {m : Msg} : needsUgq s m = true ↔ CancelsIssued m s := by
  unfold needsUgq CancelsIssued
  simp only [Bool.and_eq_true, beq_iff_eq, and_assoc]
  refine and_congr_right fun _ => and_congr_right fun _ => and_congr_right fun _ => ?_
  cases hst : m.stn? with
  | none =>
    have h16 := stn?_eq_none.1 hst
    simp only [Bool.false_eq_true, false_iff]
    rintro ⟨st, h, -⟩
    omega
  | some st =>
    have hs := stn?_eq_some.1 hst
    have hex : ∀ P : Stn → Prop, (∃ x : Stn, m.station.toNat = x.val ∧ P x) ↔ P st := by
      intro P
      constructor
      · rintro ⟨x, hx, h⟩
        obtain rfl : x = st := Fin.ext (hx.symm.trans hs)
        exact h
      · exact fun h => ⟨st, hs, h⟩
    rw [hex]
    dsimp only
    cases activeEntry s st with
    | none => simp
    | some e => cases he : s.entry? e <;> simp [he]

end Sys2Proof.Machine
end

section
namespace Sys2Proof.Machine

/-! ### The next message of the DIQ (R5) -/

theorem nextItem_urgent {front back : List DiqItem} {d : DiqItem} (hd : d.msg.urgent = true)
    (hf : ∀ x ∈ front, x.msg.urgent = false) : nextItem (front ++ d :: back) = some d := by
  have hfront : front.find? (fun x => x.msg.urgent) = none := List.find?_eq_none.2 fun x hx => by simp [hf x hx]
  simp [nextItem, List.find?_append, hfront, hd]

theorem nextItem_oldest {q : List DiqItem} (h : ∀ x ∈ q, x.msg.urgent = false) : nextItem q = q.head? := by
  have : q.find? (fun x => x.msg.urgent) = none := List.find?_eq_none.2 fun x hx => by simp [h x hx]
  simp [nextItem, this]

/-- R6: what the taking of a message needs, in the terms of the rules. -/
theorem canTake_iff {s : State} {m : Msg} : canTake s m = true ↔
    (m.urgent = false ∨ WouldEnterDeq m s → s.chi.deq.length < 16 ∧ sendingWaiters s = [] ∧ s.chi.owed = 0)
    ∧ s.chi.nq.length + s.mrt.kept.length
        + (if m.kind = kResume then max 1 (stationCount (namedStations m)) else 1) ≤ 16
    ∧ (m.urgent = false → WouldCreateEntry m s → ∃ e, s.entry? e = none)
    ∧ (CancelsIssued m s → s.chi.ugq.length < 4) := by
  have hreply : repliesOf m ≤ nqFree s ↔ s.chi.nq.length + s.mrt.kept.length
      + (if m.kind = kResume then max 1 (stationCount (namedStations m)) else 1) ≤ 16 := by
    unfold repliesOf nqFree Config.nqCap
    split <;> omega
  have hugq : decide (s.chi.ugq.length < Config.ugqCap) = true ↔ s.chi.ugq.length < 4 := decide_eq_true_iff
  simp only [canTake, roomFor, hugq, waitsForEntry, Bool.and_eq_true, Bool.or_eq_true, Bool.not_eq_true', decide_eq_true_eq,
    ← Bool.not_eq_true (wouldForward s m), ← Bool.not_eq_true (needsUgq s m), Bool.and_eq_false_iff,
    ← Bool.not_eq_true (wouldCreate s m), Bool.or_eq_false_iff, Bool.not_eq_false', wouldForward_iff, wouldCreate_iff,
    needsUgq_iff, deqFreeForDiq_pos, freeEntry_isSome, hreply]
  cases m.urgent <;> simp <;> tauto

/-! ### The rows that take a message from the DIQ -/

/-- What each row that takes a message does with it. -/
def bodyOf : Instr → Option (Msg → State → Eff)
  | .hold => some holdBody
  | .resume => some resumeBody
  | .clamp | .cycle | .release => some requestBody
  | .jog | .refer => some jogReferBody
  | .move | .stop | .abort => some notAllowedBody
  | .statusReq | .downlaneForward => some forwardBody
  | .tblRead => some readBody
  | .tblWrite => some plainWriteBody
  | .wideHighWordWrite => some highWordBody
  | .recipeWrite => some recipeBody
  | .stationConfigWrite => some stationConfigBody
  | .windLimitToleranceWrite => some windTolBody
  | .zoneWrite => some zoneBody
  | .approachCapacityWrite => some capacityBody
  | .designationWrite => some designationBody
  | .controllerNodeWrite => some controllerBody
  | .eventSummaryWrite => some summaryBody
  | .maskWrite => some maskBody
  | .filterWrite => some filterBody
  | .exitModeWrite => some exitModeBody
  | .interlockWrite => some interlockBody
  | .reactionWrite => some reactionBody
  | .counterConfigWrite => some counterBody
  | .palletRecordWrite => some recordBody
  | .index => some indexBody
  | .cancel => some cancelBody
  | .mode => some modeBody
  | .forget => some forgetBody
  | .find => some findBody
  | .commit => some commitBody
  | .discard => some discardBody
  | .freeze => some freezeBody
  | .trapSet => some trapSetBody
  | .trapAck => some trapAckBody
  | .faultAck => some faultAckBody
  | .clearCounts => some clearCountsBody
  | .recover => some recoverBody
  | .snapshot => some snapshotBody
  | .clearCounters => some clearCountersBody
  | .setTime => some setTimeBody
  | .reset => some resetBody
  | .unknownActionCode => some unknownBody
  | _ => none

theorem bodyOf_isSome {i : Instr} (h : takesFromDiq i = true) : ∃ body, bodyOf i = some body := by
  cases i <;> first | exact ⟨_, rfl⟩ | cases h

/-- The command of a row but SET_TIME is the taking of its message; SET_TIME takes besides what the moved time makes due. -/
theorem exec_of_bodyOf {i : Instr} {body : Msg → State → Eff} (h : bodyOf i = some body) (hi : i ≠ .setTime) (s : State) :
    exec i s = takeAs i body s := by
  cases i <;> cases h <;> first | rfl | exact absurd rfl hi

theorem exec_setTime (s : State) :
    exec .setTime s = follow (takeAs .setTime setTimeBody s) (fun t => if setsTime s then takeDue t else .next t) := rfl

/-- A command takes its message: the event is that of its body. -/
theorem exec_takes {i : Instr} {body : Msg → State → Eff} {d : DiqItem} {s : State} (h : bodyOf i = some body)
    (hi : i ≠ .setTime) (ht : Takes i d s) : exec i s = conclude (body d.msg (removeDiq d s)) := by
  obtain ⟨hr, hn, hrow, hc⟩ := ht
  rw [exec_of_bodyOf h hi, takeAs_takes hr hn hrow hc]

theorem takeAs_takes_or_same (i : Instr) (body : Msg → State → Eff) (s : State) :
    (∃ d, Takes i d s ∧ takeAs i body s = conclude (body d.msg (removeDiq d s))) ∨ takeAs i body s = .next s := by
  rcases takeAs_cases i body s with ⟨d, hr, hn, hrow, hc, h⟩ | h
  · exact .inl ⟨d, ⟨hr, hn, hrow, hc⟩, h⟩
  · exact .inr h

/-- With no message that it takes, a row changes nothing. -/
theorem takeAs_untaken {i : Instr} (body : Msg → State → Eff) {s : State} (h : ¬ ∃ d, Takes i d s) :
    takeAs i body s = .next s := by
  rcases takeAs_takes_or_same i body s with ⟨d, hd, -⟩ | h'
  · exact absurd ⟨d, hd⟩ h
  · exact h'

theorem exec_untaken {i : Instr} {s : State} (hi : takesFromDiq i = true) (h : ¬ ∃ d, Takes i d s) :
    exec i s = .next s := by
  by_cases hs : i = .setTime
  · subst hs
    have hf : setsTime s = false := by
      unfold setsTime
      cases hn : nextItem s.chi.diq with
      | none => rfl
      | some d =>
        by_contra hc
        simp only [Bool.not_eq_false, Bool.and_eq_true, Bool.not_eq_true', decide_eq_true_eq] at hc
        obtain ⟨⟨⟨hr, hrow⟩, ht⟩, -⟩ := hc
        exact h ⟨d, hr, hn, hrow, ht⟩
    rw [exec_setTime, takeAs_untaken _ h, follow_next, hf]
    rfl
  · obtain ⟨body, hb⟩ := bodyOf_isSome hi
    rw [exec_of_bodyOf hb hs, takeAs_untaken _ h]

end Sys2Proof.Machine

namespace Sys2Proof.Proofs
open Sys2Proof.Machine

/-- Settles O5: the rows of a message, the conditions of R6 and the commands that take nothing, each by its lemma. -/
theorem onlyTheNextMessageIsTaken : Obligations.OnlyTheNextMessageIsTaken := by
  refine ⟨fun q => ⟨?_, ?_, ?_⟩, fun s m => ⟨?_, ?_, ?_, ?_, ?_⟩, fun s m => canTake_iff, fun i s hi h => exec_untaken hi h⟩
  · rintro rfl
    rfl
  · rintro front d back rfl hd hf
    exact nextItem_urgent hd hf
  · rintro d back rfl h
    exact nextItem_oldest h
  · exact fun r hr hm => rowOf_of_kindRow s hr hm
  · intro hd hk
    rw [rowOf_of_other s (by rw [hk]; decide)]
    simp [hd, hk]
  · intro hd hk
    have hrow : rowOf s m = writeRow (addrTable m) (addrEntry m) (addrWord m) := by
      rw [rowOf_of_other s (by rw [hk]; decide)]
      simp [hd, hk]
    rw [hrow]
    constructor
    · rintro r hr ⟨ht, he, hw⟩
      rw [ht, writeRow_of_mem hr he hw]
    · exact fun h => writeRow_other (Nat.mod_lt _ (by decide)) (Nat.mod_lt _ (by decide)) h
  · intro hd hk
    have hrow : rowOf s m = actionRow m.argA.toNat := by
      rw [rowOf_of_other s (by rw [hk]; decide)]
      simp [hd, hk]
    rw [hrow]
    exact ⟨fun r hr h => actionRow_of_mem hr h, actionRow_other⟩
  · exact fun hk h => rowOf_forward_iff.2 ⟨hk, h⟩

end Sys2Proof.Proofs
end

section
namespace Sys2Proof.Machine

/-! ### The capacities under the requests taken from the DIQ (R6) -/

section
variable {s : State}

/-- R6: a message that can be taken has a place in the DEQ where it would enter it. -/
theorem deq_room_of_roomFor {m : Msg} (h : roomFor s m = true) (hm : m.urgent = false ∨ WouldEnterDeq m s) :
    0 < deqRoom s := by
  have : 0 < deqFreeForDiq s := by
    rw [← wouldForward_iff] at hm
    simp only [roomFor, Bool.and_eq_true, Bool.or_eq_true, Bool.not_eq_true', decide_eq_true_eq] at h
    obtain ⟨⟨h | h, -⟩, -⟩ := h
    · rcases hm with hm | hm <;> simp [hm] at h
    · exact h
  obtain ⟨hl, -⟩ := deqFreeForDiq_pos.1 this
  simpa [deqRoom, Config.deqCap] using hl

theorem roomFor_of_canTake {m : Msg} (h : canTake s m = true) : roomFor s m = true := by
  simp only [canTake, Bool.and_eq_true] at h
  exact h.1

theorem createController_within (st : Stn) (e : EntryNo) (p : Params) (pallet : Tag) (rx : Option Msg)
    (h : WithinCapacity s) : WithinCapacity (createController st e p pallet rx s).1 := by
  unfold createController; split <;> simp [only, h]

theorem acceptCommand_within (st : Stn) (m : Msg) (h : WithinCapacity s) : WithinCapacity (acceptCommand st m s).1 := by
  unfold acceptCommand
  split
  · simp [only, h]
  · split
    · exact createController_within _ _ _ _ _ h
    · simp [only, h]

/-- R9: a CLAMP, CYCLE or RELEASE enters the DEQ only where its taking has asked for a place there. -/
theorem requestBody_within {m : Msg} (h : WithinCapacity s) (hk : m.kind = kClamp ∨ m.kind = kCycle ∨ m.kind = kRelease)
    (hroom : WouldEnterDeq m s → 0 < deqRoom s) : WithinCapacity (requestBody m s).1 := by
  unfold requestBody
  split
  · simp [only, h]
  next hd =>
    split
    · simp [only, h]
    next st hst =>
      split
      · simp [only, h]
      · exact acceptCommand_within st m h
      next hout =>
        split
        · simp [only, h]
        next hj =>
          refine pushDeq_within _ _ h (hroom ⟨hd, .inr ⟨st, checkRequest_eq_ok.1 hst, hout, .inr ?_⟩⟩)
          rcases hk with hk | hk | hk <;> simpa [hk, judgedMsg?, argPattern] using hj

theorem indexBody_within (m : Msg) (h : WithinCapacity s) : WithinCapacity (indexBody m s).1 := by
  unfold indexBody
  split
  · simp [only, h]
  · split
    · simp [only, h]
    · dsimp only
      split
      · simp [only, h]
      · split
        · simp [only, h]
        · split
          · exact createController_within _ _ _ _ _ (answerAction_within _ _ _ h)
          · simp [only, h]

/-- R119: the message that the arbiter takes is one that can be taken, an ACTION INDEX or a CLAMP, CYCLE or RELEASE. -/
theorem grantDiq_within {d : DiqItem} (hd : waitsForEntry s d.msg = true) (h : WithinCapacity s) :
    WithinCapacity (grantDiq d s).1 := by
  simp only [waitsForEntry, Bool.and_eq_true, Bool.not_eq_true', wouldCreate_iff] at hd
  obtain ⟨hu, hc⟩ := hd
  have h' : WithinCapacity (removeDiq d (s.modEv (fun v => { v with diqClaim := false }))) :=
    removeDiq_within d ((withinCapacity_modEv _).2 h)
  unfold grantDiq
  dsimp only
  split
  next hr =>
    split
    · exact indexBody_within _ h'
    next ha =>
      rcases hc with ⟨-, hk, -⟩ | ⟨-, hk, -⟩
      · exact requestBody_within h' hk fun _ => deq_room_of_roomFor hr (.inl hu)
      · exact absurd hk ha
  next => simp [h]

theorem diqWaiter_waits {d : DiqItem} (h : diqWaiter s = some d) : waitsForEntry s d.msg = true := by
  unfold diqWaiter at h
  split at h
  next hc =>
    simp only [diqWaits, h, Bool.and_eq_true] at hc
    exact hc.2
  next => cases h

theorem arbitrate_within (h : WithinCapacity s) : WithinCapacity (arbitrate s).1 := by
  unfold arbitrate
  split
  · exact h
  · split
    · simp [only, h]
    · simp [grantStation, h]
    next hd _ => exact grantDiq_within (diqWaiter_waits hd) h
    next hd _ =>
      split
      · exact grantDiq_within (diqWaiter_waits hd) h
      · simp [grantStation, h]

theorem deferPass_within (h : WithinCapacity s) : WithinCapacity (deferPass s).1 := by
  unfold deferPass; split <;> simp [only, h]

/-- R1, R28, R142: no step of effects takes a queue or a list past its capacity. -/
theorem perform_within (t : Task) (h : WithinCapacity s) : WithinCapacity (perform t s).1 := by
  cases t with
  | promote e => exact promote_within e h
  | free e how => exact freeEntryStep_within e how h
  | releaseFailed en => exact releaseFailed_within en h
  | outcome en how => exact onOutcome_within en how h
  | report en how => exact reportEnding_within en how h
  | entryLeft st => exact onEntryLeft_within st h
  | successor st => exact promoteSuccessor_within st h
  | lastEntry st => exact afterLastEntry_within st h
  | arbitrate => exact arbitrate_within h
  | reroute => exact h
  | routeTry st => exact routeTry_within st h
  | applyMode st m => exact applyMode_within st m h
  | takeUp st keep => exact takeUp_within st keep h
  | evalOp st granted => exact evalOperation_within st granted h
  | homing st granted => exact evalHoming_within st granted h
  | unclamp st granted => exact enterUnclamp_within st granted h
  | route st granted keep => exact routeChoice_within st granted keep h
  | reeval st granted => exact reevaluate_within st granted h
  | settleOver st => exact settleOver_within st h
  | holdEnded v byResume => exact holdEnded_within v byResume h
  | holdEndedIdx st byResume => exact holdEndedIdx_within st byResume h
  | arrived st => exact onArrival_within st h
  | admitted st => exact onAdmission_within st h
  | retryAdmission => exact retryAdmission_within h
  | retire t => exact retireBank_within t h
  | judge it => exact judgeItem_within it h
  | note ev st p d => exact notice_within ev st p d h
  | flush => exact flushMonitor_within 9 h
  | deferPass => exact deferPass_within h
  | close => exact closeEvent_within h

theorem conclude_within {r : Eff} {t : State} (h : WithinCapacity r.1) (hr : conclude r = .next t) : WithinCapacity t :=
  conclude_keeps (fun _ _ => perform_within _) hr h

/-! #### The bodies of the rows -/

theorem fromController_within {m : Msg} {r : Eff} (h : WithinCapacity s) (hr : WithinCapacity r.1) :
    WithinCapacity (fromController m s r).1 := by
  unfold fromController; split <;> simp [only, h, hr]

theorem atWord_within {m : Msg} {r : Nat → Eff} (h : WithinCapacity s) (hr : ∀ w, WithinCapacity (r w).1) :
    WithinCapacity (atWord m s r).1 := by
  unfold atWord
  split
  · simp [only, h]
  · split <;> simp [only, h, hr]

@[simp] theorem writeSays_within (m : Msg) (st : Status) (h : WithinCapacity s) : WithinCapacity (writeSays m st s).1 :=
  answerTable_within _ _ _ h

@[simp] theorem writeDone_within (m : Msg) (v : Nat) (h : WithinCapacity s) : WithinCapacity (writeDone m v s) :=
  answerTable_within _ _ _ h

@[simp] theorem reply_within (m : Msg) (st : Status) (v : Nat) (h : WithinCapacity s) : WithinCapacity (reply m st v s).1 :=
  answerAction_within _ _ _ h

end
end Sys2Proof.Machine
end

section
namespace Sys2Proof.Machine

section
variable {s : State}

/-! #### Table requests -/

theorem readBody_within (m : Msg) (h : WithinCapacity s) : WithinCapacity (readBody m s).1 :=
  atWord_within h fun w => by split <;> simp [only, h]

theorem plainWriteBody_within (m : Msg) (h : WithinCapacity s) : WithinCapacity (plainWriteBody m s).1 :=
  atWord_within h fun _ => by
    split
    · exact writeDone_within _ _ (h.congr rfl rfl rfl)
    · simp [h]

theorem withinCapacity_highWordStored (m : Msg) : WithinCapacity (highWordStored m s) ↔ WithinCapacity s := by
  unfold highWordStored
  split_ifs <;> exact withinCapacity_congr rfl rfl rfl

theorem highWordBody_within (m : Msg) (h : WithinCapacity s) : WithinCapacity (highWordBody m s).1 :=
  atWord_within h fun _ => by
    split
    · simp [h]
    · exact (withinCapacity_highWordStored m).2 (writeDone_within _ _ ((withinCapacity_modMga _).2 h))

theorem recipeBody_within (m : Msg) (h : WithinCapacity s) : WithinCapacity (recipeBody m s).1 :=
  atWord_within h fun _ => by
    dsimp only
    split
    · simp [h]
    · exact writeDone_within _ _ (h.congr rfl rfl rfl)

@[simp] theorem withinCapacity_clearLatch : WithinCapacity (clearLatch s) ↔ WithinCapacity s :=
  withinCapacity_congr rfl rfl rfl

@[simp] theorem withinCapacity_modCfg (st : Stn) (f : StationCfg → StationCfg) :
    WithinCapacity (modCfg st f s) ↔ WithinCapacity s := withinCapacity_congr rfl rfl rfl

@[simp] theorem withinCapacity_recheckGeometry : WithinCapacity (recheckGeometry s) ↔ WithinCapacity s :=
  withinCapacity_congr rfl rfl rfl

@[simp] theorem withinCapacity_recheckInterlock : WithinCapacity (recheckInterlock s) ↔ WithinCapacity s :=
  withinCapacity_congr rfl rfl rfl

@[simp] theorem withinCapacity_recheckReaction : WithinCapacity (recheckReaction s) ↔ WithinCapacity s :=
  withinCapacity_congr rfl rfl rfl

theorem stationConfigBody_within (m : Msg) (h : WithinCapacity s) : WithinCapacity (stationConfigBody m s).1 :=
  atWord_within h fun _ => by
    dsimp only
    repeat' split
    all_goals simp [only, h]

theorem windTolBody_within (m : Msg) (h : WithinCapacity s) : WithinCapacity (windTolBody m s).1 :=
  atWord_within h fun _ => by
    dsimp only
    repeat' split
    all_goals simp [only, h]

theorem zoneBody_within (m : Msg) (h : WithinCapacity s) : WithinCapacity (zoneBody m s).1 :=
  atWord_within h fun _ => by
    split
    · simp [h]
    · split
      · simp [h]
      · exact endHolds_within _ _ (changeHolds_within _ (by simp [h]))

theorem capacityBody_within (m : Msg) (h : WithinCapacity s) : WithinCapacity (capacityBody m s).1 :=
  atWord_within h fun _ => by split <;> simp [h]

theorem resetProcs_within (l : List Stn) (h : WithinCapacity s) : WithinCapacity (resetProcs l s) :=
  foldl_within (f := fun s st => s.modProc st (fun _ => resetProcess)) (fun _ _ hs => (withinCapacity_modProc ..).2 hs) l h

theorem loadWrite_within (m : Msg) (h : WithinCapacity s) : WithinCapacity (loadWrite m s).1 := by
  unfold loadWrite
  dsimp only
  split_ifs
  case neg => exact (writeDone_within m _ (resetProcs_within _ h)).congr rfl rfl rfl
  all_goals simp [only, h]

theorem reworkWrite_within (m : Msg) (h : WithinCapacity s) : WithinCapacity (reworkWrite m s).1 := by
  unfold reworkWrite
  split
  · simp [h]
  · dsimp only
    split_ifs
    case neg => exact (writeDone_within m _ (resetProcs_within _ h)).congr rfl rfl rfl
    all_goals simp [only, h]

theorem designationBody_within (m : Msg) (h : WithinCapacity s) : WithinCapacity (designationBody m s).1 :=
  atWord_within h fun _ => by split <;> [exact loadWrite_within m h; exact reworkWrite_within m h]

theorem controllerBody_within (m : Msg) (h : WithinCapacity s) : WithinCapacity (controllerBody m s).1 :=
  atWord_within h fun _ => by split <;> simp [only, h]

theorem summaryBody_within (m : Msg) (h : WithinCapacity s) : WithinCapacity (summaryBody m s).1 :=
  atWord_within h fun _ => by simp [only, h]

theorem maskBody_within (m : Msg) (h : WithinCapacity s) : WithinCapacity (maskBody m s).1 :=
  atWord_within h fun _ => by dsimp only; split <;> simp [only, h]

@[simp] theorem filterActive_within (z : Zone) (h : WithinCapacity s) : WithinCapacity (filterActive z s).1 := by
  simp [filterActive, only, h]

@[simp] theorem filterInactive_within (z : Zone) (h : WithinCapacity s) : WithinCapacity (filterInactive z s).1 := by
  unfold filterInactive; dsimp only; split <;> simp [only, h]

@[simp] theorem judgeFilter_within (z : Zone) (h : WithinCapacity s) : WithinCapacity (judgeFilter z s).1 := by
  unfold judgeFilter; split_ifs <;> simp [only, h]

theorem filterBody_within (m : Msg) (h : WithinCapacity s) : WithinCapacity (filterBody m s).1 :=
  atWord_within h fun _ => by simp [h]

theorem exitModeBody_within (m : Msg) (h : WithinCapacity s) : WithinCapacity (exitModeBody m s).1 :=
  atWord_within h fun _ => by dsimp only; split_ifs <;> simp [only, h]

theorem interlockBody_within (m : Msg) (h : WithinCapacity s) : WithinCapacity (interlockBody m s).1 :=
  atWord_within h fun _ => by
    split
    · simp [h]
    · split
      · dsimp only
        split
        · simp [h]
        · have h' : WithinCapacity (if addrWord m = 7 then clearLatch s else s) := by split <;> simp [h]
          simp only [only, withinCapacity_modEv]
          exact writeDone_within _ _ (h'.congr rfl rfl rfl)
      · simp [h]

theorem reactionBody_within (m : Msg) (h : WithinCapacity s) : WithinCapacity (reactionBody m s).1 :=
  atWord_within h fun _ => by
    split
    · dsimp only
      split_ifs
      · simp [h]
      · split
        · simp [h]
        · exact writeDone_within _ _ (h.congr rfl rfl rfl)
      · exact writeDone_within _ _ (h.congr rfl rfl rfl)
    · simp [h]

theorem counterBody_within (m : Msg) (h : WithinCapacity s) : WithinCapacity (counterBody m s).1 :=
  atWord_within h fun _ => by
    split
    · dsimp only
      split
      · simp [h]
      · exact writeDone_within _ _ (h.congr rfl rfl rfl)
    · simp [h]

theorem recordBody_within (m : Msg) (h : WithinCapacity s) : WithinCapacity (recordBody m s).1 :=
  atWord_within h fun _ => by
    split
    · dsimp only
      split
      · simp [h]
      · split <;> simp [only, h]
    · simp [h]

/-! #### Actions -/

/-- R128, R6: a STOP or ABORT enters the UGQ only where its CANCEL has found a place there. -/
theorem beginCancel_within (e : EntryNo) (en : Entry) (kind : Byte) (h : WithinCapacity s) (hu : s.chi.ugq.length < 4) :
    WithinCapacity (beginCancel e en kind s) := by
  refine (withinCapacity_modEntry ..).2 ⟨h.diq, h.uiq, h.deq, ?_, h.nq, h.deferred, h.approach⟩
  simp only [State.modChi_chi, List.length_append, List.length_singleton]
  omega

theorem cancelCase_eq_stop {st : Stn} {e : EntryNo} {en : Entry} {kind : Byte} (h : cancelCase s st = .stop e en kind) :
    activeEntry s st = some e ∧ s.entry? e = some en ∧ en.estate = .issued
      ∧ (paramsKind en.params = .move ∨ paramsKind en.params = .cycle) := by
  unfold cancelCase at h
  split at h
  · cases h
  next x hx =>
    split at h
    · cases h
    next q hq =>
      split at h
      · split at h <;> cases h <;> exact ⟨hx, hq, by assumption, by simp [*]⟩
      · cases h
      · cases h

@[simp] theorem withinCapacity_duePass : WithinCapacity (duePass s) ↔ WithinCapacity s := withinCapacity_modEv _

theorem cancelBody_within {m : Msg} (h : WithinCapacity s) (ha : m.dst = s.mga.node ∧ m.kind = kAction ∧ m.argA = 2)
    (hu : CancelsIssued m s → s.chi.ugq.length < 4) : WithinCapacity (cancelBody m s).1 := by
  refine fromController_within h ?_
  split
  · simp [h]
  next st hst =>
    split
    · simp [h]
    · dsimp only
      split
      · split_ifs <;> simp [h]
      · simp [h]
      next e en kind hc =>
        obtain ⟨h1, h2, h3, h4⟩ := cancelCase_eq_stop hc
        obtain ⟨hd, hk, hA⟩ := ha
        have hroom := hu ⟨hd, hk, hA, st, stn?_eq_some.1 hst, e, h1, en, h2, h3, h4⟩
        have hb : ∀ v, WithinCapacity (beginCancel e en kind (answerAction m .accepted v s)) := fun v =>
          beginCancel_within e en kind (answerAction_within _ _ _ h) (by simpa [answerAction] using hroom)
        split_ifs <;> simp [hb]
      · split_ifs <;> simp [h]
      · split_ifs <;> simp [h]

@[simp] theorem withinCapacity_setPending (st : Stn) (m : Option Mode) :
    WithinCapacity (setPending st m s) ↔ WithinCapacity s := withinCapacity_modStn ..

theorem modeBody_within (m : Msg) (h : WithinCapacity s) : WithinCapacity (modeBody m s).1 := by
  refine fromController_within h ?_
  split
  · split_ifs <;> simp [only, h]
  · simp [h]

theorem forgetBody_within (m : Msg) (h : WithinCapacity s) : WithinCapacity (forgetBody m s).1 := by
  refine fromController_within h ?_
  split
  · simp [h]
  · split
    · simp [h]
    · split
      · simp [h]
      · split <;> simp [h]

theorem findBody_within (m : Msg) (h : WithinCapacity s) : WithinCapacity (findBody m s).1 := by
  refine fromController_within h ?_
  split
  · simp [h]
  · split <;> simp [h]

theorem withinCapacity_activate (b : Fin 2) (g : Nat) : WithinCapacity (activate b g s) ↔ WithinCapacity s :=
  withinCapacity_congr rfl rfl rfl

theorem commitBody_within (m : Msg) (h : WithinCapacity s) : WithinCapacity (commitBody m s).1 := by
  refine fromController_within h ?_
  dsimp only
  split
  · split
    · simp [h]
    · exact notice_within _ _ _ _ ((withinCapacity_activate ..).2 (answerAction_within _ _ _ h))
  · simp [h]
  · simp [h]

theorem discardBody_within (m : Msg) (h : WithinCapacity s) : WithinCapacity (discardBody m s).1 := by
  refine fromController_within h ?_
  dsimp only
  split
  · exact (answerAction_within m .done 0 h).congr rfl rfl rfl
  · simp [h]
  · simp [h]

theorem freezeBody_within (m : Msg) (h : WithinCapacity s) : WithinCapacity (freezeBody m s).1 :=
  fromController_within h ((answerAction_within m .done 0 h).congr rfl rfl rfl)

theorem trapSetBody_within (m : Msg) (h : WithinCapacity s) : WithinCapacity (trapSetBody m s).1 := by
  refine fromController_within h ?_
  split <;> simp [only, h]

theorem trapAckBody_within (m : Msg) (h : WithinCapacity s) : WithinCapacity (trapAckBody m s).1 := by
  refine fromController_within h ?_
  split
  · simp [h]
  · dsimp only
    split
    · simp [h]
    · split <;> simp [h]

theorem withinCapacity_clearFault (k : FaultKind) : WithinCapacity (clearFault k s) ↔ WithinCapacity s :=
  withinCapacity_congr rfl rfl rfl

theorem faultAckBody_within (m : Msg) (h : WithinCapacity s) : WithinCapacity (faultAckBody m s).1 := by
  refine fromController_within h ?_
  dsimp only
  split_ifs <;> simp [only, h, withinCapacity_clearFault]

theorem clearCountsBody_within (m : Msg) (h : WithinCapacity s) : WithinCapacity (clearCountsBody m s).1 :=
  fromController_within h ((answerAction_within m .done _ h).congr rfl rfl rfl)

theorem withinCapacity_scanned : WithinCapacity (scanned s) ↔ WithinCapacity s := withinCapacity_congr rfl rfl rfl

theorem scan_within (h : WithinCapacity s) : WithinCapacity (scan s) := by
  unfold scan; dsimp only; split <;> simp [withinCapacity_scanned, h]

theorem recoverBody_within (m : Msg) (h : WithinCapacity s) : WithinCapacity (recoverBody m s).1 := by
  refine fromController_within h ?_
  have h' := withinCapacity_scanned.2 h
  split
  · simp [h]
  · have hc : WithinCapacity (if ((answerAction m .done 0 (scanned s)).faultRec fTableIntegrity).pending
        then clearFault fTableIntegrity (answerAction m .done 0 (scanned s)) else answerAction m .done 0 (scanned s)) := by
      split <;> simp [withinCapacity_clearFault, h']
    dsimp only
    split
    all_goals
      split
      · simp [h']
      · exact hc.congr rfl rfl rfl

theorem snapshotBody_within (m : Msg) (h : WithinCapacity s) : WithinCapacity (snapshotBody m s).1 :=
  fromController_within h ((answerAction_within m .done _ h).congr rfl rfl rfl)

theorem clearCountersBody_within (m : Msg) (h : WithinCapacity s) : WithinCapacity (clearCountersBody m s).1 :=
  fromController_within h ((answerAction_within m .done _ h).congr rfl rfl rfl)

theorem unknownBody_within (m : Msg) (h : WithinCapacity s) : WithinCapacity (unknownBody m s).1 :=
  fromController_within h (reply_within _ _ _ h)

theorem setTimeBody_within (m : Msg) (h : WithinCapacity s) : WithinCapacity (setTimeBody m s).1 :=
  fromController_within h (by simp [only, h])

/-- R22, R46, R142: a soft reset empties the queues but the DIQ and the UIQ, whose claimed places stay. -/
theorem softReset_within (h : WithinCapacity s) : WithinCapacity (softReset s) where
  diq := h.diq
  uiq := h.uiq
  deq := by simp [softReset, Chi.soft]
  ugq := by simp [softReset, Chi.soft]
  nq := by simp [softReset, Chi.soft]
  deferred := by simp [softReset]
  approach := by simp [softReset, Ptb.soft]

theorem resetBody_within (m : Msg) (h : WithinCapacity s) : WithinCapacity (resetBody m s).1 :=
  fromController_within h (notice_within _ _ _ _ (answerAction_within _ _ _ (softReset_within h)))

/-! #### Station requests -/

theorem holdBody_within (m : Msg) (h : WithinCapacity s) : WithinCapacity (holdBody m s).1 := by
  unfold holdBody; split <;> simp [only, h]

theorem refuseStillHeld_within (m : Msg) (v : StnSet) (h : WithinCapacity s) : WithinCapacity (refuseStillHeld m v s) :=
  foldl_within (fun _ _ hs => refuseHeld_within _ _ _ hs) _ h

theorem resumeBody_within (m : Msg) (h : WithinCapacity s) : WithinCapacity (resumeBody m s).1 := by
  unfold resumeBody
  split_ifs
  · simp [only, h]
  · simp [only, h]
  · exact endHolds_within _ _ (refuseStillHeld_within _ _ (changeHolds_within _ h))

theorem jogReferBody_within {m : Msg} (h : WithinCapacity s) (hk : m.kind = kJog ∨ m.kind = kRefer)
    (hroom : WouldEnterDeq m s → 0 < deqRoom s) : WithinCapacity (jogReferBody m s).1 := by
  unfold jogReferBody
  split
  · simp [only, h]
  next hd =>
    split
    · simp [only, h]
    next st hst =>
      split
      · simp [only, h]
      next hout =>
        split
        next ht =>
          exact pushDeq_within _ _ h
            (hroom ⟨hd, .inr ⟨st, checkRequest_eq_ok.1 hst, by simpa using hout, .inl ⟨hk, ht⟩⟩⟩)
        next => simp [only, h]

theorem notAllowedBody_within (m : Msg) (h : WithinCapacity s) : WithinCapacity (notAllowedBody m s).1 := by
  unfold notAllowedBody; split_ifs <;> simp [only, h]

theorem forwardBody_within {m : Msg} (h : WithinCapacity s) (hk : m.kind = kStatusReq ∨ ∀ r ∈ kindRows, m.kind ≠ r.1)
    (hroom : WouldEnterDeq m s → 0 < deqRoom s) : WithinCapacity (forwardBody m s).1 := by
  unfold forwardBody
  split
  · simp [only, h]
  next hd => exact pushDeq_within _ _ h (hroom ⟨hd, .inl hk⟩)

/-- R5, R6: the taking of a message keeps the capacities. -/
theorem bodyOf_within {i : Instr} {body : Msg → State → Eff} {d : DiqItem} (hb : bodyOf i = some body) (ht : Takes i d s)
    (h : WithinCapacity s) : WithinCapacity (body d.msg (removeDiq d s)).1 := by
  obtain ⟨-, -, hrow, hc⟩ := ht
  have hroom : WouldEnterDeq d.msg (removeDiq d s) → 0 < deqRoom (removeDiq d s) :=
    fun hw => deq_room_of_roomFor (roomFor_of_canTake hc) (.inr hw)
  have hkind : ∀ r ∈ kindRows, i = r.2 → d.msg.kind = r.1 := fun r hr hi => kind_of_rowOf hr (hrow.trans hi)
  have h' := removeDiq_within d h
  cases i with
  | hold => cases hb; exact holdBody_within _ h'
  | resume => cases hb; exact resumeBody_within _ h'
  | clamp => cases hb; exact requestBody_within h' (.inl (hkind (kClamp, .clamp) (by decide) rfl)) hroom
  | cycle => cases hb; exact requestBody_within h' (.inr (.inl (hkind (kCycle, .cycle) (by decide) rfl))) hroom
  | release => cases hb; exact requestBody_within h' (.inr (.inr (hkind (kRelease, .release) (by decide) rfl))) hroom
  | jog => cases hb; exact jogReferBody_within h' (.inl (hkind (kJog, .jog) (by decide) rfl)) hroom
  | refer => cases hb; exact jogReferBody_within h' (.inr (hkind (kRefer, .refer) (by decide) rfl)) hroom
  | move => cases hb; exact notAllowedBody_within _ h'
  | stop => cases hb; exact notAllowedBody_within _ h'
  | abort => cases hb; exact notAllowedBody_within _ h'
  | statusReq => cases hb; exact forwardBody_within h' (.inl (hkind (kStatusReq, .statusReq) (by decide) rfl)) hroom
  | downlaneForward => cases hb; exact forwardBody_within h' (.inr (rowOf_forward_iff.1 hrow).1) hroom
  | tblRead => cases hb; exact readBody_within _ h'
  | tblWrite => cases hb; exact plainWriteBody_within _ h'
  | wideHighWordWrite => cases hb; exact highWordBody_within _ h'
  | recipeWrite => cases hb; exact recipeBody_within _ h'
  | stationConfigWrite => cases hb; exact stationConfigBody_within _ h'
  | windLimitToleranceWrite => cases hb; exact windTolBody_within _ h'
  | zoneWrite => cases hb; exact zoneBody_within _ h'
  | approachCapacityWrite => cases hb; exact capacityBody_within _ h'
  | designationWrite => cases hb; exact designationBody_within _ h'
  | controllerNodeWrite => cases hb; exact controllerBody_within _ h'
  | eventSummaryWrite => cases hb; exact summaryBody_within _ h'
  | maskWrite => cases hb; exact maskBody_within _ h'
  | filterWrite => cases hb; exact filterBody_within _ h'
  | exitModeWrite => cases hb; exact exitModeBody_within _ h'
  | interlockWrite => cases hb; exact interlockBody_within _ h'
  | reactionWrite => cases hb; exact reactionBody_within _ h'
  | counterConfigWrite => cases hb; exact counterBody_within _ h'
  | palletRecordWrite => cases hb; exact recordBody_within _ h'
  | index => cases hb; exact indexBody_within _ h'
  | cancel =>
    cases hb
    have ha : isActionRow (rowOf s d.msg) = true := by rw [hrow]; rfl
    obtain ⟨hd, hk, hA⟩ := action_of_rowOf ha
    have hA2 : d.msg.argA = 2 := BitVec.eq_of_toNat_eq (actionRow_eq_cancel (hA.symm.trans hrow))
    exact cancelBody_within h' ⟨hd, hk, hA2⟩ (canTake_iff.1 hc).2.2.2
  | mode => cases hb; exact modeBody_within _ h'
  | forget => cases hb; exact forgetBody_within _ h'
  | find => cases hb; exact findBody_within _ h'
  | commit => cases hb; exact commitBody_within _ h'
  | discard => cases hb; exact discardBody_within _ h'
  | freeze => cases hb; exact freezeBody_within _ h'
  | trapSet => cases hb; exact trapSetBody_within _ h'
  | trapAck => cases hb; exact trapAckBody_within _ h'
  | faultAck => cases hb; exact faultAckBody_within _ h'
  | clearCounts => cases hb; exact clearCountsBody_within _ h'
  | recover => cases hb; exact recoverBody_within _ h'
  | snapshot => cases hb; exact snapshotBody_within _ h'
  | clearCounters => cases hb; exact clearCountersBody_within _ h'
  | setTime => cases hb; exact setTimeBody_within _ h'
  | reset => cases hb; exact resetBody_within _ h'
  | unknownActionCode => cases hb; exact unknownBody_within _ h'
  | _ => cases hb

end
end Sys2Proof.Machine
end

section
namespace Sys2Proof.Machine

/-! ### The capacities under the commands -/

section
variable {s t : State}

theorem whenOut_within {cond : Bool} {r : Unit → Eff} (h : WithinCapacity s) (hw : cond = true → WithinCapacity (r ()).1)
    (he : whenOut s cond r = .next t) : WithinCapacity t := by
  rcases whenOut_cases s cond r with ⟨-, hc, hr⟩ | hr
  · exact conclude_within (hw hc) (hr.symm.trans he)
  · rw [hr] at he
    cases he
    exact h

theorem takeAs_within {i : Instr} {body : Msg → State → Eff} (hb : bodyOf i = some body) (h : WithinCapacity s)
    (he : takeAs i body s = .next t) : WithinCapacity t := by
  rcases takeAs_takes_or_same i body s with ⟨d, hd, hr⟩ | hr
  · exact conclude_within (bodyOf_within hb hd h) (hr.symm.trans he)
  · rw [hr] at he
    cases he
    exact h

/-! #### Ports: a claimed place counts with its queue (R1) -/

/-- A port whose place is claimed no more than before. -/
theorem setPort_within (p : Port) {v : PortState} (h : WithinCapacity s)
    (hv : bitN v.claimed ≤ bitN (s.port p).claimed) : WithinCapacity (s.setPort p v) := by
  cases p with
  | a => exact ⟨(Nat.add_le_add_left hv _).trans h.diq, h.uiq, h.deq, h.ugq, h.nq, h.deferred, h.approach⟩
  | b => exact ⟨h.diq, (Nat.add_le_add_left hv _).trans h.uiq, h.deq, h.ugq, h.nq, h.deferred, h.approach⟩

theorem setPort_unclaimed_within (p : Port) {v : PortState} (h : WithinCapacity s) (hv : v.claimed = false) :
    WithinCapacity (s.setPort p v) := setPort_within p h (by simp [hv, bitN])

@[simp] theorem startTx_within (p : Port) (m : Msg) (h : WithinCapacity s) : WithinCapacity (startTx p m s) :=
  setPort_within p h le_rfl

/-- R1: a place is claimed only while the queue has one free. -/
theorem claim_within (p : Port) (h : WithinCapacity s) (hr : readyOut s p = true) :
    WithinCapacity (s.setPort p { s.port p with claimed := true }) := by
  cases p with
  | a =>
    have : s.chi.diq.length < 16 := by
      simp [readyOut, readyA, Config.diqCap] at hr
      exact of_decide_eq_true hr.2
    exact ⟨this, h.uiq, h.deq, h.ugq, h.nq, h.deferred, h.approach⟩
  | b =>
    have : s.chi.uiq.length < 32 := by
      simp [readyOut, readyB, Config.uiqCap] at hr
      exact of_decide_eq_true hr.2
    exact ⟨h.diq, this, h.deq, h.ugq, h.nq, h.deferred, h.approach⟩

/-- R2: an intact message enters the DIQ in the place that was claimed for it. -/
theorem enterDiq_within (m : Msg) (h : WithinCapacity s) (hc : s.chi.a.claimed = true) : WithinCapacity (enterDiq m s) := by
  have hd := h.diq
  refine (withinCapacity_lmnEvent ..).2 ⟨?_, h.uiq, h.deq, h.ugq, h.nq, h.deferred, h.approach⟩
  simp [hc, bitN, State.setPort] at hd ⊢
  omega

theorem enterUiq_within (m : Msg) (h : WithinCapacity s) (hc : s.chi.b.claimed = true) : WithinCapacity (enterUiq m s) := by
  have hu := h.uiq
  refine (withinCapacity_lmnEvent ..).2 ⟨h.diq, ?_, h.deq, h.ugq, h.nq, h.deferred, h.approach⟩
  simp [hc, bitN, State.setPort] at hu ⊢
  omega

theorem discardMessage_within (p : Port) (h : WithinCapacity s) : WithinCapacity (discardMessage p s) :=
  occur_within _ _ _ (setPort_unclaimed_within p h rfl)

/-! #### Links and the time -/

theorem forgetSent_within (p : Port) (h : WithinCapacity s) : WithinCapacity (forgetSent p s) := by
  cases p
  · exact h
  · exact ⟨h.diq, h.uiq, h.deq, h.ugq, h.nq, h.deferred, h.approach⟩

theorem windUpdate_within (st : Stn) (p : Option Plan) (a : Angle) (h : WithinCapacity s) :
    WithinCapacity (windUpdate st p a s) := by
  unfold windUpdate; dsimp only; split_ifs <;> simp [h]

theorem expireEntry_within (e : EntryNo) (en : Entry) (h : WithinCapacity s) : WithinCapacity (expireEntry e en s).1 := by
  refine withinCapacity_duePass.2 ?_
  split <;> [exact windUpdate_within _ _ _ h; exact h]

theorem escalate_within (k : FaultKind) (h : WithinCapacity s) : WithinCapacity (escalate k s) :=
  react_within _ _ _ (notice_within _ _ _ _ ((withinCapacity_modFaultRec ..).2 h))

/-- The events of the time keep the capacities (R186). -/
theorem timedEvent_within {f : State → Host.Outcome State Fault Refusal} (hf : f ∈ timedEvents) (h : WithinCapacity s)
    (he : f s = .next t) : WithinCapacity t := by
  simp only [timedEvents, List.append_assoc, List.mem_append, List.mem_cons, List.not_mem_nil, or_false, List.mem_map] at hf
  obtain (rfl | rfl | rfl | rfl) | ⟨i, -, rfl⟩ | ⟨i, -, rfl⟩ | ⟨i, -, rfl⟩ | ⟨i, -, rfl⟩ | ⟨i, -, rfl⟩ := hf
  · exact whenOut_within h (fun _ => filterActive_within _ h) he
  · exact whenOut_within h (fun _ => filterInactive_within _ h) he
  · exact whenOut_within h (fun _ => filterActive_within _ h) he
  · exact whenOut_within h (fun _ => filterInactive_within _ h) he
  · unfold execTransitExpiry at he
    split at he
    · cases he; exact h
    · split at he
      · cases he; exact h
      · exact whenOut_within h (fun _ => transitExpired_within _ _ h) he
  · exact whenOut_within h (fun _ => settleOver_within i h) he
  · unfold execEntryDeadlineExpiry at he
    split at he
    · cases he; exact h
    · exact whenOut_within h (fun _ => expireEntry_within _ _ h) he
  · unfold execDeferExpiry at he
    split at he
    · cases he; exact h
    · exact whenOut_within h (fun _ => h) he
  · exact whenOut_within h (fun _ => escalate_within i h) he

theorem takeDue_within (h : WithinCapacity s) (he : takeDue s = .next t) : WithinCapacity t :=
  takeDue_keeps (fun _ hf _ _ hs hr => timedEvent_within hf hs hr) h he

theorem execTimeTick_within (h : WithinCapacity s) (he : execTimeTick s = .next t) : WithinCapacity t := by
  unfold execTimeTick at he
  split at he
  · cases he; exact h
  · obtain ⟨u, hu, hc⟩ := follow_eq_next he
    exact conclude_within ((withinCapacity_setCounters _).2 (takeDue_within ((withinCapacity_modMga _).2 h) hu)) hc

theorem execSetTime_within (h : WithinCapacity s) (he : execSetTime s = .next t) : WithinCapacity t := by
  obtain ⟨u, hu, hc⟩ := follow_eq_next he
  have := takeAs_within (i := .setTime) rfl h hu
  split at hc
  · exact takeDue_within this hc
  · cases hc; exact this

/-! #### Transmission -/

theorem serveA_within (v : Served) (h : WithinCapacity s) : WithinCapacity (serveA v s) := by
  unfold serveA
  split
  · split
    next m rest hq =>
      have hu := h.uiq
      rw [hq, List.length_cons] at hu
      exact ⟨h.diq, by simp [startTx, State.setPort, State.port]; omega, h.deq, h.ugq, h.nq, h.deferred, h.approach⟩
    next => exact h
  · split
    next m rest hq =>
      have hn := h.nq
      rw [hq, List.length_cons] at hn
      exact ⟨h.diq, h.uiq, h.deq, h.ugq, by simp; omega, h.deferred, h.approach⟩
    next => exact h

theorem enqueueOwed_within (st : Stn) (h : WithinCapacity s) (hr : owedRoom s = true) :
    WithinCapacity (enqueueOwed st s) := by
  have hroom : 0 < deqRoom s := by simp [owedRoom] at hr; exact hr.1
  have h' := pushDeq_within (statusReqMsg s st) none h hroom
  exact ⟨h'.diq, h'.uiq, h'.deq, h'.ugq, h'.nq, h'.deferred, h'.approach⟩

theorem enqueueAllOwed_within (h : WithinCapacity s) : WithinCapacity (enqueueAllOwed s) :=
  foldl_within (fun x st hx => by split <;> [exact enqueueOwed_within st hx ‹_›; exact hx]) _ h

theorem withinCapacity_issueEntry (e : EntryNo) : WithinCapacity (issueEntry e s) ↔ WithinCapacity s := by
  unfold issueEntry; split <;> simp

theorem withinCapacity_noteReleased (e : Option EntryNo) (t : Option Tag) :
    WithinCapacity (noteReleased e t s) ↔ WithinCapacity s := by
  unfold noteReleased; split <;> simp

theorem transmitted_within (m : Msg) (e : Option EntryNo) (h : WithinCapacity s) :
    WithinCapacity (transmitted m e s).1 := by
  unfold transmitted
  split
  · exact h
  · split_ifs <;> simp [only, h, withinCapacity_noteReleased]

theorem transmitHead_within {d : DeqItem} {rest : List DeqItem} (h : WithinCapacity s) (hq : s.chi.deq = d :: rest) :
    WithinCapacity (transmitHead d rest s).1 := by
  have hd := h.deq
  rw [hq, List.length_cons] at hd
  have h1 : WithinCapacity (s.modChi (fun c => { c with deq := rest })) :=
    ⟨h.diq, h.uiq, by simp; omega, h.ugq, h.nq, h.deferred, h.approach⟩
  unfold transmitHead
  dsimp only
  split
  · refine transmitted_within _ _ ?_
    split <;> simp [h1, withinCapacity_issueEntry]
  · split <;> simp [only, h1]

theorem transmitStop_within {u : UgqItem} {rest : List UgqItem} (h : WithinCapacity s) (hq : s.chi.ugq = u :: rest) :
    WithinCapacity (transmitStop u rest s) := by
  have hu := h.ugq
  rw [hq, List.length_cons] at hu
  have h1 : WithinCapacity ((startTx .b u.msg s).modChi (fun c => { c with ugq := rest })) :=
    ⟨h.diq, (startTx_within .b u.msg h).uiq, h.deq, by simp; omega, h.nq, h.deferred, h.approach⟩
  unfold transmitStop
  dsimp only
  split <;> simp [h1]

/-! #### Reports -/

theorem applyAt_within (st : Stn) (m : Msg) (h : WithinCapacity s) : WithinCapacity (applyAt st m s).1 := by
  have hr : ∀ a, WithinCapacity (atReferenced st a s) := fun a => h.congr rfl rfl rfl
  have hu : ∀ a, WithinCapacity (atUncommanded st a s) := by
    intro a
    unfold atUncommanded
    dsimp only
    split_ifs
    · exact react_within _ _ _ (clearReference_within _ (recordFault_within _ _ _ (by simp [h])))
    · simp [h]
  unfold applyAt
  dsimp only
  split_ifs
  · exact hr _
  · simp [only, h]
  all_goals
    split
    · exact hu _
    · split
      · exact h
      · simp [only, h, windUpdate_within]

theorem applyTag_within (st : Stn) (m : Msg) (h : WithinCapacity s) : WithinCapacity (applyTag st m s).1 := by
  unfold applyTag; split <;> simp [h]

theorem applyClamped_within (st : Stn) (m : Msg) (h : WithinCapacity s) : WithinCapacity (applyClamped st m s).1 := by
  unfold applyClamped; dsimp only; split <;> simp [only, h]

theorem applyTool_within (st : Stn) (m : Msg) (h : WithinCapacity s) : WithinCapacity (applyTool st m s).1 := by
  unfold applyTool; dsimp only; split <;> simp [only, h]

theorem applyCycleEnd_within (st : Stn) (m : Msg) (h : WithinCapacity s) : WithinCapacity (applyCycleEnd st m s).1 := by
  unfold applyCycleEnd
  repeat' split
  all_goals exact h

theorem applyGone_within (st : Stn) (m : Msg) (h : WithinCapacity s) : WithinCapacity (applyGone st m s).1 := by
  simp [applyGone, h]

theorem applyNodeFault_within (st : Stn) (m : Msg) (h : WithinCapacity s) : WithinCapacity (applyNodeFault st m s).1 := by
  simp [applyNodeFault, only, h]

theorem reportAs_within {kind : Byte} {apply : Stn → Msg → State → Eff} {m : Msg}
    (ha : ∀ st x, WithinCapacity x → WithinCapacity (apply st m x).1) (h : WithinCapacity s)
    (he : reportAs kind apply m s = .next t) : WithinCapacity t := by
  refine whenOut_within h (fun _ => ?_) he
  split
  next hc =>
    have hu := enterUiq_within m h (by simp at hc; exact hc.1)
    split
    · exact ha _ _ (withinCapacity_duePass.2 hu)
    · exact hu
  next => exact discardMessage_within .b h

theorem atReset_within (cause : ResetCause) (straps : Node) (rawA rawB : Bool) (q : List Instr) :
    WithinCapacity (State.atReset cause straps rawA rawB q) where
  diq := by simp [State.atReset, resetChi, bitN]
  uiq := by simp [State.atReset, resetChi, bitN]
  deq := by simp [State.atReset, resetChi]
  ugq := by simp [State.atReset, resetChi]
  nq := by simp [State.atReset, resetChi]
  deferred := by simp [State.atReset, resetIlk]
  approach := by simp [State.atReset, resetPtb]

/-- R1, R28, R142: every command keeps the capacities. -/
theorem exec_within (i : Instr) (h : WithinCapacity s) (he : exec i s = .next t) : WithinCapacity t := by
  by_cases hi : takesFromDiq i = true
  · by_cases hs : i = .setTime
    · subst hs
      exact execSetTime_within h he
    · obtain ⟨body, hb⟩ := bodyOf_isSome hi
      rw [exec_of_bodyOf hb hs] at he
      exact takeAs_within hb h he
  · cases i with
    | powerOnReset straps rawA rawB => cases he; exact atReset_within ..
    | pinReset straps =>
      change execPinReset straps s = _ at he
      unfold execPinReset at he
      split at he <;> cases he
      · exact atReset_within ..
      · exact h
    | linkUp p =>
      change execLinkUp p s = _ at he
      exact whenOut_within h (fun _ => notice_within _ _ _ _ (forgetSent_within p (setPort_within p (v := { s.port p with up := true }) h le_rfl))) he
    | linkDown p =>
      change execLinkDown p s = _ at he
      exact whenOut_within h (fun _ => occur_within _ _ _ (setPort_unclaimed_within p h rfl)) he
    | trapInputChange z =>
      change execTrapInputChange z s = _ at he
      unfold execTrapInputChange at he
      split at he
      · cases he; simp [h]
      · exact conclude_within (judgeFilter_within z ((withinCapacity_setZone ..).2 h)) he
    | trapFilterAssert z =>
      change execTrapFilterAssert z s = _ at he
      exact whenOut_within h (fun _ => filterActive_within z h) he
    | trapFilterRelease z =>
      change execTrapFilterRelease z s = _ at he
      exact whenOut_within h (fun _ => filterInactive_within z h) he
    | timeTick => exact execTimeTick_within h he
    | integrityScan =>
      change execIntegrityScan s = _ at he
      exact whenOut_within h (fun _ => scan_within (s := { s with fcu := { s.fcu with scanClock := 0 } }) (h.congr rfl rfl rfl)) he
    | transitExpiry slot => exact timedEvent_within (f := execTransitExpiry slot) (by simp [timedEvents]) h he
    | settleExpiry st => exact timedEvent_within (f := execSettleExpiry st) (by simp [timedEvents, allStn, allEntries]) h he
    | entryDeadlineExpiry e => exact timedEvent_within (f := execEntryDeadlineExpiry e) (by simp [timedEvents, allStn, allEntries]) h he
    | deferExpiry e => exact timedEvent_within (f := execDeferExpiry e) (by simp [timedEvents, allStn, allEntries]) h he
    | escalation k => exact timedEvent_within (f := execEscalation k) (by simp [timedEvents]) h he
    | downlaneReceive m =>
      change execDownlaneReceive m s = _ at he
      refine whenOut_within h (fun _ => ?_) he
      dsimp only [only]
      split
      next hc => exact enterDiq_within m h (by simp at hc; exact hc.1)
      next => exact discardMessage_within .a h
    | messageDiscarded p =>
      change execMessageDiscarded p s = _ at he
      exact whenOut_within h (fun _ => discardMessage_within p h) he
    | tagReport m => exact reportAs_within (fun st _ hx => applyTag_within st m hx) h he
    | atReport m => exact reportAs_within (fun st _ hx => applyAt_within st m hx) h he
    | clampedReport m => exact reportAs_within (fun st _ hx => applyClamped_within st m hx) h he
    | toolReport m => exact reportAs_within (fun st _ hx => applyTool_within st m hx) h he
    | cycleEndReport m => exact reportAs_within (fun st _ hx => applyCycleEnd_within st m hx) h he
    | goneReport m => exact reportAs_within (fun st _ hx => applyGone_within st m hx) h he
    | nodeFaultReport m => exact reportAs_within (fun st _ hx => applyNodeFault_within st m hx) h he
    | uplaneForward m =>
      change execUplaneForward m s = _ at he
      refine whenOut_within h (fun _ => ?_) he
      dsimp only [only]
      split
      next hc => exact enterUiq_within m h (by simp at hc; exact hc.1)
      next => exact discardMessage_within .b h
    | portATransmit ready =>
      change execPortATransmit ready s = _ at he
      unfold execPortATransmit at he
      split at he
      · cases he; exact h
      · exact whenOut_within h (fun _ => serveA_within _ h) he
    | portBHold ready =>
      change execPortBHold ready s = _ at he
      refine whenOut_within h (fun _ => ?_) he
      have h' := startTx_within .b (holdMsg s kHold (holdSet s)) h
      exact ⟨h'.diq, h'.uiq, h'.deq, h'.ugq, h'.nq, h'.deferred, h'.approach⟩
    | portBResume ready =>
      change execPortBResume ready s = _ at he
      refine whenOut_within h (fun _ => enqueueAllOwed_within ?_) he
      have h' := startTx_within .b (holdMsg s kResume (resumeDue s)) h
      exact ⟨h'.diq, h'.uiq, h'.deq, h'.ugq, h'.nq, h'.deferred, h'.approach⟩
    | stopAbortTransmit ready =>
      change execStopAbortTransmit ready s = _ at he
      unfold execStopAbortTransmit at he
      split at he
      · cases he; exact h
      next hq => exact whenOut_within h (fun _ => transmitStop_within h hq) he
    | deqTransmit ready =>
      change execDeqTransmit ready s = _ at he
      unfold execDeqTransmit at he
      split at he
      · cases he; exact h
      next hq => exact whenOut_within h (fun _ => transmitHead_within h hq) he
    | owedStatusReqEnqueue =>
      change execOwedStatusReqEnqueue s = _ at he
      unfold execOwedStatusReqEnqueue at he
      split at he
      · cases he; exact h
      · exact whenOut_within h (fun hr => enqueueOwed_within _ h hr) he
    | sendingEntryEnqueue =>
      change execSendingEntryEnqueue s = _ at he
      unfold execSendingEntryEnqueue at he
      split at he
      · cases he; exact h
      · exact whenOut_within h (fun hr => enqueueCommand_within _ h (by simpa using hr)) he
    | keptRefusalDelivery =>
      change execKeptRefusalDelivery s = _ at he
      unfold execKeptRefusalDelivery at he
      split at he
      · cases he; exact h
      · refine whenOut_within h (fun hr => ⟨h.diq, h.uiq, h.deq, h.ugq, ?_, h.deferred, h.approach⟩) he
        have := of_decide_eq_true hr
        simp only [Config.nqCap, only, State.modChi_chi, List.length_append, List.length_singleton] at this ⊢
        omega
    | ingressPlaceClaim p =>
      change execIngressPlaceClaim p s = _ at he
      exact whenOut_within h (fun hc => claim_within p h (by simp at hc; exact hc.1.2)) he
    | transmissionEnd p =>
      change execTransmissionEnd p s = _ at he
      exact whenOut_within h (fun _ => setPort_within p (v := { s.port p with tx := none }) h le_rfl) he
    | resetInputLow =>
      cases he
      have hd := h.diq
      have hu := h.uiq
      exact ⟨by simp [PortState.quiet, bitN]; omega, by simp [PortState.quiet, bitN]; omega, h.deq, h.ugq, h.nq, h.deferred,
        h.approach⟩
    | _ => exact absurd rfl hi

end
end Sys2Proof.Machine

namespace Sys2Proof.Proofs
open Sys2Proof.Machine

/-- Settles O1, from the definition of a step. -/
theorem stepRunsFront : Obligations.StepRunsFront := by
  intro c rest s h
  simp [step, h]

/-- Settles O6: a step is a command, which keeps the capacities, or a period of the clock, which leaves the queues. -/
theorem everyStepKeepsCapacities : Obligations.EveryStepKeepsCapacities := by
  intro s t h hs
  unfold step at hs
  split at hs
  next i rest _ => exact exec_within (s := { s with pending := rest }) i (h.congr rfl rfl rfl) hs
  next =>
    cases hs
    unfold clockPeriod
    split
    · exact h
    · exact h.congr rfl rfl rfl

end Sys2Proof.Proofs
end

section
namespace Sys2Proof.Machine

/-! ### Empty tables are in order -/

/-- R24: with no record, no list entry and no pending admission the pallet table is in order. -/
theorem palletTable_of_empty {s : State} (hs : ∀ i, s.ptb.slots.get i = none) (hl : ∀ st, s.ptb.approach.get st = [])
    (ha : s.ptb.pendingAdm = none) : PalletTable s where
  tagged i r h := by simp [hs] at h
  oneRecord i j r q h := by simp [hs] at h
  oncePerList st := by simp [hl]
  listOfDestination st p := by simp [hs, hl]
  admission a h := by simp [ha] at h

/-- R116, R142: with no entry, no deferred command and an empty DEQ the motion request table is in order. -/
theorem entryTable_of_empty {s : State} (he : ∀ e, s.entry? e = none) (hd : s.ilk.deferred = []) (hq : s.chi.deq = []) :
    EntryTable s where
  oneActive e f x y h := by simp [he] at h
  onePending e f x y h := by simp [he] at h
  deferred e := by simp [he, hd]
  deferredOnce := by simp [hd]
  commands d h := by simp [hq] at h
  commandsOnce := by simp [hq]

/-! ### Events without tasks -/

/-- R142: between events nothing is due, so an effect that sets no mark and starts no task is all that an event does. -/
theorem conclude_only_clear {s : State} (h : s.ev = clearWithin) : conclude (only s) = .next s := by
  rw [conclude_only (by rw [h]; rfl), closeEvent_clear h]

theorem whenOut_only {s t : State} {cond : Bool} (hr : s.mga.inReset = false) (hc : cond = true) (he : t.ev = clearWithin) :
    whenOut s cond (fun _ => only t) = .next t := by
  rw [whenOut_true hr hc, conclude_only_clear he]

theorem whenOut_false (s : State) (r : Unit → Eff) : whenOut s false r = .next s := by simp [whenOut]

@[simp] theorem setPort_ev (p : Port) (v : PortState) (s : State) : (s.setPort p v).ev = s.ev := by cases p <;> rfl

/-! ### Port A (R15) -/

theorem canStart_eq {s : State} {p : Port} (hr : s.mga.inReset = false) (hu : (s.port p).up = true)
    (ht : (s.port p).tx = none) : canStart s p true = true := by
  simp [canStart, hr, hu, ht]

theorem canStart_eq_false {s : State} {p : Port} {ready : Bool} (h : (s.port p).up = false ∨ (s.port p).tx ≠ none) :
    canStart s p ready = false := by
  rcases h with h | h
  · simp [canStart, h]
  · simp [canStart, Option.isNone_eq_false_iff.2 (Option.isSome_iff_ne_none.2 h)]

theorem execPortATransmit_serves {s : State} {v : Served} (hs : Running s) (hc : canStart s .a true = true)
    (hv : nextServed s.chi = some v) (he : (serveA v s).ev = s.ev) :
    exec (.portATransmit true) s = .next (serveA v s) := by
  change execPortATransmit true s = _
  simp only [execPortATransmit, hv]
  exact whenOut_only hs.2 hc (he.trans hs.1)

end Sys2Proof.Machine

namespace Sys2Proof.Proofs
open Sys2Proof.Machine

/-- Settles O9: after power-on every queue and table is empty, but for the NOTICE START. -/
theorem invariantsHoldAtReset : Obligations.InvariantsHoldAtReset := by
  refine ⟨atReset_within .power 63 false false [], palletTable_of_empty ?_ ?_ rfl, entryTable_of_empty ?_ rfl rfl⟩
  · intro i; simp [State.reset, State.atReset, resetPtb]
  · intro st; simp [State.reset, State.atReset, resetPtb]
  · intro e; simp [State.reset, State.atReset, resetMrt, State.entry?]

/-- Settles O58: each part is an event without tasks. -/
theorem portATransmission : Obligations.PortATransmission := by
  refine ⟨fun s hs hu ht => ⟨?_, ?_⟩, ?_, ?_, ?_⟩
  · intro m rest hq hn
    have hv : nextServed s.chi = some .uiq := by
      rcases hn with hn | hn
      · simp [nextServed, hq, hn]
      · unfold nextServed; split <;> simp_all
    rw [execPortATransmit_serves hs (canStart_eq hs.2 hu ht) hv (by simp [serveA, hq, startTx])]
    simp [serveA, hq, startTx, State.setPort, State.port, State.modChi]
  · intro m rest hq hn
    have hv : nextServed s.chi = some .nq := by
      rcases hn with hn | hn
      · simp [nextServed, hq, hn]
      · unfold nextServed; split <;> simp_all
    rw [execPortATransmit_serves hs (canStart_eq hs.2 hu ht) hv (by simp [serveA, hq, startTx])]
    simp [serveA, hq, startTx, State.setPort, State.port, State.modChi]
  · intro s m rest hs hk hn
    change execKeptRefusalDelivery s = _
    simp only [execKeptRefusalDelivery, hk]
    exact whenOut_only hs.2 (decide_eq_true hn) hs.1
  · intro p s hs ht
    exact whenOut_only (t := s.setPort p { s.port p with tx := none }) hs.2 ht (by simp [hs.1])
  · intro s h ready
    change execPortATransmit ready s = _
    unfold execPortATransmit
    split
    · rfl
    · rw [canStart_eq_false (p := .a) h, whenOut_false]

end Sys2Proof.Proofs
end

section
namespace Sys2Proof.Machine

/-- R3: a message made with its CRC is intact. -/
@[simp] theorem mkMsg_intact (prio : BitVec 2) (dst src : Node) (kind st : Byte) (p : Tag) (a b : Word) :
    (mkMsg prio dst src kind st p a b).intact = true := beq_iff_eq.2 rfl

/-! ### What a NOTICE comes to (R183, R184, R23) -/

theorem classCode_lt (k : EvClass) : classCode k < 9 := by cases k <;> decide

theorem mask_classBit_eq_zero (mask : BitVec 9) (k : EvClass) :
    mask &&& classBit k = 0 ↔ mask.getLsbD (classCode k) = false := by
  have hk := classCode_lt k
  unfold classBit
  constructor
  · intro h
    have := congrArg (fun v => v.getLsbD (classCode k)) h
    simpa [hk] using this
  · intro h
    ext i hi
    by_cases hik : i = classCode k
    · subst hik; simp [← BitVec.getLsbD_eq_getElem, h]
    · simp [← BitVec.getLsbD_eq_getElem]
      omega

theorem eventCode_lt (ev : Event) : eventCode ev < 256 := by cases ev <;> decide

/-- The state in which an event has set the flag of its class. -/
def flagged (ev : Event) (s : State) : State :=
  s.modMga (fun m => { m with summary := m.summary ||| classBit (eventClass ev) })

section
variable (ev : Event) (st : Byte) (p : Tag) (d : Nat) {s : State}

theorem notice_masked (h : s.mga.noticeMask.getLsbD (classCode (eventClass ev)) = false) :
    notice ev st p d s = flagged ev s := by
  unfold notice
  exact if_pos ((mask_classBit_eq_zero _ _).2 h)

theorem notice_sent (h : s.mga.noticeMask.getLsbD (classCode (eventClass ev)) = true)
    (hn : s.chi.nq.length + s.mrt.kept.length ≤ 12) :
    notice ev st p d s = { flagged ev s with
      chi := { s.chi with nq := s.chi.nq ++ s.mrt.kept
        ++ [mkNotice s.mga.node s.mga.controller s.now ev st p (d % 128 + 128 * bitN s.chi.afterLoss)], afterLoss := false }
      mrt := { s.mrt with kept := [] } } := by
  have hm : ¬ s.mga.noticeMask &&& classBit (eventClass ev) = 0 := by rw [mask_classBit_eq_zero, h]; decide
  have hp : Config.noticePlaces ≤ nqFree (flagged ev s) := by
    simp only [nqFree, flagged, State.modMga, Config.noticePlaces, Config.nqCap]; omega
  unfold notice
  exact (if_neg hm).trans (if_pos hp)

theorem notice_lost (h : s.mga.noticeMask.getLsbD (classCode (eventClass ev)) = true)
    (hn : 12 < s.chi.nq.length + s.mrt.kept.length) :
    ∃ x, notice ev st p d s = lmnEvent .noticeLost x none ((flagged ev s).modChi (fun c => { c with afterLoss := true })) := by
  have hm : ¬ s.mga.noticeMask &&& classBit (eventClass ev) = 0 := by rw [mask_classBit_eq_zero, h]; decide
  have hp : ¬ Config.noticePlaces ≤ nqFree (flagged ev s) := by
    simp only [nqFree, flagged, State.modMga, Config.noticePlaces, Config.nqCap]; omega
  unfold notice
  exact ⟨_, (if_neg hm).trans (if_neg hp)⟩

/-- R184: the bytes of a NOTICE's first argument. -/
theorem mkNotice_argA (node ctl : Node) (now : Time) {n : Nat} (hn : n < 256) :
    (mkNotice node ctl now ev st p n).argA.toNat = 256 * eventCode ev + n := by
  have := eventCode_lt ev
  simp [mkNotice, mkMsg]
  omega

end

/-! ### The values after power-on and pin reset -/

theorem stationAtReset (st : Stn) : StationAtReset st (resetStation st) where
  node := rfl
  zone := rfl
  stops k := by simp [resetStation, defaultCfg]
  zero := rfl
  tol := rfl
  rate := rfl
  accel := rfl
  windLimit := rfl
  margin := rfl
  settle := rfl
  clampLimit := rfl
  releaseLimit := rfl
  stopLimit := rfl
  transitLimit := rfl
  capacity := rfl
  mode := rfl
  pendingMode := rfl
  angle := rfl
  wind := rfl
  referenced := rfl
  tool := rfl
  commanded := rfl
  sensed := rfl
  occupant := rfl
  holds := rfl
  stopCauses := rfl

theorem zoneAtReset (raw : Bool) : ZoneAtReset raw (resetZone raw) := by constructor <;> rfl

theorem recordAtReset (r : Reaction) : RecordAtReset r (resetFaultRec r) := by constructor <;> simp [resetFaultRec]

theorem counterAtReset : CounterAtReset resetCounter := by constructor <;> simp [resetCounter]

/-- R185: the state at the release of a power-on or pin reset has the values of every rule. -/
theorem afterReset_atReset (cause : ResetCause) (straps : Node) (rawA rawB : Bool) (q : List Instr) :
    AfterReset cause straps rawA rawB (State.atReset cause straps rawA rawB q) where
  node := rfl
  controller := rfl
  resetCause := rfl
  time := ⟨rfl, rfl⟩
  latch := rfl
  released := rfl
  summary := by rfl
  masks := ⟨rfl, by rfl⟩
  links := ⟨rfl, rfl⟩
  ports := ⟨rfl, rfl, rfl, rfl⟩
  queues := ⟨rfl, rfl, rfl, rfl⟩
  start := by
    refine ⟨_, rfl, rfl, rfl, rfl, rfl, rfl, ?_⟩
    cases cause <;> rfl
  served := rfl
  image := ⟨rfl, rfl, rfl⟩
  loss := rfl
  slots i := by simp [State.atReset, resetPtb]
  lists i := by simp [State.atReset, resetPtb]
  admission := rfl
  offsetMax := rfl
  banks b := by simp [State.atReset, resetRcs, Vector.get, emptyBank]
  generation := ⟨rfl, rfl⟩
  designation := ⟨rfl, rfl⟩
  stations st := by
    have h : (State.atReset cause straps rawA rawB q).station st = resetStation st := by
      simp [State.atReset, State.station, resetStb]
    exact h ▸ stationAtReset st
  processes st := by simp [State.atReset, State.proc, resetIdx, Vector.get, resetProcess]
  entries e := by simp [State.atReset, State.entry?, resetMrt]
  kept := rfl
  interlocks i := by simp [State.atReset, resetIlk, Vector.get, resetIlkEntry]
  deferred := rfl
  frozen := rfl
  zones := ⟨zoneAtReset rawA, zoneAtReset rawB⟩
  reactions k := by simp [State.atReset, resetFcu, defaultReaction]
  records k := by
    have h : (State.atReset cause straps rawA rawB q).faultRec k
        = resetFaultRec ((State.atReset cause straps rawA rawB q).fcu.reaction.get k) := by
      simp [State.atReset, State.faultRec, resetFcu]
    exact h ▸ recordAtReset _
  normal := ⟨rfl, rfl⟩
  bankChecks := ⟨rfl, rfl⟩
  counters i := by
    have h : (State.atReset cause straps rawA rawB q).lmn.counters.get i = resetCounter := by
      simp [State.atReset, resetLmn]
    exact h ▸ counterAtReset
  snapTime := rfl

end Sys2Proof.Machine

namespace Sys2Proof.Proofs
open Sys2Proof.Machine

/-- Settles O3, from the values of the reset state. -/
theorem hardResets : Obligations.HardResets := by
  refine ⟨afterReset_atReset .power 63 false false [], rfl, ?_, ?_, ?_, fun s => rfl⟩
  · exact fun straps rawA rawB s => ⟨_, rfl, afterReset_atReset .power straps rawA rawB s.pending, rfl, rfl⟩
  · intro straps s h
    exact ⟨_, if_pos h, afterReset_atReset .pin straps s.trp.a.raw s.trp.b.raw s.pending, rfl, rfl⟩
  · intro straps s h
    exact if_neg (by simp [h])

/-- Settles O14: the three cases of a NOTICE. -/
theorem noticeAdmission : Obligations.NoticeAdmission := by
  intro ev station pallet detail s
  dsimp only
  rcases hon : s.mga.noticeMask.getLsbD (classCode (eventClass ev)) with - | -
  · rw [notice_masked ev station pallet detail hon]
    exact ⟨rfl, by simp [flagged], by simp, by simp, rfl⟩
  · by_cases hn : s.chi.nq.length + s.mrt.kept.length ≤ 12
    · rw [notice_sent ev station pallet detail hon hn]
      have hn' : ¬ 12 < s.chi.nq.length + s.mrt.kept.length := by omega
      have hb : bitN s.chi.afterLoss ≤ 1 := by cases s.chi.afterLoss <;> decide
      refine ⟨rfl, by simp, fun _ _ => ⟨_, rfl, rfl, rfl, mkMsg_intact .., rfl, rfl, rfl, rfl, rfl, rfl, ?_, ?_⟩, by simp [hn'], rfl⟩
      · rw [mkNotice_argA _ _ _ _ _ _ (by omega)]
        omega
      · exact BitVec.eq_of_toNat_eq (by simp [mkNotice, mkMsg, State.now])
    · obtain ⟨x, hx⟩ := notice_lost ev station pallet detail hon (by omega)
      rw [hx]
      exact ⟨rfl, by simp, fun _ h => absurd h hn, fun _ _ => ⟨rfl, rfl⟩, rfl⟩

end Sys2Proof.Proofs
end

section
namespace Sys2Proof.Machine

/-! ### What a NOTICE and the end of an event leave (R23, R176) -/

/-- From `s` to `t` nothing changes but what notices change: the NQ, the after-loss mark, the kept refusals, the counters, the
event summary and the model's marks. -/
def NoticesOnly (s t : State) : Prop :=
  t = { s with
    chi := { s.chi with nq := t.chi.nq, afterLoss := t.chi.afterLoss }
    mrt := { s.mrt with kept := t.mrt.kept }
    lmn := t.lmn, mga := { s.mga with summary := t.mga.summary }, ev := t.ev }

theorem NoticesOnly.refl (s : State) : NoticesOnly s s := rfl

theorem NoticesOnly.trans {s t u : State} (h : NoticesOnly s t) (k : NoticesOnly t u) : NoticesOnly s u := by
  unfold NoticesOnly at h k ⊢
  rw [k, h]

theorem NoticesOnly.ofEv (s : State) (v : Within) : NoticesOnly s { s with ev := v } := rfl

theorem noticesOnly_notice (ev : Event) (st : Byte) (p : Tag) (d : Nat) (s : State) : NoticesOnly s (notice ev st p d s) := by
  unfold notice
  dsimp only
  split_ifs <;> rfl

theorem noticesOnly_flushMonitor (n : Nat) (s : State) : NoticesOnly s (flushMonitor n s) := by
  induction n generalizing s with
  | zero => rfl
  | succ n ih =>
    unfold flushMonitor
    split
    · rfl
    · exact ((NoticesOnly.ofEv ..).trans (noticesOnly_notice ..)).trans (ih _)

theorem noticesOnly_closeEvent (s : State) : NoticesOnly s (closeEvent s) :=
  (noticesOnly_flushMonitor 9 s).trans (.ofEv _ _)

/-- The end of an event, with every field that it leaves in its place. -/
theorem closeEvent_eq (s : State) : closeEvent s = { s with
    chi := { s.chi with nq := (closeEvent s).chi.nq, afterLoss := (closeEvent s).chi.afterLoss }
    mrt := { s.mrt with kept := (closeEvent s).mrt.kept }
    lmn := (closeEvent s).lmn, mga := { s.mga with summary := (closeEvent s).mga.summary }, ev := clearWithin } :=
  noticesOnly_closeEvent s

/-! ### Counters (R173, R176) -/

theorem Counter.add_one_count (c : Counter) : (c.add 1).count = c.count + 1 := by unfold Counter.add; split <;> rfl

theorem Counter.add_source (c : Counter) (n : Nat) : (c.add n).source = c.source := by unfold Counter.add; split <;> rfl

theorem Counter.sees_of_source {c : Counter} {src : EvSource} (st : Option Stn) (k : Option Byte)
    (h : c.source ≠ .event src) : c.sees src st k = false := by
  simp [Counter.sees, h]

theorem lmnEvent_counter (src : EvSource) (st : Option Stn) (k : Option Byte) (s : State) (i : Fin 8) :
    (lmnEvent src st k s).lmn.counters.get i
      = if (s.lmn.counters.get i).sees src st k then (s.lmn.counters.get i).add 1 else s.lmn.counters.get i := by
  simp [lmnEvent, State.setCounters]

theorem lmnEvent_count (src : EvSource) (st : Option Stn) (k : Option Byte) (s : State) (i : Fin 8) :
    ((lmnEvent src st k s).lmn.counters.get i).count
      = (s.lmn.counters.get i).count + (if (s.lmn.counters.get i).sees src st k then 1 else 0) := by
  rw [lmnEvent_counter]
  split <;> simp [Counter.add_one_count]

theorem lmnEvent_source (src : EvSource) (st : Option Stn) (k : Option Byte) (s : State) (i : Fin 8) :
    ((lmnEvent src st k s).lmn.counters.get i).source = (s.lmn.counters.get i).source := by
  rw [lmnEvent_counter]
  split <;> simp [Counter.add_source]

/-- R173: a notice counts nothing but its own loss. -/
theorem notice_counter (ev : Event) (st : Byte) (p : Tag) (d : Nat) {s : State} {i : Fin 8}
    (h : (s.lmn.counters.get i).source ≠ .event .noticeLost) :
    (notice ev st p d s).lmn.counters.get i = s.lmn.counters.get i := by
  unfold notice
  dsimp only
  split_ifs
  · rfl
  · rfl
  all_goals
    rw [lmnEvent_counter, Counter.sees_of_source _ _ (by exact h)]
    rfl

theorem flushMonitor_counter (n : Nat) {s : State} {i : Fin 8} (h : (s.lmn.counters.get i).source ≠ .event .noticeLost) :
    (flushMonitor n s).lmn.counters.get i = s.lmn.counters.get i := by
  induction n generalizing s with
  | zero => rfl
  | succ n ih =>
    unfold flushMonitor
    split
    · rfl
    next j _ =>
      have hn := notice_counter .counterOverflow 255 0 j.val
        (s := s.modEv (fun e => { e with monitorDue := e.monitorDue.filter (· != j) })) (i := i) h
      exact (ih (hn ▸ h)).trans hn

theorem closeEvent_counter {s : State} {i : Fin 8} (h : (s.lmn.counters.get i).source ≠ .event .noticeLost) :
    (closeEvent s).lmn.counters.get i = s.lmn.counters.get i := flushMonitor_counter 9 h

/-- One event counted, to the end of the event. -/
theorem closeEvent_lmnEvent_count (src : EvSource) (st : Option Stn) (k : Option Byte) {s : State} {i : Fin 8}
    (h : (s.lmn.counters.get i).source ≠ .event .noticeLost) :
    ((closeEvent (lmnEvent src st k s)).lmn.counters.get i).count
      = (s.lmn.counters.get i).count + (if (s.lmn.counters.get i).sees src st k then 1 else 0) := by
  rw [closeEvent_counter (by rwa [lmnEvent_source]), lmnEvent_count]

/-! ### Faults (R160) -/

@[simp] theorem State.port_setPort (p : Port) (v : PortState) (s : State) : (s.setPort p v).port p = v := by cases p <;> rfl

theorem faultRec_of_fcu {s t : State} (h : t.fcu = s.fcu) (j : FaultKind) : t.faultRec j = s.faultRec j := by
  simp [State.faultRec, h]

/-- A reaction lists at most the trapped zones in the record of its own kind (R159). -/
def ListsZones (k : FaultKind) (s t : State) : Prop :=
  (∃ z, t.faultRec k = { s.faultRec k with zones := z }) ∧ ∀ j, j ≠ k → t.faultRec j = s.faultRec j

theorem ListsZones.of_fcu (k : FaultKind) {s t : State} (h : t.fcu = s.fcu) : ListsZones k s t :=
  ⟨⟨_, faultRec_of_fcu h k⟩, fun j _ => faultRec_of_fcu h j⟩

theorem ListsZones.trans {k : FaultKind} {s t u : State} (h : ListsZones k s t) (g : ListsZones k t u) : ListsZones k s u := by
  obtain ⟨⟨x, hx⟩, h⟩ := h
  obtain ⟨⟨y, hy⟩, g⟩ := g
  exact ⟨⟨y, by rw [hy, hx]⟩, fun j hj => (g j hj).trans (h j hj)⟩

theorem listsZones_trapForFault (k : FaultKind) (z : Zone) (s : State) : ListsZones k s (trapForFault k z s) := by
  refine ListsZones.trans (t := s.modFaultRec k (fun r =>
      match z with
      | .a => { r with zones := { r.zones with a := true } }
      | .b => { r with zones := { r.zones with b := true } })) ?_ (.of_fcu k (zoneAdd_fcu ..))
  constructor
  · cases z <;> exact ⟨_, by rw [State.modFaultRec_faultRec, if_pos rfl]⟩
  · intro j hj
    rw [State.modFaultRec_faultRec, if_neg hj]

theorem listsZones_lineTrap (k : FaultKind) (s : State) : ListsZones k s (lineTrap k s) :=
  (listsZones_trapForFault k .a s).trans (listsZones_trapForFault k .b _)

theorem listsZones_react (k : FaultKind) (l : Level) (st : Option Stn) (s : State) : ListsZones k s (react k l st s) := by
  unfold react
  split
  · exact .of_fcu k rfl
  · exact .of_fcu k (changeHolds_fcu ..)
  · exact listsZones_trapForFault ..
  · exact listsZones_lineTrap k s
  · exact listsZones_lineTrap k s

theorem raises_recordFault (k : FaultKind) (st : Option Stn) (p : Tag) (s : State) :
    Raises k st p s (recordFault k st p s) := by
  unfold recordFault
  dsimp only
  split
  next h => exact ⟨by simp [State.modFaultRec_faultRec, h], by simp [State.modFaultRec_faultRec], by simp [State.modFaultRec_faultRec],
      by simp [State.modFaultRec_faultRec], fun j hj => by rw [State.modFaultRec_faultRec, if_neg hj]⟩
  · have hn : ∀ f j, (notice .fault (stnByte? st) p k.val (s.modFaultRec k f)).faultRec j = (s.modFaultRec k f).faultRec j :=
      fun f j => faultRec_of_fcu (notice_fcu ..) j
    refine ⟨?_, ?_, ?_, ?_, fun j hj => by rw [hn, State.modFaultRec_faultRec, if_neg hj]⟩
    all_goals rw [hn, State.modFaultRec_faultRec, if_pos rfl]

/-- R160, R161: an occurrence in the record of its kind. -/
theorem raises_occur (k : FaultKind) (st : Option Stn) (p : Tag) (s : State) : Raises k st p s (occur k st p s) := by
  obtain ⟨hp, hc, hs, ht, ho⟩ := raises_recordFault k st p s
  obtain ⟨⟨z, hz⟩, hj⟩ := listsZones_react k ((recordFault k st p s).faultRec k).level st (recordFault k st p s)
  unfold occur
  exact ⟨by simp [hz, hp], by simp [hz, hc], by simp [hz, hs], by simp [hz, ht], fun j h => (hj j h).trans (ho j h)⟩

theorem Raises.of_fcu {k : FaultKind} {st : Option Stn} {p : Tag} {s t u : State} (h : Raises k st p s t)
    (hf : u.fcu = t.fcu) : Raises k st p s u := by
  simpa only [Raises, faultRec_of_fcu hf] using h

/-! #### What waits for port A while faults occur -/

theorem zoneAdd_nq (z : Zone) (c : ZoneCauses) (s : State) : s.chi.nq <+: (zoneAdd z c s).chi.nq := by
  unfold zoneAdd
  dsimp only
  split
  · exact List.IsPrefix.trans (by simp) (notice_nq ..)
  · simp

theorem trapForFault_nq (k : FaultKind) (z : Zone) (s : State) : s.chi.nq <+: (trapForFault k z s).chi.nq := by
  unfold trapForFault
  exact List.IsPrefix.trans (by simp) (zoneAdd_nq ..)

theorem lineTrap_nq (k : FaultKind) (s : State) : s.chi.nq <+: (lineTrap k s).chi.nq :=
  (trapForFault_nq k .a s).trans (trapForFault_nq k .b _)

theorem react_nq (k : FaultKind) (l : Level) (st : Option Stn) (s : State) : s.chi.nq <+: (react k l st s).chi.nq := by
  unfold react
  split
  · exact List.prefix_refl _
  · simp
  · exact trapForFault_nq ..
  · exact lineTrap_nq k s
  · exact lineTrap_nq k s

theorem recordFault_nq (k : FaultKind) (st : Option Stn) (p : Tag) (s : State) :
    s.chi.nq <+: (recordFault k st p s).chi.nq := by
  unfold recordFault
  dsimp only
  split
  · exact List.prefix_refl _
  · exact List.IsPrefix.trans (by simp) (notice_nq ..)

theorem occur_nq (k : FaultKind) (st : Option Stn) (p : Tag) (s : State) : s.chi.nq <+: (occur k st p s).chi.nq :=
  (recordFault_nq k st p s).trans (react_nq ..)

end Sys2Proof.Machine
end

section
namespace Sys2Proof.Machine

/-! ### Reception (R1, R2, R11, R12) -/

/-- An event outside reset, with nothing but its own effect, ends by the notices of the counters that wrapped. -/
theorem whenOut_close {s t : State} {cond : Bool} {r : Unit → Eff} (hs : Running s) (hc : cond = true)
    (hr : r () = only t) (ht : t.ev.passDue = s.ev.passDue) : whenOut s cond r = .next (closeEvent t) := by
  rw [whenOut_true hs.2 hc, hr, conclude_only (by rw [ht, hs.1]; rfl)]

/-- An intact message, one event counted, and what the end of the event changes besides. -/
theorem enterDiq_close (m : Msg) {s : State} (hs : Running s) :
    closeEvent (enterDiq m s) = { s with
      chi := { s.chi with
        a := { s.chi.a with claimed := false }, diq := s.chi.diq ++ [{ msg := m, arrival := s.mga.time }]
        nq := (closeEvent (enterDiq m s)).chi.nq, afterLoss := (closeEvent (enterDiq m s)).chi.afterLoss }
      mrt := { s.mrt with kept := (closeEvent (enterDiq m s)).mrt.kept }
      lmn := (closeEvent (enterDiq m s)).lmn
      mga := { s.mga with summary := (closeEvent (enterDiq m s)).mga.summary } } := by
  have h := closeEvent_eq (enterDiq m s)
  rw [← hs.1] at h
  exact h

theorem enterUiq_close (m : Msg) {s : State} (hs : Running s) :
    closeEvent (enterUiq m s) = { s with
      chi := { s.chi with
        b := { s.chi.b with claimed := false }, uiq := s.chi.uiq ++ [m]
        nq := (closeEvent (enterUiq m s)).chi.nq, afterLoss := (closeEvent (enterUiq m s)).chi.afterLoss }
      mrt := { s.mrt with kept := (closeEvent (enterUiq m s)).mrt.kept }
      lmn := (closeEvent (enterUiq m s)).lmn
      mga := { s.mga with summary := (closeEvent (enterUiq m s)).mga.summary } } := by
  have h := closeEvent_eq (enterUiq m s)
  rw [← hs.1] at h
  exact h

/-- R12: a report that is not applied only enters the UIQ. -/
theorem reportAs_unapplied {kind : Byte} {apply : Stn → Msg → State → Eff} {m : Msg} {s : State} (hs : Running s)
    (hu : s.chi.b.up = true) (hc : s.chi.b.claimed = true) (hm : m.intact = true) (hk : m.kind = kind)
    (hn : reporter s m = none) : reportAs kind apply m s = .next (closeEvent (enterUiq m s)) := by
  unfold reportAs
  exact whenOut_close hs (by simp [hu, hk]) (by simp [hc, hm, hn]) rfl

theorem uplaneForward_enters {m : Msg} {s : State} (hs : Running s) (hu : s.chi.b.up = true) (hc : s.chi.b.claimed = true)
    (hm : m.intact = true) (hn : isReportKind m.kind = false ∨ reporter s m = none) :
    exec (.uplaneForward m) s = .next (closeEvent (enterUiq m s)) := by
  have ha : applies s m = false := by rcases hn with h | h <;> simp [applies, h]
  change execUplaneForward m s = _
  unfold execUplaneForward
  exact whenOut_close hs (by simp [hu, ha]) (by simp [hc, hm]) rfl

theorem downlaneReceive_eq {m : Msg} {s t : State} (hs : Running s) (hu : s.chi.a.up = true)
    (ht : (if s.chi.a.claimed && m.intact then enterDiq m s else discardMessage .a s) = t) (hp : t.ev.passDue = s.ev.passDue) :
    exec (.downlaneReceive m) s = .next (closeEvent t) :=
  whenOut_close (r := fun _ => only (if s.chi.a.claimed && m.intact then enterDiq m s else discardMessage .a s)) hs hu
    (congrArg only ht) hp

theorem messageDiscarded_eq {p : Port} {s : State} (hs : Running s) (hu : (s.port p).up = true)
    (hp : (discardMessage p s).ev.passDue = s.ev.passDue) :
    exec (.messageDiscarded p) s = .next (closeEvent (discardMessage p s)) :=
  whenOut_close (r := fun _ => only (discardMessage p s)) hs hu rfl hp

theorem discardMessage_passDue (p : Port) (s : State) : (discardMessage p s).ev.passDue = s.ev.passDue := by
  cases p <;> simp [discardMessage]

/-! ### Links (R4, R20) -/

/-- R20: with every sent state not held the next HOLD names every station whose intent is held, and no RESUME is due. -/
theorem holdDue_of_none_sent {s : State} (h : s.chi.sent = 0) : holdDue s = heldSet s ∧ resumeDue s = 0 := by
  simp only [holdDue, resumeDue, h]
  refine ⟨?_, BitVec.zero_and⟩
  ext i hi
  have h0 : (0 : StnSet)[i] = false := BitVec.getElem_zero hi
  simp only [BitVec.getElem_and, BitVec.getElem_not, h0, Bool.not_false, Bool.and_true]

theorem linkUp_eq {p : Port} {s : State} (hs : Running s) (hu : (s.port p).up = false) : exec (.linkUp p) s
    = .next (closeEvent (notice .linkUp 255 0 (portNo p) (forgetSent p (s.setPort p { s.port p with up := true })))) := by
  change execLinkUp p s = _
  unfold execLinkUp
  refine whenOut_close hs (by simp [hu]) rfl ?_
  cases p <;> simp [forgetSent]

/-- A loss of a link: the fault's occurrence, the notices of the counters that wrapped, and NOTICE LINK_DOWN. -/
def linkLost (p : Port) (s : State) : State :=
  notice .linkDown 255 0 (portNo p)
    (flushMonitor 9 (occur (linkFault p) none 0 (s.setPort p { up := false, claimed := false, tx := none })))

theorem linkDown_eq {p : Port} {s : State} (hs : Running s) (hu : (s.port p).up = true) :
    exec (.linkDown p) s = .next (closeEvent (linkLost p s)) := by
  change execLinkDown p s = _
  unfold execLinkDown
  rw [whenOut_true hs.2 hu]
  refine conclude_of_run (n := 4) ?_ (le_cascadeBound (by decide))
  have hp : (linkLost p s).ev.passDue = false := by
    cases p <;> simp [linkLost, hs.1, clearWithin]
  exact run_end 0 hp

theorem linkLost_port (p : Port) (s : State) : (linkLost p s).port p = { up := false, claimed := false, tx := none } := by
  cases p <;> simp [linkLost, State.port, State.setPort]

theorem linkLost_otherPort {p q : Port} (s : State) (h : q ≠ p) : (linkLost p s).port q = s.port q := by
  cases p <;> cases q <;> first | exact absurd rfl h | simp [linkLost, State.port, State.setPort]

theorem linkLost_queues (p : Port) (s : State) : (linkLost p s).chi.diq = s.chi.diq ∧ (linkLost p s).chi.uiq = s.chi.uiq
    ∧ (linkLost p s).chi.ugq = s.chi.ugq ∧ s.chi.nq <+: (linkLost p s).chi.nq := by
  have hn : (s.setPort p { up := false, claimed := false, tx := none }).chi.nq = s.chi.nq := by cases p <;> rfl
  refine ⟨?_, ?_, ?_, ?_⟩
  · cases p <;> simp [linkLost, State.setPort]
  · cases p <;> simp [linkLost, State.setPort]
  · cases p <;> simp [linkLost, State.setPort]
  · rw [← hn]
    exact ((occur_nq ..).trans (flushMonitor_nq ..)).trans (notice_nq ..)

theorem linkLost_raises (p : Port) (s : State) : Raises (linkFault p) none 0 s (linkLost p s) := by
  obtain ⟨hp, hc, hs, ht, ho⟩ := raises_occur (linkFault p) none 0 (s.setPort p { up := false, claimed := false, tx := none })
  have h0 : ∀ j, (s.setPort p { up := false, claimed := false, tx := none }).faultRec j = s.faultRec j :=
    faultRec_of_fcu (by cases p <;> rfl)
  have h1 : ∀ j, (linkLost p s).faultRec j
      = (occur (linkFault p) none 0 (s.setPort p { up := false, claimed := false, tx := none })).faultRec j :=
    faultRec_of_fcu (by simp [linkLost])
  simp only [Raises, h0, h1] at *
  exact ⟨hp, hc, hs, ht, ho⟩

end Sys2Proof.Machine

namespace Sys2Proof.Proofs
open Sys2Proof.Machine

/-- Settles O46: each part is an event with nothing but its own effect. -/
theorem reception : Obligations.Reception := by
  refine ⟨?_, ?_, ?_, ?_, ?_⟩
  · intro p s hs hu hc hr
    exact whenOut_only (t := s.setPort p { s.port p with claimed := true })
      (cond := (s.port p).up && readyOut s p && !(s.port p).claimed) hs.2 (by simp [hu, hc, hr]) (by simp [hs.1])
  · intro m s hs hu hc hm
    refine ⟨closeEvent (enterDiq m s), ?_, enterDiq_close m hs, fun i hi => closeEvent_lmnEvent_count _ _ _ hi⟩
    exact downlaneReceive_eq hs hu (by simp [hc, hm]) rfl
  · intro i m s hs hu hc hm hi
    refine ⟨closeEvent (enterUiq m s), ?_, enterUiq_close m hs, fun j hj => closeEvent_lmnEvent_count _ _ _ hj⟩
    rcases hi with ⟨rfl, hn⟩ | ⟨hn, hi⟩
    · exact uplaneForward_enters hs hu hc hm hn
    · rcases hi with ⟨rfl, hk⟩ | ⟨rfl, hk⟩ | ⟨rfl, hk⟩ | ⟨rfl, hk⟩ | ⟨rfl, hk⟩ | ⟨rfl, hk⟩ | ⟨rfl, hk⟩ <;>
        exact reportAs_unapplied hs hu hc hm hk hn
  · intro p s hs hu
    exact messageDiscarded_eq hs hu (discardMessage_passDue p s)
  · intro m s hs hu hc
    have hn : (s.chi.a.claimed && m.intact) = false := by rcases hc with h | h <;> simp [h]
    exact downlaneReceive_eq hs hu (by rw [hn]; rfl) (discardMessage_passDue .a s)

/-- Settles O47, from the events of a link that comes UP and of one that is lost. -/
theorem links : Obligations.Links := by
  refine ⟨?_, ?_, ?_⟩
  · intro s hs hu
    refine ⟨_, linkUp_eq hs hu, rfl, by simp [forgetSent, State.setPort], by simp [forgetSent], ?_⟩
    exact holdDue_of_none_sent (by simp [forgetSent])
  · intro s hs hu
    exact linkUp_eq hs hu
  · intro p s hs hu k
    have hk : linkFault p = k := by cases p <;> rfl
    obtain ⟨hd, hq, hg, hn⟩ := linkLost_queues p s
    obtain ⟨hp, hc, hl, -, ho⟩ := (linkLost_raises p s).of_fcu (closeEvent_fcu (linkLost p s))
    rw [hk] at hp hc hl ho
    have hport : ∀ q, (closeEvent (linkLost p s)).port q = (linkLost p s).port q := by intro q; cases q <;> simp [State.port]
    refine ⟨_, linkDown_eq hs hu, (hport p).trans (linkLost_port p s), fun q h => (hport q).trans (linkLost_otherPort s h),
      by simp [hd], by simp [hq], by simp [hg], hn.trans (closeEvent_nq _), hp, hc, hl, ho, ?_, ?_, ?_, ?_⟩
    · exact closeEvent_summary _ _ (by rw [linkLost, notice_summary]; simp [classBit, eventClass, classCode])
    · cases p <;> simp [linkLost]
    · cases p <;> simp [linkLost]
    · cases p <;> simp [linkLost]

end Sys2Proof.Proofs
end

section
namespace Sys2Proof.Machine

/-! ### A message taken (R5, R7) -/

/-- A command takes its message: what `body` makes of the state without it. -/
theorem exec_of_takes {i : Instr} {body : Msg → State → Eff} {d : DiqItem} {s : State} {r : Eff} (hb : bodyOf i = some body)
    (hi : i ≠ .setTime) (ht : Takes i d s) (hr : body d.msg (removeDiq d s) = r) : exec i s = conclude r := by
  rw [exec_takes hb hi ht, hr]

@[simp] theorem refuse_passDue (m : Msg) (r : Status) (n : Nat) (s : State) : (refuse m r n s).ev.passDue = s.ev.passDue := by
  simp [refuse]

@[simp] theorem answerAction_ev (m : Msg) (st : Status) (v : Word) (s : State) : (answerAction m st v s).ev = s.ev := by
  simp [answerAction]

/-- R13: the event of a refusal. -/
theorem conclude_refuse {d : DiqItem} {s : State} (hs : BetweenEvents s) (r : Status) (n : Nat) :
    conclude (only (refuse d.msg r n (removeDiq d s))) = .next (refusedFor d r n s) :=
  conclude_only (by simp [removeDiq, hs, clearWithin])

/-- R7: the event of a message that goes to the DEQ as it is. -/
theorem conclude_forward {d : DiqItem} {s : State} (hs : BetweenEvents s) :
    conclude (only (forward d.msg (removeDiq d s))) = .next (forwarded d s) :=
  conclude_only_clear hs

/-- R182: the event of an answer without effect. -/
theorem conclude_answer {d : DiqItem} {s : State} (hs : BetweenEvents s) (st : Status) (v : Nat) :
    conclude (only (answerAction d.msg st (BitVec.ofNat 16 v) (removeDiq d s))) = .next (answered d st v s) :=
  conclude_only_clear (by simp [removeDiq, hs])

/-! ### The checks of a request (R8) -/

section
variable {s : State} {m : Msg} {st : Stn}

theorem checkRequest_access (h : m.src ≠ s.mga.controller) : checkRequest s m = .error .access := if_pos h

theorem checkRequest_noStation (hc : m.src = s.mga.controller) (h : 16 ≤ m.station.toNat) :
    checkRequest s m = .error .badArg := by
  simp [checkRequest, hc, stn?_eq_none.2 h]

theorem checkRequest_wrongNode (hc : m.src = s.mga.controller) (hs : m.station.toNat = st.val)
    (h : m.dst ≠ (s.station st).cfg.node) : checkRequest s m = .error .badArg := by
  simp [checkRequest, hc, stn?_eq_some.2 hs, h]

theorem checkRequest_restricted (hc : m.src = s.mga.controller) (hs : m.station.toNat = st.val)
    (hn : m.dst = (s.station st).cfg.node) (h : s.fcu.restricted = true) : checkRequest s m = .error .restricted := by
  simp [checkRequest, hc, stn?_eq_some.2 hs, hn, h]

theorem checkRequest_trapped (hc : m.src = s.mga.controller) (hs : m.station.toNat = st.val)
    (hn : m.dst = (s.station st).cfg.node) (hr : s.fcu.restricted = false) (h : stationTrapped s st = true) :
    checkRequest s m = .error .trapped := by
  simp [checkRequest, hc, stn?_eq_some.2 hs, hn, hr, h]

/-! ### A CLAMP, CYCLE or RELEASE (R7, R8, R9, R117) -/

theorem requestBody_own (h : m.dst = s.mga.node) : requestBody m s = only (refuse m .notAllowed 0 s) := if_pos h

theorem requestBody_error {r : Status} (hd : m.dst ≠ s.mga.node) (h : checkRequest s m = .error r) :
    requestBody m s = only (refuse m r 0 s) := by
  simp [requestBody, hd, h]

theorem requestBody_auto (hd : m.dst ≠ s.mga.node) (h : checkRequest s m = .ok st) (hm : (s.station st).mode = .auto) :
    requestBody m s = only (refuse m .wrongMode 0 s) := by
  simp [requestBody, hd, h, hm]

theorem requestBody_out_fails {j : Judged} {n : Nat} (hd : m.dst ≠ s.mga.node) (h : checkRequest s m = .ok st)
    (hm : (s.station st).mode = .out) (hj : judgedMsg? m = some j) (hh : hardCheck s st j = some n) :
    requestBody m s = only (refuse m .hardInterlock n s) := by
  simp [requestBody, hd, h, hm, hj, hh]

theorem requestBody_out_passes {j : Judged} (hd : m.dst ≠ s.mga.node) (h : checkRequest s m = .ok st)
    (hm : (s.station st).mode = .out) (hj : judgedMsg? m = some j) (hh : hardCheck s st j = none) :
    requestBody m s = only (forward m s) := by
  simp [requestBody, hd, h, hm, hj, hh]

theorem requestBody_manual (hd : m.dst ≠ s.mga.node) (h : checkRequest s m = .ok st) (hm : (s.station st).mode = .manual) :
    requestBody m s = acceptCommand st m s := by
  simp [requestBody, hd, h, hm]

/-! ### Controller entries (R117) -/

theorem roomAt_full (ha : (activeEntry s st).isSome = true) (hp : (pendingEntry s st).isSome = true) : roomAt s st = .full := by
  obtain ⟨x, hx⟩ := Option.isSome_iff_exists.1 ha
  obtain ⟨y, hy⟩ := Option.isSome_iff_exists.1 hp
  simp [roomAt, hx, hy]

theorem roomAt_behind (ha : (activeEntry s st).isSome = true) (hp : pendingEntry s st = none) : roomAt s st = .behind := by
  obtain ⟨x, hx⟩ := Option.isSome_iff_exists.1 ha
  simp [roomAt, hx, hp]

theorem roomAt_first (ha : activeEntry s st = none) : roomAt s st = .first := by simp [roomAt, ha]

theorem acceptCommand_full (h : roomAt s st = .full) : acceptCommand st m s = only (refuse m .busy 0 s) := if_pos h

theorem acceptCommand_noEntry (h : freeEntry s = none) : acceptCommand st m s = only (refuse m .busy 0 s) := by
  simp [acceptCommand, h]

theorem acceptCommand_behind {e : EntryNo} (h : roomAt s st = .behind) (hf : freeEntry s = some e) : acceptCommand st m s
    = only (insertEntry e (newEntry s st (paramsOf m) .controller m.pallet (some m) .pending) s) := by
  simp [acceptCommand, createController, h, hf]

theorem acceptCommand_first {e : EntryNo} (h : roomAt s st = .first) (hf : freeEntry s = some e) : acceptCommand st m s
    = (insertEntry e (newEntry s st (paramsOf m) .controller m.pallet (some m) .ready) s, [.promote e]) := by
  simp [acceptCommand, createController, h, hf]

/-! ### A new entry (R116, R120) -/

@[simp] theorem insertEntry_entry (e : EntryNo) (en : Entry) (s : State) : (insertEntry e en s).entry? e = some en := by
  simp [insertEntry, State.entry?, State.setEntry]

@[simp] theorem insertEntry_held (e : EntryNo) (en : Entry) (s : State) (x : Stn) : (insertEntry e en s).held x = s.held x := rfl

@[simp] theorem insertEntry_passDue (e : EntryNo) (en : Entry) (s : State) :
    (insertEntry e en s).ev.passDue = s.ev.passDue := rfl

/-- R120: a READY entry of a station that is held waits. -/
theorem promote_held {e : EntryNo} {en : Entry} (he : s.entry? e = some en) (hh : s.held en.station = true) :
    promote e s = only s := by
  simp [promote, he, hh]

theorem conclude_promote_held {e : EntryNo} {en : Entry} (hp : s.ev.passDue = false) (he : s.entry? e = some en)
    (hh : s.held en.station = true) : conclude (s, [.promote e]) = .next (closeEvent s) := by
  refine conclude_of_run (n := 3) ?_ (le_cascadeBound (by decide))
  change runTasks 3 [.promote e, .deferPass, .close] s = _
  rw [runTasks_cons]
  simp only [perform, promote_held he hh]
  exact run_end 0 hp

/-! ### JOG, REFER and the kinds that a node alone acts on (R7, R10) -/

theorem jogReferBody_own (h : m.dst = s.mga.node) : jogReferBody m s = only (refuse m .notAllowed 0 s) := if_pos h

theorem jogReferBody_error {r : Status} (hd : m.dst ≠ s.mga.node) (h : checkRequest s m = .error r) :
    jogReferBody m s = only (refuse m r 0 s) := by
  simp [jogReferBody, hd, h]

theorem jogReferBody_ok (hd : m.dst ≠ s.mga.node) (h : checkRequest s m = .ok st) : jogReferBody m s
    = if (s.station st).mode ≠ .out then only (refuse m .wrongMode 0 s)
      else if (s.station st).tool = .retracted then only (forward m s)
      else only (refuse m .hardInterlock 0 s) := by
  simp [jogReferBody, hd, h]

end

end Sys2Proof.Machine

namespace Sys2Proof.Proofs
open Sys2Proof.Machine

section
variable {i : Instr} {d : DiqItem} {s : State}

/-- The parameters and the judged view of a CLAMP, CYCLE or RELEASE follow from its row (R117, R134). -/
theorem request_kind (hi : i = .clamp ∨ i = .cycle ∨ i = .release) (ht : Takes i d s) :
    bodyOf i = some requestBody ∧ i ≠ .setTime ∧
    paramsOf d.msg = (if i = .clamp then .clamp (d.msg.argA.setWidth 4)
      else if i = .cycle then .cycle d.msg.argA d.msg.argB none else .release d.msg.argA) ∧
    judgedMsg? d.msg = some (if i = .clamp then .clamp (d.msg.argA.setWidth 4) else if i = .cycle then .cycle else .release) := by
  obtain ⟨-, -, hrow, -⟩ := ht
  rcases hi with rfl | rfl | rfl
  · have hk := kind_of_rowOf (r := (kClamp, .clamp)) (by simp [kindRows]) hrow
    exact ⟨rfl, by decide, by simp [paramsOf, hk, argPattern], by simp [judgedMsg?, hk, argPattern]⟩
  · have hk := kind_of_rowOf (r := (kCycle, .cycle)) (by simp [kindRows]) hrow
    exact ⟨rfl, by decide, by simp [paramsOf, hk], by simp [judgedMsg?, hk]⟩
  · have hk := kind_of_rowOf (r := (kRelease, .release)) (by simp [kindRows]) hrow
    exact ⟨rfl, by decide, by simp [paramsOf, hk], by simp [judgedMsg?, hk]⟩

end

/-- Settles O44: the body of the three rows, case by case. -/
theorem stationCommandsAreAcceptedByMode : Obligations.StationCommandsAreAcceptedByMode := by
  intro i d s hi hs ht m params judged
  obtain ⟨hb, hne, hparams, hjudged⟩ := request_kind hi ht
  change paramsOf m = params at hparams
  change judgedMsg? m = some judged at hjudged
  have hrun : ∀ {r : Eff}, requestBody m (removeDiq d s) = r → exec i s = conclude r := fun h => exec_of_takes hb hne ht h
  have hrefuse : ∀ {r n}, requestBody m (removeDiq d s) = only (refuse m r n (removeDiq d s)) →
      exec i s = .next (refusedFor d r n s) := fun h => (hrun h).trans (conclude_refuse hs _ _)
  clear_value params judged
  refine ⟨?_, ?_, ?_, ?_⟩
  · exact fun hd => hrefuse (requestBody_own hd)
  · exact fun hd hc => hrefuse (requestBody_error hd (checkRequest_access hc))
  · exact fun hd hc h => hrefuse (requestBody_error hd (checkRequest_noStation hc h))
  intro st hd hc hst
  refine ⟨?_, ?_, ?_, ?_⟩
  · exact fun hn => hrefuse (requestBody_error hd (checkRequest_wrongNode hc hst hn))
  · exact fun hn hr => hrefuse (requestBody_error hd (checkRequest_restricted hc hst hn hr))
  · exact fun hn hr htr => hrefuse (requestBody_error hd (checkRequest_trapped hc hst hn hr htr))
  intro hn hr htr
  have hok : checkRequest (removeDiq d s) m = .ok st := checkRequest_eq_ok.2 ⟨hc, hst, hn, hr, htr⟩
  refine ⟨?_, ?_, ?_, ?_⟩
  · exact fun hm => hrefuse (requestBody_auto hd hok hm)
  · exact fun n hm hh => hrefuse (requestBody_out_fails (s := removeDiq d s) hd hok hm hjudged hh)
  · exact fun hm hh => (hrun (requestBody_out_passes (s := removeDiq d s) hd hok hm hjudged hh)).trans (conclude_forward hs)
  intro hm entry
  have hman := requestBody_manual (s := removeDiq d s) hd hok hm
  have hentry : ∀ es, newEntry (removeDiq d s) st (paramsOf m) .controller m.pallet (some m) es = entry es :=
    fun es => by rw [hparams]; rfl
  clear_value entry
  refine ⟨?_, ?_, ?_, ?_⟩
  · exact fun ha hp => hrefuse (hman.trans (acceptCommand_full (roomAt_full ha hp)))
  · exact fun hf => hrefuse (hman.trans (acceptCommand_noEntry hf))
  · intro e ha hp hf
    rw [hrun (hman.trans (acceptCommand_behind (roomAt_behind ha hp) hf)), hentry]
    exact conclude_only (by simp [removeDiq, hs, clearWithin])
  · intro e ha hf
    rw [hrun (hman.trans (acceptCommand_first (roomAt_first ha) hf)), hentry]
    refine ⟨fun hh => ?_, fun _ => rfl⟩
    have hst' : (entry .ready).station = st := by rw [← hentry]; rfl
    exact conclude_promote_held (by simp [removeDiq, hs, clearWithin]) (insertEntry_entry ..) (by rw [hst']; exact hh)

/-- Settles O45: the bodies of the other rows of a station message, case by case. -/
theorem otherStationMessages : Obligations.OtherStationMessages := by
  refine ⟨?_, ?_, ?_⟩
  · intro i d s hi hs ht
    have hrun : ∀ {r : Eff}, jogReferBody d.msg (removeDiq d s) = r → exec i s = conclude r := by
      rcases hi with rfl | rfl <;> exact fun h => exec_of_takes rfl (by decide) ht h
    have hrefuse : ∀ {r n}, jogReferBody d.msg (removeDiq d s) = only (refuse d.msg r n (removeDiq d s)) →
        exec i s = .next (refusedFor d r n s) := fun h => (hrun h).trans (conclude_refuse hs _ _)
    refine ⟨fun hd => hrefuse (jogReferBody_own hd), fun r hd h => hrefuse (jogReferBody_error hd h), ?_⟩
    intro st hd hc hst hn hr htr
    have hok : checkRequest (removeDiq d s) d.msg = .ok st := checkRequest_eq_ok.2 ⟨hc, hst, hn, hr, htr⟩
    have hbody := jogReferBody_ok (s := removeDiq d s) hd hok
    refine ⟨fun hm => ?_, fun hm htool => ?_, fun hm htool => ?_⟩
    · exact hrefuse (hbody.trans (if_pos hm))
    · exact hrefuse (hbody.trans ((if_neg (not_not_intro hm)).trans (if_neg htool)))
    · exact (hrun (hbody.trans ((if_neg (not_not_intro hm)).trans (if_pos htool)))).trans (conclude_forward hs)
  · intro i d s hi hs ht
    have hrefuse : ∀ {r n}, notAllowedBody d.msg (removeDiq d s) = only (refuse d.msg r n (removeDiq d s)) →
        exec i s = .next (refusedFor d r n s) := by
      rcases hi with rfl | rfl | rfl <;>
        exact fun h => (exec_of_takes rfl (by decide) ht h).trans (conclude_refuse hs _ _)
    refine ⟨fun h => hrefuse ?_, fun hd hc => hrefuse ((if_neg hd).trans (if_pos hc))⟩
    by_cases hd : d.msg.dst = s.mga.node
    · exact if_pos hd
    · exact (if_neg hd).trans (if_neg (not_not_intro (h.resolve_left hd)))
  · intro i d s hi hs ht
    have hrun : ∀ {r : Eff}, forwardBody d.msg (removeDiq d s) = r → exec i s = conclude r := by
      rcases hi with rfl | rfl <;> exact fun h => exec_of_takes rfl (by decide) ht h
    exact ⟨fun hd => (hrun (if_pos hd)).trans (conclude_refuse hs _ _),
      fun hd => (hrun (if_neg hd)).trans (conclude_forward hs)⟩

end Sys2Proof.Proofs
end

section
namespace Sys2Proof.Machine

/-! ### The entries of a station (R116) -/

section
variable {s : State} {st : Stn}

theorem mem_entriesWhere {e : EntryNo} {p : Entry → Bool} :
    e ∈ entriesWhere s p ↔ ∃ en, s.entry? e = some en ∧ p en = true := by
  unfold entriesWhere
  rw [List.mem_filter]
  cases h : s.entry? e <;> simp [allEntries]

theorem hasEntry_eq_false : hasEntry s st = false ↔ ∀ e en, s.entry? e = some en → en.station ≠ st := by
  simp only [hasEntry, Bool.not_eq_false', List.isEmpty_iff, List.eq_nil_iff_forall_not_mem, mem_entriesWhere, beq_iff_eq,
    not_exists, not_and]

theorem activeEntry_eq_some {e : EntryNo} (h : activeEntry s st = some e) :
    ∃ en, s.entry? e = some en ∧ en.station = st ∧ en.estate ≠ .pending := by
  obtain ⟨en, he, hp⟩ := mem_entriesWhere.1 (List.mem_of_head? h)
  simp only [Bool.and_eq_true, beq_iff_eq, bne_iff_ne] at hp
  exact ⟨en, he, hp.1, hp.2⟩

theorem pendingEntry_eq_some {e : EntryNo} (h : pendingEntry s st = some e) :
    ∃ en, s.entry? e = some en ∧ en.station = st ∧ en.estate = .pending := by
  obtain ⟨en, he, hp⟩ := mem_entriesWhere.1 (List.mem_of_head? h)
  simp only [Bool.and_eq_true, beq_iff_eq] at hp
  exact ⟨en, he, hp.1, hp.2⟩

theorem activeEntry_of_noEntry (h : hasEntry s st = false) : activeEntry s st = none := by
  refine Option.eq_none_iff_forall_ne_some.2 fun e he => ?_
  obtain ⟨en, hen, hst, -⟩ := activeEntry_eq_some he
  exact hasEntry_eq_false.1 h e en hen hst

theorem hasEntry_of_active (h : (activeEntry s st).isSome = true) : hasEntry s st = true := by
  by_contra hc
  rw [activeEntry_of_noEntry (by simpa using hc)] at h
  cases h

/-! ### ACTION INDEX (R102) -/

variable {m : Msg} {k : Fin 8}

theorem checkIndex_badArg (h : 16 ≤ m.station.toNat ∨ 8 ≤ m.argB.toNat) : checkIndex s m = .error .badArg := by
  unfold checkIndex
  split
  next st k hst hk =>
    have h1 := stn?_eq_some.1 hst
    have h2 := stop?_eq_some.1 hk
    omega
  · rfl

section
variable (hst : m.station.toNat = st.val) (hk : m.argB.toNat = k.val)
include hst hk

theorem checkIndex_restricted (h : s.fcu.restricted = true) : checkIndex s m = .error .restricted := by
  simp [checkIndex, stn?_eq_some.2 hst, stop?_eq_some.2 hk, h]

theorem checkIndex_trapped (hr : s.fcu.restricted = false) (h : stationTrapped s st = true) :
    checkIndex s m = .error .trapped := by
  simp [checkIndex, stn?_eq_some.2 hst, stop?_eq_some.2 hk, hr, h]

theorem checkIndex_wrongMode (hr : s.fcu.restricted = false) (ht : stationTrapped s st = false)
    (h : isMachining s st = false ∨ (s.station st).mode ≠ .manual) : checkIndex s m = .error .wrongMode := by
  have hb : (!(isMachining s st && (s.station st).mode == .manual)) = true := by rcases h with h | h <;> simp [h]
  simp only [checkIndex, stn?_eq_some.2 hst, stop?_eq_some.2 hk, hr, ht, hb, Bool.false_eq_true, if_false, if_true]

theorem checkIndex_notReferenced (hr : s.fcu.restricted = false) (ht : stationTrapped s st = false)
    (hm : isMachining s st = true) (hman : (s.station st).mode = .manual) (h : (s.station st).referenced = false) :
    checkIndex s m = .error .notReferenced := by
  simp [checkIndex, stn?_eq_some.2 hst, stop?_eq_some.2 hk, hr, ht, hm, hman, h]

end

theorem isMachining_eq_false : isMachining s st = false ↔ st = s.stb.load ∨ s.stb.rework = some st := by
  simp only [isMachining, Bool.and_eq_false_iff, bne_eq_false_iff_eq]

theorem isMachining_eq_true : isMachining s st = true ↔ st ≠ s.stb.load ∧ s.stb.rework ≠ some st := by
  simp only [isMachining, Bool.and_eq_true, bne_iff_ne]

theorem indexBody_access (h : m.src ≠ s.mga.controller) : indexBody m s = only (answerAction m .access 0 s) := if_pos h

theorem indexBody_error {r : Status} (hc : m.src = s.mga.controller) (h : checkIndex s m = .error r) :
    indexBody m s = only (answerAction m r 0 s) := by
  simp [indexBody, hc, h]

theorem indexBody_done (hc : m.src = s.mga.controller) (h : checkIndex s m = .ok (st, k)) (hd : indexDone s st k = true) :
    indexBody m s = only (answerAction m .done (occTarget s st k) s) := by
  simp [indexBody, hc, h, hd]

theorem indexBody_busy (hc : m.src = s.mga.controller) (h : checkIndex s m = .ok (st, k)) (hd : indexDone s st k = false)
    (hb : roomAt s st = .full ∨ freeEntry s = none) : indexBody m s = only (answerAction m .busy 0 s) := by
  rcases hb with hb | hb <;> simp [indexBody, hc, h, hd, hb]

theorem indexBody_create {e : EntryNo} (hc : m.src = s.mga.controller) (h : checkIndex s m = .ok (st, k))
    (hd : indexDone s st k = false) (hr : roomAt s st ≠ .full) (hf : freeEntry s = some e) :
    indexBody m s = createController st e (.move k (occTarget s st k) none) (occPallet s st) none
      (answerAction m .accepted (occTarget s st k) s) := by
  simp [indexBody, hc, h, hd, hr, hf]

theorem roomAt_answerAction (x : Status) (v : Word) : roomAt (answerAction m x v s) st = roomAt s st := by
  unfold answerAction postReply
  split <;> rfl

theorem held_answerAction (x : Status) (v : Word) : (answerAction m x v s).held st = s.held st := by
  simp [State.held, State.station, answerAction]

theorem createController_behind {e : EntryNo} {p : Params} {pallet : Tag} {rx : Option Msg} (h : roomAt s st = .behind) :
    createController st e p pallet rx s = only (insertEntry e (newEntry s st p .controller pallet rx .pending) s) := by
  simp [createController, h]

theorem createController_first {e : EntryNo} {p : Params} {pallet : Tag} {rx : Option Msg} (h : roomAt s st = .first) :
    createController st e p pallet rx s
      = (insertEntry e (newEntry s st p .controller pallet rx .ready) s, [.promote e]) := by
  simp [createController, h]

end

end Sys2Proof.Machine

namespace Sys2Proof.Proofs
open Sys2Proof.Machine

/-- Settles O38: the body of INDEX, case by case. -/
theorem indexCreatesAMove : Obligations.IndexCreatesAMove := by
  constructor
  · intro d s hs ht
    have hanswer : ∀ {r : Status}, indexBody d.msg (removeDiq d s) = only (answerAction d.msg r 0 (removeDiq d s)) →
        exec .index s = .next (answered d r 0 s) :=
      fun h => (exec_of_takes rfl (by decide) ht h).trans (conclude_answer hs _ 0)
    refine ⟨fun hc => hanswer (indexBody_access hc), fun hc h => hanswer (indexBody_error hc (checkIndex_badArg h)), ?_⟩
    intro st k hc hst hk
    refine ⟨?_, ?_, ?_, ?_⟩
    · exact fun hr => hanswer (indexBody_error hc (checkIndex_restricted hst hk hr))
    · exact fun hr htr => hanswer (indexBody_error hc (checkIndex_trapped hst hk hr htr))
    · intro hr htr hm
      refine hanswer (indexBody_error hc (checkIndex_wrongMode hst hk hr htr ?_))
      rw [← or_assoc, ← isMachining_eq_false] at hm
      exact hm
    · intro hr htr hl hw hm hf
      exact hanswer (indexBody_error hc (checkIndex_notReferenced hst hk hr htr (isMachining_eq_true.2 ⟨hl, hw⟩) hm hf))
  · intro d s st k hs ht hc hst hk hr htr hmach hman href target move
    have hok : checkIndex (removeDiq d s) d.msg = .ok (st, k) := checkIndex_eq_ok.2 ⟨hst, hk, hr, htr, hmach, hman, href⟩
    have hrun : ∀ {r : Eff}, indexBody d.msg (removeDiq d s) = r → exec .index s = conclude r :=
      fun h => exec_of_takes rfl (by decide) ht h
    have hT : occTarget (removeDiq d s) st k = BitVec.ofNat 16 target.toNat := by
      rw [BitVec.ofNat_toNat, BitVec.setWidth_eq]; rfl
    have hnotDone : hasEntry s st = true ∨ (s.station st).isAt target = false → indexDone (removeDiq d s) st k = false := by
      intro h
      rw [← Bool.not_eq_true]
      intro hd
      obtain ⟨h1, h2⟩ := indexDone_iff.1 (show indexDone s st k = true from hd)
      rcases h with h | h
      · rw [h1] at h; cases h
      · exact absurd (h2.symm.trans h) (by decide)
    have hbusy : indexDone (removeDiq d s) st k = false → roomAt s st = .full ∨ freeEntry s = none →
        exec .index s = .next (answered d .busy 0 s) :=
      fun hd hb => (hrun (indexBody_busy (s := removeDiq d s) hc hok hd hb)).trans (conclude_answer hs _ 0)
    have hentry : ∀ es, newEntry (answered d .accepted target.toNat s) st (.move k (occTarget (removeDiq d s) st k) none)
        .controller (occPallet (removeDiq d s) st) none es = move es := by
      intro es
      simp only [newEntry, State.now, answered, answerAction, postReply_mga]
      rfl
    have hcreate : ∀ {e}, indexDone (removeDiq d s) st k = false → roomAt s st ≠ .full → freeEntry s = some e →
        exec .index s = conclude (createController st e (.move k (occTarget (removeDiq d s) st k) none)
          (occPallet (removeDiq d s) st) none (answered d .accepted target.toNat s)) := by
      intro e hd hroom hf
      rw [hrun (indexBody_create (s := removeDiq d s) hc hok hd hroom hf), hT]
      rfl
    have hroom : roomAt (answered d .accepted target.toNat s) st = roomAt s st := roomAt_answerAction ..
    have hpass : (answered d .accepted target.toNat s).ev.passDue = false := by simp [answered, removeDiq, hs, clearWithin]
    refine ⟨?_, ?_, ?_, ?_, ?_⟩
    · intro he hat
      have hd : indexDone (removeDiq d s) st k = true := indexDone_iff.2 ⟨he, hat⟩
      rw [hrun (indexBody_done (s := removeDiq d s) hc hok hd), hT]
      exact conclude_answer hs _ _
    · exact fun ha hp => hbusy (hnotDone (.inl (hasEntry_of_active ha))) (.inl (roomAt_full ha hp))
    · exact fun h hf => hbusy (hnotDone h) (.inr hf)
    · intro e ha hp hf
      have hb := roomAt_behind ha hp
      rw [hcreate (hnotDone (.inl (hasEntry_of_active ha))) (by rw [hb]; decide) hf, createController_behind (hroom.trans hb),
        hentry]
      exact conclude_only hpass
    · intro e he hat hf
      have hb := roomAt_first (activeEntry_of_noEntry he)
      rw [hcreate (hnotDone (.inr hat)) (by rw [hb]; decide) hf, createController_first (hroom.trans hb), hentry]
      refine ⟨fun hh => conclude_promote_held hpass (insertEntry_entry ..) ?_, fun _ => rfl⟩
      exact (held_answerAction ..).trans hh

end Sys2Proof.Proofs
end

section
namespace Sys2Proof.Machine

/-! ### Sets of stations -/

theorem mem_members {v : StnSet} {x : Stn} : x ∈ v.members ↔ v.getLsbD x.val = true := by
  simp [StnSet.members, allStn]

theorem getLsbD_oneStation {x y : Stn} : (StnSet.one x).getLsbD y.val = decide (y = x) := by
  revert x y
  decide

/-- Two sets with the same stations are one. -/
theorem stnSet_ext {v w : StnSet} (h : ∀ x : Stn, v.getLsbD x.val = w.getLsbD x.val) : v = w :=
  BitVec.eq_of_getLsbD_eq fun i hi => h ⟨i, hi⟩

theorem getLsbD_noStation (x : Stn) : (0 : StnSet).getLsbD x.val = false := BitVec.getLsbD_zero

theorem getLsbD_foldr_where (p : Stn → Bool) (l : List Stn) (y : Stn) :
    (l.foldr (fun i v => if p i then v ||| (1#16 <<< i.val) else v) 0#16).getLsbD y.val = (decide (y ∈ l) && p y) := by
  induction l with
  | nil => simp
  | cons x l ih =>
    have hone : (1#16 <<< x.val).getLsbD y.val = decide (y = x) := getLsbD_oneStation
    rw [List.foldr_cons]
    by_cases hyx : y = x
    · subst hyx
      split <;> simp_all
    · have hmem : decide (y ∈ x :: l) = decide (y ∈ l) := by simp [hyx]
      rw [hmem, ← ih]
      split
      · rw [BitVec.getLsbD_or, hone, decide_eq_false hyx, Bool.or_false]
      · rfl

theorem getLsbD_where (p : Stn → Bool) (y : Stn) : (StnSet.where p).getLsbD y.val = p y := by
  unfold StnSet.where
  rw [getLsbD_foldr_where]
  simp [allStn]

theorem mem_where {p : Stn → Bool} {y : Stn} : y ∈ (StnSet.where p).members ↔ p y = true := by
  rw [mem_members, getLsbD_where]

/-- A set without the stations of a list. -/
def withoutStations (v : StnSet) (l : List Stn) : StnSet := l.foldl (fun o x => o &&& ~~~StnSet.one x) v

theorem getLsbD_withoutStations (l : List Stn) (v : StnSet) (y : Stn) :
    (withoutStations v l).getLsbD y.val = (v.getLsbD y.val && decide (y ∉ l)) := by
  induction l generalizing v with
  | nil => simp [withoutStations]
  | cons x l ih =>
    have hx : (v &&& ~~~StnSet.one x).getLsbD y.val = (v.getLsbD y.val && decide (y ≠ x)) := by
      rw [BitVec.getLsbD_and, BitVec.getLsbD_not, getLsbD_oneStation]
      simp [y.isLt]
    have := ih (v &&& ~~~StnSet.one x)
    rw [hx] at this
    unfold withoutStations at this ⊢
    rw [List.foldl_cons, this]
    simp [Bool.and_assoc]

theorem withoutStations_members (v : StnSet) : withoutStations v v.members = 0 := by
  refine stnSet_ext fun x => ?_
  rw [getLsbD_withoutStations, getLsbD_noStation]
  cases hx : v.getLsbD x.val <;> simp [mem_members, hx]

/-! ### The hold image (R18, R19) -/

section
variable {s : State}

theorem holdDue_iff {x : Stn} :
    (holdDue s).getLsbD x.val = true ↔ s.held x = true ∧ s.chi.sent.getLsbD x.val = false := by
  simp only [holdDue, heldSet, BitVec.getLsbD_and, getLsbD_where, BitVec.getLsbD_not, x.isLt, decide_true, Bool.true_and,
    Bool.and_eq_true, Bool.not_eq_true']

theorem resumeDue_iff {x : Stn} :
    (resumeDue s).getLsbD x.val = true ↔ s.held x = false ∧ s.chi.sent.getLsbD x.val = true := by
  simp only [resumeDue, heldSet, BitVec.getLsbD_and, getLsbD_where, BitVec.getLsbD_not, x.isLt, decide_true, Bool.true_and,
    Bool.and_eq_true, Bool.not_eq_true', and_comm]

/-- R14: a message at the tail of the DEQ leaves no SENDING entry waiting that did not wait. -/
theorem sendingWaiters_withDeq (h : sendingWaiters s = []) (q : List DeqItem) : sendingWaiters (withDeq s q) = [] := by
  rw [List.eq_nil_iff_forall_not_mem] at h ⊢
  intro e he
  refine h e ?_
  simp only [sendingWaiters, List.mem_filter] at he ⊢
  refine ⟨he.1, ?_⟩
  have hq : inDeq (withDeq s q) e = (inDeq s e || q.any (fun d => d.entry == some e)) := by
    simp [inDeq, withDeq]
  rw [hq] at he
  simp_all

/-- R19: the STATUS_REQs of some stations at the tail of the DEQ, and no longer owed. -/
def owedServed (l : List Stn) (s : State) : State :=
  { s with chi := { s.chi with
      deq := s.chi.deq ++ l.map (fun x => { msg := statusReqMsg s x, entry := none })
      owed := withoutStations s.chi.owed l } }

theorem foldl_enqueueOwed (l : List Stn) {s : State} (hw : sendingWaiters s = []) (hl : s.chi.deq.length + l.length ≤ 16) :
    l.foldl (fun x st => if owedRoom x then enqueueOwed st x else x) s = owedServed l s := by
  induction l generalizing s with
  | nil => simp [owedServed, withoutStations]
  | cons x l ih =>
    simp only [List.length_cons] at hl
    have hroom : owedRoom s = true := by
      have : 0 < deqRoom s := by unfold deqRoom Config.deqCap; omega
      simp [owedRoom, hw, this]
    have hlen : (enqueueOwed x s).chi.deq.length = s.chi.deq.length + 1 := by simp [enqueueOwed, pushDeq]
    have hw' : sendingWaiters (enqueueOwed x s) = [] :=
      sendingWaiters_withDeq hw [{ msg := statusReqMsg s x, entry := none }]
    rw [List.foldl_cons, if_pos hroom, ih hw' (by omega)]
    simp only [owedServed, enqueueOwed, pushDeq, State.modChi, List.map_cons, List.append_assoc, List.singleton_append,
      withoutStations, List.foldl_cons]
    rfl

/-- R19: with places for all of them every owed STATUS_REQ enters the DEQ. -/
theorem enqueueAllOwed_eq (hw : sendingWaiters s = []) (hl : s.chi.deq.length + s.chi.owed.members.length ≤ 16) :
    enqueueAllOwed s = { s with chi := { s.chi with
      deq := s.chi.deq ++ s.chi.owed.members.map (fun x => { msg := statusReqMsg s x, entry := none }), owed := 0 } } := by
  unfold enqueueAllOwed
  rw [foldl_enqueueOwed _ hw hl, owedServed, withoutStations_members]

end

end Sys2Proof.Machine

namespace Sys2Proof.Proofs
open Sys2Proof.Machine

/-- Settles O59: the HOLD and the RESUME of the hold image, each an event without tasks. -/
theorem holdImage : Obligations.HoldImage := by
  constructor
  · intro s hs hc hdue set
    have hset : holdSet s = set := rfl
    have hcond : (canStart s .b true && (s.chi.softHold || holdDue s != 0)) = true := by
      rcases hdue with h | h
      · simp [hc, h]
      · simpa [hc] using Or.inr h
    refine ⟨holdMsg s kHold set, ?_, rfl, rfl, rfl, rfl, rfl, rfl, rfl, rfl, mkMsg_intact .., ?_⟩
    · change execPortBHold true s = _
      unfold execPortBHold
      rw [whenOut_only hs.2 hcond (by simp [startTx, hs.1]), hset]
      rfl
    · intro hsoft x
      have : set = holdDue s := by simp [set, hsoft]
      rw [this]
      exact holdDue_iff
  · intro s hs hc hsoft hhold hdue hw hl set
    have hcond : (canStart s .b true && !s.chi.softHold && holdDue s == 0 && resumeDue s != 0) = true := by
      simpa [hc, hsoft, hhold] using hdue
    refine ⟨holdMsg s kResume set, ?_, rfl, rfl, rfl, rfl, rfl, rfl, rfl, rfl, mkMsg_intact .., fun x => resumeDue_iff⟩
    change execPortBResume true s = _
    unfold execPortBResume
    have hall := enqueueAllOwed_eq (s := (startTx .b (holdMsg s kResume (resumeDue s)) s).modChi (fun c =>
      { c with sent := c.sent &&& ~~~resumeDue s, owed := c.owed ||| resumeDue s })) hw hl
    rw [whenOut_only hs.2 hcond (by rw [hall]; exact hs.1), hall]
    rfl

end Sys2Proof.Proofs
end

section
namespace Sys2Proof.Machine

/-! ### ACTION RESET (R185) -/

theorem postReply_room {s : State} {m : Msg} (h : s.chi.nq.length < 16) (hk : s.mrt.kept = []) :
    postReply m s = s.modChi (fun c => { c with nq := c.nq ++ [m] }) := if_pos ⟨h, hk⟩

/-- R182, R185: the ANSWER DONE of ACTION RESET. -/
def resetAnswer (d : DiqItem) (s : State) : Msg :=
  mkMsg 0 d.msg.src s.mga.node kAnswer d.msg.station (d.msg.argA.setWidth 12) (BitVec.ofNat 16 (statusCode .done)) 0

/-- R184, R185: the NOTICE START of ACTION RESET. -/
def resetNotice (s : State) : Msg :=
  mkNotice s.mga.node s.mga.controller 0 .start 255 0 (causeCode .soft % 128 + 128 * bitN false)

/-- R185: the state that ACTION RESET leads to. -/
def softResetDone (d : DiqItem) (s : State) : State :=
  { softReset (removeDiq d s) with
    chi := { s.chi.soft with diq := s.chi.diq.erase d, nq := [resetAnswer d s, resetNotice s] }
    mga := { s.mga.soft with summary := classBit .start } }

theorem resetBody_eq {d : DiqItem} {s : State} (hc : FromController d s) (hm : s.mga.noticeMask.getLsbD 8 = true) :
    resetBody d.msg (removeDiq d s) = only (softResetDone d s) := by
  have hsrc : ¬ d.msg.src ≠ (removeDiq d s).mga.controller := not_not_intro hc
  refine (if_neg hsrc).trans (congrArg only ?_)
  have hans : answerAction d.msg .done 0 (softReset (removeDiq d s)) = { softReset (removeDiq d s) with
      chi := { s.chi.soft with diq := s.chi.diq.erase d, nq := [resetAnswer d s] } } :=
    postReply_room (s := softReset (removeDiq d s)) (by decide : 0 < 16) rfl
  rw [hans]
  refine (notice_sent .start 255 0 _ (s := { softReset (removeDiq d s) with
      chi := { s.chi.soft with diq := s.chi.diq.erase d, nq := [resetAnswer d s] } }) hm (by decide : 1 ≤ 12)).trans ?_
  have hsum : (0 : BitVec 9) ||| classBit .start = classBit .start := BitVec.zero_or
  unfold softResetDone
  rw [← hsum]
  rfl

end Sys2Proof.Machine

namespace Sys2Proof.Proofs
open Sys2Proof.Machine

/-- Settles O36: the soft reset state, block by block. -/
theorem softResetAsSpecified : Obligations.SoftResetAsSpecified := by
  intro d s hs ht hc hm
  refine ⟨softResetDone d s, resetAnswer d s, resetNotice s, ?_, rfl, rfl, rfl, rfl, rfl, rfl, rfl, rfl, rfl, rfl, rfl, rfl, rfl,
    ?_, ?_, rfl, rfl, ?_, rfl, rfl, ?_, ?_, ?_, rfl, rfl, ?_, ?_, ?_, rfl, rfl, rfl, rfl, ?_, rfl⟩
  · rw [exec_of_takes rfl (by decide) ht (resetBody_eq hc hm)]
    exact conclude_only_clear rfl
  · intro i; simp [softResetDone, softReset, Ptb.soft]
  · intro x; simp [softResetDone, softReset, Ptb.soft]
  · intro b
    simp [softResetDone, softReset, Rcs.soft]
    rfl
  · intro x
    simp [softResetDone, softReset, State.station]
    rfl
  · intro x; simp [softResetDone, softReset, State.proc, resetIdx]
  · intro e; simp [softResetDone, softReset, State.entry?, resetMrt]
  · intro z; cases z <;> exact ⟨rfl, rfl, rfl, rfl, rfl, rfl⟩
  · simp only [softResetDone, softReset, Fcu.soft, removeDiq, State.modChi_fcu]
  · intro k
    have h : (softResetDone d s).faultRec k = resetFaultRec (s.fcu.reaction.get k) := by
      simp only [softResetDone, softReset, Fcu.soft, State.faultRec, Vector.get_ofFn, removeDiq, State.modChi_fcu]
    exact h ▸ recordAtReset _
  · intro i
    simp [softResetDone, softReset, Lmn.soft]
    rfl

end Sys2Proof.Proofs
end

section
namespace Sys2Proof.Machine

/-! ### Holds that begin (R77, R87, R113, R121) -/

/-- R121: an item of the DEQ is the command of a SENDING entry of one of these stations. -/
def SendsFor (b : Stn → Prop) (q : DeqItem) (s : State) : Prop :=
  ∃ e en, q.entry = some e ∧ s.entry? e = some en ∧ b en.station ∧ en.estate = .sending

/-- From `s` to `t` the holds of some stations begin, and nothing else happens. -/
structure HoldsBegin (b : Stn → Prop) (s t : State) : Prop where
  frame : t = { s with
    chi := { s.chi with deq := t.chi.deq }, mrt := { s.mrt with entries := t.mrt.entries }, idx := t.idx }
  frozen : ∀ e en, s.entry? e = some en → b en.station → t.entry? e = some (freezeEntry s.mga.time en)
  kept : ∀ e en, s.entry? e = some en → ¬ b en.station → t.entry? e = some en
  free : ∀ e, s.entry? e = none → t.entry? e = none
  sub : t.chi.deq.Sublist s.chi.deq
  left : ∀ q ∈ s.chi.deq, q ∉ t.chi.deq ↔ SendsFor b q s
  settling : ∀ x, b x → t.proc x = (s.proc x).holdSettle
  procs : ∀ x, ¬ b x → t.proc x = s.proc x

@[simp] theorem freezeEntry_station (now : Time) (en : Entry) : (freezeEntry now en).station = en.station := by
  unfold freezeEntry; split <;> [rfl; (split <;> rfl); (split <;> rfl); rfl]

theorem foldl_dropDeq (l : List EntryNo) (s : State) : l.foldl (fun s e => dropDeq e s) s
    = s.modChi (fun c => { c with deq := c.deq.filter (fun q => l.all (fun e => q.entry != some e)) }) := by
  induction l generalizing s with
  | nil => simp [State.modChi]
  | cons e l ih =>
    rw [List.foldl_cons, ih]
    simp only [dropDeq, State.modChi, List.filter_filter, List.all_cons, Bool.and_comm]

/-- The commands of a station's SENDING entries leave the DEQ as its hold begins (R121). -/
theorem beginHold_eq (st : Stn) (s : State) : beginHold st s =
    { s with
      chi := { s.chi with deq := s.chi.deq.filter (fun q => (sendingOf s st).all (fun e => q.entry != some e)) }
      mrt := { s.mrt with entries := s.mrt.entries.map (freezeSlot st s.mga.time) }
      idx := { procs := upd s.idx.procs st Process.holdSettle } } := by
  unfold beginHold
  rw [foldl_dropDeq]
  rfl

theorem beginHold_entry (st : Stn) (s : State) (e : EntryNo) :
    (beginHold st s).entry? e = freezeSlot st s.mga.time (s.entry? e) := by
  rw [beginHold_eq]
  exact Vector.get_map ..

theorem beginHold_proc (st x : Stn) (s : State) :
    (beginHold st s).proc x = if x = st then (s.proc st).holdSettle else s.proc x := by
  rw [beginHold_eq]
  exact upd_get ..

theorem mem_sendingOf {s : State} {st : Stn} {e : EntryNo} :
    e ∈ sendingOf s st ↔ ∃ en, s.entry? e = some en ∧ en.station = st ∧ en.estate = .sending := by
  simp [sendingOf, mem_entriesWhere]

theorem holdsBegin_beginHold (st : Stn) (s : State) : HoldsBegin (· = st) s (beginHold st s) where
  frame := by rw [beginHold_eq]
  frozen e en he hb := by rw [beginHold_entry, he, freezeSlot, Option.map_some, if_pos hb]
  kept e en he hb := by rw [beginHold_entry, he, freezeSlot, Option.map_some, if_neg hb]
  free e he := by rw [beginHold_entry, he]; rfl
  sub := by rw [beginHold_eq]; exact List.filter_sublist
  left q hq := by
    rw [beginHold_eq]
    simp only [List.mem_filter, hq, true_and, List.all_eq_true, bne_iff_ne, mem_sendingOf, SendsFor]
    push Not
    constructor
    · rintro ⟨e, ⟨en, he, hst, hes⟩, hqe⟩
      exact ⟨e, en, hqe, he, hst, hes⟩
    · rintro ⟨e, en, hqe, he, hst, hes⟩
      exact ⟨e, ⟨en, he, hst, hes⟩, hqe⟩
  settling x hx := by rw [beginHold_proc, if_pos hx, hx]
  procs x hx := by rw [beginHold_proc, if_neg hx]

theorem HoldsBegin.refl (s : State) : HoldsBegin (fun _ => False) s s where
  frame := rfl
  frozen _ _ _ h := h.elim
  kept _ _ h _ := h
  free _ h := h
  sub := List.Sublist.refl _
  left q hq := by simp [hq, SendsFor]
  settling _ h := h.elim
  procs _ _ := rfl

/-- The holds of two disjoint sets of stations begin one after another. -/
theorem HoldsBegin.trans {b c : Stn → Prop} {s t u : State} (h : HoldsBegin b s t) (k : HoldsBegin c t u)
    (hbc : ∀ x, b x → ¬ c x) : HoldsBegin (fun x => b x ∨ c x) s u where
  frame := by rw [k.frame, h.frame]
  frozen e en he hx := by
    have hnow : t.mga.time = s.mga.time := by rw [h.frame]
    rcases hx with hx | hx
    · exact k.kept e _ (h.frozen e en he hx) (by simpa using hbc _ hx)
    · exact hnow ▸ k.frozen e en (h.kept e en he fun hb => hbc _ hb hx) hx
  kept e en he hx := k.kept e en (h.kept e en he fun hb => hx (.inl hb)) fun hc => hx (.inr hc)
  free e he := k.free e (h.free e he)
  sub := k.sub.trans h.sub
  left q hq := by
    by_cases ht : q ∈ t.chi.deq
    · rw [k.left q ht]
      have hno : ¬ SendsFor b q s := fun hc => (h.left q hq).2 hc ht
      constructor
      · rintro ⟨e, en, hqe, he, hc, hes⟩
        cases hs : s.entry? e with
        | none => rw [h.free e hs] at he; cases he
        | some en' =>
          by_cases hb : b en'.station
          · rw [h.frozen e en' hs hb] at he
            cases he
            exact absurd (by simpa using hc) (hbc _ hb)
          · rw [h.kept e en' hs hb] at he
            cases he
            exact ⟨e, en, hqe, hs, .inr hc, hes⟩
      · rintro ⟨e, en, hqe, he, hx, hes⟩
        have hb : ¬ b en.station := fun hb => hno ⟨e, en, hqe, he, hb, hes⟩
        exact ⟨e, en, hqe, h.kept e en he hb, hx.resolve_left hb, hes⟩
    · obtain ⟨e, en, hqe, he, hb, hes⟩ := (h.left q hq).1 ht
      exact iff_of_true (fun hu => ht (k.sub.subset hu)) ⟨e, en, hqe, he, .inl hb, hes⟩
  settling x hx := by
    rcases hx with hx | hx
    · rw [k.procs x (hbc x hx), h.settling x hx]
    · rw [k.settling x hx, h.procs x fun hb => hbc x hb hx]
  procs x hx := by rw [k.procs x fun hc => hx (.inr hc), h.procs x fun hb => hx (.inl hb)]

theorem HoldsBegin.of_iff {b c : Stn → Prop} {s t : State} (h : HoldsBegin b s t) (hbc : ∀ x, c x ↔ b x) :
    HoldsBegin c s t := by
  obtain rfl : c = b := funext fun x => propext (hbc x)
  exact h

theorem holdsBegin_foldl {l : List Stn} (hl : l.Nodup) (s : State) :
    HoldsBegin (· ∈ l) s (l.foldl (fun s st => beginHold st s) s) := by
  induction l generalizing s with
  | nil => exact (HoldsBegin.refl s).of_iff (by simp)
  | cons st l ih =>
    obtain ⟨hst, hl⟩ := List.nodup_cons.1 hl
    exact ((holdsBegin_beginHold st s).trans (ih hl _) (by rintro x rfl; exact hst)).of_iff (by simp)

theorem nodup_members (v : StnSet) : v.members.Nodup := (List.nodup_finRange 16).filter _

/-- The stations' new hold causes, without what follows from them. -/
def withHolds (f : Stn → Station → Station) (s : State) : State :=
  { s with stb := { s.stb with stn := Vector.ofFn (fun i => f i (s.stb.stn.get i)) } }

theorem withHolds_station (f : Stn → Station → Station) (s : State) (x : Stn) :
    (withHolds f s).station x = f x (s.station x) := by simp [withHolds, State.station]

/-- R77: new hold causes begin the hold of each station that they newly hold. -/
theorem holdsBegin_changeHolds (f : Stn → Station → Station) (s : State) :
    HoldsBegin (fun x => s.held x = false ∧ (f x (s.station x)).held = true) (withHolds f s) (changeHolds f s).1 := by
  refine (holdsBegin_foldl (nodup_members _) _).of_iff fun x => ?_
  have hf : (withHolds f s).held x = (f x (s.station x)).held := congrArg Station.held (withHolds_station f s x)
  rw [mem_where, Bool.and_eq_true, Bool.not_eq_true', ← hf]
  rfl

theorem changeHolds_ended (f : Stn → Station → Station) (s : State) {x : Stn} :
    (changeHolds f s).2.getLsbD x.val = true ↔ s.held x = true ∧ (f x (s.station x)).held = false := by
  have hf : (withHolds f s).held x = (f x (s.station x)).held := congrArg Station.held (withHolds_station f s x)
  have h2 : (changeHolds f s).2 = StnSet.where (fun st => s.held st && !(withHolds f s).held st) := rfl
  rw [h2, getLsbD_where, Bool.and_eq_true, Bool.not_eq_true', ← hf]

/-! ### The stations that a HOLD or RESUME names (R78) -/

theorem namedStations_has {m : Msg} {x : Stn} :
    (namedStations m).getLsbD x.val = true ↔ m.argA.getLsbD x.val = true ∨ m.station.toNat = x.val := by
  unfold namedStations
  cases h : m.stn? with
  | none =>
    have := stn?_eq_none.1 h
    have hx := x.isLt
    have hne : m.station.toNat ≠ x.val := by omega
    simp [hne]
  | some y =>
    have := stn?_eq_some.1 h
    rw [BitVec.getLsbD_or, getLsbD_oneStation, Bool.or_eq_true, decide_eq_true_eq, this, Fin.ext_iff, eq_comm (a := x.val)]

theorem addOperator_named {v : StnSet} {x : Stn} {r : Station} (h : v.getLsbD x.val = true) :
    addOperator v x r = { r with holds := { r.holds with operator := true } } := if_pos h

theorem addOperator_other {v : StnSet} {x : Stn} {r : Station} (h : ¬ v.getLsbD x.val = true) :
    addOperator v x r = r := if_neg h

end Sys2Proof.Machine
end

section
namespace Sys2Proof.Machine

/-! ### A RESUME removes causes alone (R79) -/

theorem vector_ext_get {α : Type} {n : Nat} {v w : Vector α n} (h : ∀ i, v.get i = w.get i) : v = w :=
  Vector.ext fun i hi => h ⟨i, hi⟩

/-- R77: where no hold begins, the new hold causes are all that changes. -/
theorem changeHolds_fst_of_none_begin {f : Stn → Station → Station} {s : State}
    (h : ∀ x, s.held x = false → (f x (s.station x)).held = false) : (changeHolds f s).1 = withHolds f s := by
  have hnil : (StnSet.where (fun st => !s.held st && (withHolds f s).held st)).members = [] := by
    refine List.eq_nil_iff_forall_not_mem.2 fun x hx => ?_
    rw [mem_where, Bool.and_eq_true, Bool.not_eq_true'] at hx
    have hf : (withHolds f s).held x = (f x (s.station x)).held := congrArg Station.held (withHolds_station f s x)
    rw [hf, h x hx.1] at hx
    exact absurd hx.2 (by decide)
  change (StnSet.where (fun st => !s.held st && (withHolds f s).held st)).members.foldl (fun s st => beginHold st s)
    (withHolds f s) = _
  rw [hnil]
  rfl

/-- R79: no stop cause of a station is PENDING. -/
def FaultGoes (s : State) (r : Station) : Prop :=
  ∀ k : FaultKind, r.stopCauses.getLsbD k.val = true → (s.faultRec k).pending = false

theorem stopCausePending_eq_false {s : State} {r : Station} :
    stopCausePending s r.stopCauses = false ↔ FaultGoes s r := by
  simp only [stopCausePending, List.any_eq_false, List.mem_finRange, true_imp_iff, Bool.and_eq_true, not_and,
    Bool.not_eq_true, FaultGoes]

section
variable {s : State} {v : StnSet} {x : Stn} {r : Station}

theorem resumeStation_other (h : ¬ v.getLsbD x.val = true) : resumeStation s v x r = r := if_neg h

theorem resumeStation_faultGoes (h : v.getLsbD x.val = true) (hf : r.holds.fault = true) (hg : FaultGoes s r) :
    resumeStation s v x r
      = { r with holds := { operator := false, trap := r.holds.trap, fault := false }, stopCauses := 0 } := by
  have hc : (r.holds.fault && !stopCausePending s r.stopCauses) = true := by
    rw [hf, stopCausePending_eq_false.2 hg]; rfl
  exact (if_pos h).trans (if_pos hc)

theorem resumeStation_faultStays (h : v.getLsbD x.val = true) (hf : ¬ (r.holds.fault = true ∧ FaultGoes s r)) :
    resumeStation s v x r = { r with holds := { r.holds with operator := false } } := by
  have hc : ¬ (r.holds.fault && !stopCausePending s r.stopCauses) = true := by
    rw [Bool.and_eq_true, Bool.not_eq_true', stopCausePending_eq_false]; exact hf
  exact (if_pos h).trans (if_neg hc)

/-- R79: which stations a RESUME leaves not held. -/
theorem resumeStation_held_eq_false (h : v.getLsbD x.val = true) : (resumeStation s v x r).held = false ↔
    r.holds.trap = false ∧ (r.holds.fault = true → FaultGoes s r) := by
  by_cases hf : r.holds.fault = true ∧ FaultGoes s r
  · rw [resumeStation_faultGoes h hf.1 hf.2]
    simp [Station.held, HoldCauses.held, hf.2]
  · rw [resumeStation_faultStays h hf]
    simp only [Station.held, HoldCauses.held, Bool.false_or, Bool.or_eq_false_iff]
    refine and_congr_right fun _ => ?_
    cases hr : r.holds.fault <;> simp_all

theorem resumeStation_not_begins (h : r.held = false) : (resumeStation s v x r).held = false := by
  by_cases hv : v.getLsbD x.val = true
  · rw [resumeStation_held_eq_false hv]
    simp only [Station.held, HoldCauses.held, Bool.or_eq_false_iff] at h
    simp [h]
  · rw [resumeStation_other hv, h]

theorem resumeStation_cfg : (resumeStation s v x r).cfg = r.cfg := by
  unfold resumeStation
  split_ifs <;> rfl

end

/-! ### Replies that are not counted (R13, R132, R173) -/

/-- From `s` to `t` these messages are placed behind those that wait for port A, and nothing else happens. -/
def Posts (l : List Msg) (s t : State) : Prop :=
  t = { s with chi := { s.chi with nq := t.chi.nq }, mrt := { s.mrt with kept := t.mrt.kept } } ∧
    outgoing t = outgoing s ++ l

theorem Posts.refl (s : State) : Posts [] s s := ⟨rfl, (List.append_nil _).symm⟩

theorem Posts.trans {l k : List Msg} {s t u : State} (h : Posts l s t) (g : Posts k t u) : Posts (l ++ k) s u := by
  refine ⟨?_, by rw [g.2, h.2, List.append_assoc]⟩
  rw [g.1, h.1]

theorem posts_postReply (m : Msg) (s : State) : Posts [m] s (postReply m s) :=
  ⟨by unfold postReply; split <;> rfl, postReply_outgoing m s⟩

/-- R173: an event that no counter counts changes nothing. -/
theorem lmnEvent_uncounted {src : EvSource} {s : State} (h : ∀ i, (s.lmn.counters.get i).source ≠ .event src)
    (st : Option Stn) (k : Option Byte) : lmnEvent src st k s = s := by
  have hc : s.lmn.counters.map (fun c => if c.sees src st k then c.add 1 else c) = s.lmn.counters :=
    vector_ext_get fun i => by rw [Vector.get_map, Counter.sees_of_source _ _ (h i)]; rfl
  unfold lmnEvent
  rw [hc]
  simp [State.setCounters]

/-- R79: the REFUSED for a station that stays held. -/
def heldRefusal (m : Msg) (s : State) (x : Stn) : Msg :=
  mkMsg 0 m.src s.mga.node kRefused m.station m.pallet
    (BitVec.ofNat 16 (statusCode (if (s.station x).holds.trap then .heldByTrap else .heldByFault))) (m.kind ++ stnByte x)

theorem posts_foldl_refuseHeld (m : Msg) (w : State) (l : List Stn) {s : State} (hn : s.mga.node = w.mga.node)
    (h : ∀ i, (s.lmn.counters.get i).source ≠ .event .refused) :
    Posts (l.map (heldRefusal m w)) s (l.foldl (fun x st =>
      refuseHeld m (if (w.station st).holds.trap then .heldByTrap else .heldByFault) st x) s) := by
  induction l generalizing s with
  | nil => exact Posts.refl s
  | cons st l ih =>
    have hr : refuseHeld m (if (w.station st).holds.trap then .heldByTrap else .heldByFault) st s
        = postReply (heldRefusal m w st) s := by
      unfold refuseHeld heldRefusal
      rw [lmnEvent_uncounted (by simpa using h), hn]
    rw [List.foldl_cons, List.map_cons, hr]
    exact (posts_postReply _ s).trans (ih (by simpa using hn) (by simpa using h))

/-! ### Holds that end (R87, R114) -/

/-- R87: the settle of a station, if it settles, ends in full anew. -/
def settleAgain (s : State) (st : Stn) : State :=
  if (s.proc st).pstate = .settling then
    s.modProc st (fun p =>
      { p with settleEnd := some (s.mga.time + BitVec.ofNat 32 (s.station st).cfg.settle), settleTaken := false })
  else s

theorem settleAgain_frame (s : State) (st : Stn) : settleAgain s st = { s with idx := (settleAgain s st).idx } := by
  unfold settleAgain
  split <;> rfl

theorem settleAgain_proc (s : State) (st x : Stn) : (settleAgain s st).proc x =
    if x = st ∧ (s.proc x).pstate = .settling then { s.proc x with
      settleEnd := some (s.mga.time + BitVec.ofNat 32 (s.station x).cfg.settle), settleTaken := false } else s.proc x := by
  unfold settleAgain
  by_cases hx : x = st
  · subst hx
    by_cases hp : (s.proc x).pstate = .settling
    · simp [hp, State.modProc_proc]
    · simp [hp]
  · split <;> simp [hx, State.modProc_proc]

theorem foldl_settleAgain_frame (l : List Stn) (s : State) :
    l.foldl settleAgain s = { s with idx := (l.foldl settleAgain s).idx } := by
  induction l generalizing s with
  | nil => rfl
  | cons st l ih =>
    rw [List.foldl_cons, ih, settleAgain_frame s st]

theorem foldl_settleAgain_proc (l : List Stn) (s : State) (x : Stn) : (l.foldl settleAgain s).proc x =
    if x ∈ l ∧ (s.proc x).pstate = .settling then { s.proc x with
      settleEnd := some (s.mga.time + BitVec.ofNat 32 (s.station x).cfg.settle), settleTaken := false } else s.proc x := by
  induction l generalizing s with
  | nil => simp
  | cons st l ih =>
    have hf := settleAgain_frame s st
    have htime : (settleAgain s st).mga = s.mga := by rw [hf]
    have hstn : (settleAgain s st).station x = s.station x := by rw [hf]; rfl
    rw [List.foldl_cons, ih, htime, hstn, settleAgain_proc]
    by_cases hp : (s.proc x).pstate = .settling
    · by_cases hx : x = st
      · subst hx
        simp [hp]
      · simp [hx, hp]
    · simp [hp]

/-- The conditions under which a hold's end asks nothing of the dispatcher (R87, R97). -/
def EndsQuietly (s : State) (x : Stn) : Prop :=
  s.held x = false ∧ (s.proc x).pstate ≠ .stalled ∧ (s.proc x).pstate ≠ .arrived
    ∧ ((s.proc x).pstate = .settling → (s.station x).cfg.settle ≠ 0)

theorem holdEndedIdx_quiet {s : State} {st : Stn} (byResume : Bool) (h : EndsQuietly s st) :
    holdEndedIdx st byResume s = only (settleAgain s st) := by
  obtain ⟨hh, hs, ha, hz⟩ := h
  unfold holdEndedIdx settleAgain
  by_cases hp : (s.proc st).pstate = .settling
  · have h0 := hz hp
    simp only [hp, if_true, runSettle, hh]
    simp [h0, after, State.now]
  · simp [hp, hs, ha]

theorem endsQuietly_settleAgain {s : State} {st x : Stn} (h : EndsQuietly s x) : EndsQuietly (settleAgain s st) x := by
  have hf := settleAgain_frame s st
  have hheld : (settleAgain s st).held x = s.held x := by rw [hf]; rfl
  have hstn : (settleAgain s st).station x = s.station x := by rw [hf]; rfl
  have hps : ((settleAgain s st).proc x).pstate = (s.proc x).pstate := by rw [settleAgain_proc]; split <;> rfl
  unfold EndsQuietly
  rw [hheld, hstn, hps]
  exact h

theorem runTasks_holdEndedIdx {l : List Stn} {byResume : Bool} {rest : List Task} (n : Nat) {s : State}
    (h : ∀ x ∈ l, EndsQuietly s x) : runTasks (n + l.length) (l.map (fun st => .holdEndedIdx st byResume) ++ rest) s
      = runTasks n rest (l.foldl settleAgain s) := by
  induction l generalizing s with
  | nil => rfl
  | cons st l ih =>
    have hstep : perform (.holdEndedIdx st byResume) s = only (settleAgain s st) :=
      holdEndedIdx_quiet byResume (h st List.mem_cons_self)
    rw [List.map_cons, List.cons_append, List.length_cons, ← Nat.add_assoc, runTasks_cons, hstep, List.foldl_cons]
    exact ih fun x hx => endsQuietly_settleAgain (h x (List.mem_cons_of_mem _ hx))

/-- R114: the deadlines of the entries of some stations restored. -/
def withRestored (v : StnSet) (s : State) : State :=
  { s with mrt := { s.mrt with entries := s.mrt.entries.map (restoreSlot v s.mga.time) } }

theorem withRestored_entry (v : StnSet) (s : State) (e : EntryNo) :
    (withRestored v s).entry? e = restoreSlot v s.mga.time (s.entry? e) := Vector.get_map ..

theorem restoreEntry_estate (now : Time) (en : Entry) : (restoreEntry now en).estate = en.estate := by
  unfold restoreEntry; split <;> rfl

theorem restoreEntry_station (now : Time) (en : Entry) : (restoreEntry now en).station = en.station := by
  unfold restoreEntry; split <;> rfl

theorem restoreSlot_eq_some {v : StnSet} {now : Time} {o : Option Entry} {q : Entry} (h : restoreSlot v now o = some q) :
    ∃ en, o = some en ∧ q.estate = en.estate ∧ q.station = en.station := by
  obtain ⟨en, ho, hq⟩ := Option.map_eq_some_iff.1 h
  refine ⟨en, ho, ?_⟩
  rw [← hq]
  split <;> [exact ⟨restoreEntry_estate .., restoreEntry_station ..⟩; exact ⟨rfl, rfl⟩]

theorem readyOf_eq_nil {v : StnSet} {s : State}
    (h : ∀ e en, s.entry? e = some en → v.getLsbD en.station.val = true → en.estate ≠ .ready) : readyOf s v = [] := by
  refine List.eq_nil_iff_forall_not_mem.2 fun e he => ?_
  rw [readyOf, mem_sortBy, mem_entriesWhere] at he
  obtain ⟨en, hen, hp⟩ := he
  rw [Bool.and_eq_true, beq_iff_eq] at hp
  exact h e en hen hp.2 hp.1

/-- The state after the holds of some stations have ended with nothing to promote. -/
def holdsOver (v : StnSet) (s : State) : State := v.members.foldl settleAgain (withRestored v s)

theorem holdsOver_frame (v : StnSet) (s : State) : holdsOver v s = { s with
    mrt := { s.mrt with entries := (holdsOver v s).mrt.entries }, idx := (holdsOver v s).idx } := by
  unfold holdsOver
  rw [foldl_settleAgain_frame]
  rfl

theorem holdsOver_entry (v : StnSet) (s : State) (e : EntryNo) :
    (holdsOver v s).entry? e = restoreSlot v s.mga.time (s.entry? e) := by
  unfold holdsOver
  rw [foldl_settleAgain_frame]
  exact withRestored_entry v s e

theorem holdsOver_proc (v : StnSet) (s : State) (x : Stn) : (holdsOver v s).proc x =
    if v.getLsbD x.val = true ∧ (s.proc x).pstate = .settling then { s.proc x with
      settleEnd := some (s.mga.time + BitVec.ofNat 32 (s.station x).cfg.settle), settleTaken := false } else s.proc x := by
  have h := foldl_settleAgain_proc v.members (withRestored v s) x
  simp only [mem_members] at h
  exact h

theorem foldl_settleAgain_ev (l : List Stn) (s : State) (w : Within) :
    l.foldl settleAgain { s with ev := w } = { l.foldl settleAgain s with ev := w } := by
  induction l generalizing s with
  | nil => rfl
  | cons st l ih =>
    have h : settleAgain { s with ev := w } st = { settleAgain s st with ev := w } := by
      change (if (s.proc st).pstate = .settling then _ else _) = _
      unfold settleAgain
      split <;> rfl
    rw [List.foldl_cons, h, ih, List.foldl_cons]

theorem holdsOver_duePass (v : StnSet) (s : State) : holdsOver v (duePass s) = duePass (holdsOver v s) := by
  have hev : (holdsOver v s).ev = s.ev := by rw [holdsOver_frame]
  change v.members.foldl settleAgain { withRestored v s with ev := { s.ev with passDue := true } } = _
  rw [foldl_settleAgain_ev, ← hev]
  rfl

/-- The end of an event with its marks clear, whose pass finds the deferred list empty. -/
theorem run_end_duePass {s : State} (n : Nat) (hs : BetweenEvents s) (h : s.ilk.deferred = []) :
    runTasks (n + 2) [.deferPass, .close] (duePass s) = some s := by
  have hclear : (duePass s).modEv (fun v => { v with passDue := false }) = s := by
    have hev : { s.ev with passDue := false } = s.ev := by rw [hs]; rfl
    exact congrArg (fun w => { s with ev := w }) hev
  have hp : (duePass s).ev.passDue = true := rfl
  rw [run_end_pass (s := duePass s) n h, if_pos hp, hclear, closeEvent_clear hs]

/-- R77, R87, R114: the end of some holds is the restoration of deadlines and of settle ends, where nothing is to be promoted. -/
theorem released_holdsOver {v : StnSet} {ended : Stn → Prop} {s : State} (hv : ∀ x : Stn, v.getLsbD x.val = true ↔ ended x) :
    Released ended s (holdsOver v s) := by
  have hn : ∀ x : Stn, ¬ ended x → ¬ v.getLsbD x.val = true := fun x hx hc => hx ((hv x).1 hc)
  refine ⟨?_, ?_, ?_, ?_, ?_, ?_⟩
  · intro e he
    rw [holdsOver_entry, he]
    rfl
  · intro e en he hx hr
    rw [holdsOver_entry, he, restoreSlot, Option.map_some]
    exact congrArg some ((if_pos ((hv _).2 hx)).trans (by simp [restoreEntry, hr]))
  · intro e en n he hx hr
    rw [holdsOver_entry, he, restoreSlot, Option.map_some]
    exact congrArg some ((if_pos ((hv _).2 hx)).trans (by simp [restoreEntry, hr, after]))
  · intro e en he hx
    rw [holdsOver_entry, he, restoreSlot, Option.map_some]
    exact congrArg some (if_neg (hn _ hx))
  · intro x hx hp
    rw [holdsOver_proc, if_pos ⟨(hv x).2 hx, hp⟩]
  · intro x hx
    rw [holdsOver_proc, if_neg fun hc => hx ⟨(hv x).1 hc.1, hc.2⟩]

/-- Holds that end with nothing to promote and no command deferred, to the end of the event. -/
theorem conclude_endHolds {v : StnSet} {byResume : Bool} {s : State} (hs : BetweenEvents s) (hd : s.ilk.deferred = [])
    (hready : ∀ e en, s.entry? e = some en → v.getLsbD en.station.val = true → en.estate ≠ .ready)
    (hq : ∀ x : Stn, v.getLsbD x.val = true → EndsQuietly s x) :
    conclude (endHolds (s, v) byResume) = .next (holdsOver v s) := by
  by_cases hv : v = 0
  · subst hv
    have hnone : ∀ x : Stn, ¬ (0 : StnSet).getLsbD x.val = true := fun x => by rw [getLsbD_noStation]; decide
    have hsame : holdsOver 0 s = s := by
      have he : (holdsOver 0 s).mrt.entries = s.mrt.entries := vector_ext_get fun e => by
        refine (holdsOver_entry 0 s e).trans ?_
        cases hen : s.entry? e with
        | none => exact hen.symm
        | some en => exact (congrArg some (if_neg (hnone en.station))).trans hen.symm
      have hp : (holdsOver 0 s).idx = s.idx := congrArg Idx.mk (vector_ext_get fun x =>
        (holdsOver_proc 0 s x).trans (if_neg fun hc => hnone x hc.1))
      rw [holdsOver_frame, he, hp]
    rw [hsame]
    exact conclude_only_clear hs
  · have hne : endHolds (s, v) byResume = (duePass s, [.holdEnded v byResume]) := if_neg hv
    have hready' : readyOf (withRestored v (duePass s)) v = [] := by
      refine readyOf_eq_nil fun e en he hx hes => ?_
      rw [withRestored_entry] at he
      obtain ⟨q, hq, hqe, hqs⟩ := restoreSlot_eq_some he
      exact hready e q hq (hqs ▸ hx) (hqe ▸ hes)
    have hperform : perform (.holdEnded v byResume) (duePass s)
        = (withRestored v (duePass s), v.members.map (fun st => .holdEndedIdx st byResume)) := by
      change (withRestored v (duePass s), (readyOf (withRestored v (duePass s)) v).map Task.promote ++ _) = _
      rw [hready']
      rfl
    have hlen : v.members.length ≤ 16 := (List.length_filter_le ..).trans (by simp [allStn])
    rw [hne]
    have hover : BetweenEvents (holdsOver v s) := by rw [holdsOver_frame]; exact hs
    have hdef : (holdsOver v s).ilk.deferred = [] := by rw [holdsOver_frame]; exact hd
    refine conclude_of_run (n := 0 + 2 + v.members.length + 1) ?_ (le_cascadeBound (by omega))
    change runTasks _ (.holdEnded v byResume :: [.deferPass, .close]) (duePass s) = _
    rw [runTasks_cons, hperform, runTasks_holdEndedIdx]
    · change runTasks _ _ (holdsOver v (duePass s)) = _
      rw [holdsOver_duePass, run_end_duePass 0 hover hdef]
    · exact fun x hx => hq x (mem_members.1 hx)

end Sys2Proof.Machine
end

section
namespace Sys2Proof.Machine

/-! ### HOLD and RESUME taken from the DIQ (R78, R79) -/

section
variable {m : Msg} {s : State}

theorem holdBody_access (h : m.src ≠ s.mga.controller) : holdBody m s = only (refuse m .access 0 s) := if_pos h

theorem holdBody_controller (h : m.src = s.mga.controller) :
    holdBody m s = only (changeHolds (addOperator (namedStations m)) s).1 := if_neg (not_not_intro h)

theorem resumeBody_access (h : m.src ≠ s.mga.controller) : resumeBody m s = only (refuse m .access 0 s) := if_pos h

theorem resumeBody_restricted (h : m.src = s.mga.controller) (hr : s.fcu.restricted = true) :
    resumeBody m s = only (refuse m .restricted 0 s) := (if_neg (not_not_intro h)).trans (if_pos hr)

/-- R79: OPERATOR, and FAULT where it goes, removed. -/
def resumed (m : Msg) (s : State) : State := withHolds (resumeStation s (namedStations m)) s

/-- R79: the named stations that stay held, in ascending order. -/
def stillHeld (m : Msg) (s : State) : List Stn := (namedStations m).members.filter (fun x => (resumed m s).held x)

theorem resumeBody_controller (h : m.src = s.mga.controller) (hr : s.fcu.restricted = false) : resumeBody m s
    = endHolds (refuseStillHeld m (namedStations m) (resumed m s), (changeHolds (resumeStation s (namedStations m)) s).2) true := by
  have hc := changeHolds_fst_of_none_begin (f := resumeStation s (namedStations m)) (s := s)
    fun x hx => resumeStation_not_begins hx
  unfold resumeBody
  rw [if_neg (not_not_intro h), if_neg (by simp [hr])]
  dsimp only
  rw [hc]
  rfl

theorem resumed_station (x : Stn) : (resumed m s).station x = resumeStation s (namedStations m) x (s.station x) :=
  withHolds_station ..

theorem posts_refuseStillHeld (h : ∀ i, (s.lmn.counters.get i).source ≠ .event .refused) :
    Posts ((stillHeld m s).map (heldRefusal m (resumed m s))) (resumed m s)
      (refuseStillHeld m (namedStations m) (resumed m s)) :=
  posts_foldl_refuseHeld m (resumed m s) _ rfl h

theorem pairwise_lt_stillHeld : (stillHeld m s).Pairwise (· < ·) :=
  ((List.pairwise_lt_finRange 16).filter _).filter _

theorem mem_stillHeld {x : Stn} :
    x ∈ stillHeld m s ↔ (m.argA.getLsbD x.val = true ∨ m.station.toNat = x.val) ∧ (resumed m s).held x = true := by
  rw [stillHeld, List.mem_filter, mem_members, namedStations_has]

/-- R79: the stations whose hold a RESUME ends. -/
theorem resume_ended {x : Stn} : (changeHolds (resumeStation s (namedStations m)) s).2.getLsbD x.val = true ↔
    (m.argA.getLsbD x.val = true ∨ m.station.toNat = x.val) ∧ s.held x = true ∧ (s.station x).holds.trap = false
      ∧ ((s.station x).holds.fault = true → FaultGoes s (s.station x)) := by
  rw [changeHolds_ended, ← namedStations_has]
  by_cases hv : (namedStations m).getLsbD x.val = true
  · rw [resumeStation_held_eq_false hv]
    simp only [hv, true_and]
  · rw [resumeStation_other hv]
    refine iff_of_false ?_ fun h => hv h.1
    rintro ⟨h1, h2⟩
    exact absurd (h1.symm.trans h2) (by decide)

theorem heldRefusal_eq (s : State) (x : Stn) : heldRefusal m s x = mkMsg 0 m.src s.mga.node kRefused m.station m.pallet
    (if (s.station x).holds.trap then 23 else 24) (m.kind ++ BitVec.ofNat 8 x.val) := by
  unfold heldRefusal
  congr 1
  split <;> rfl

end

/-- The end of a hold, seen from a state with the same entries, processes, settle times and time. -/
theorem Released.of_same {ended : Stn → Prop} {s x t : State} (h : Released ended x t)
    (he : ∀ e, x.entry? e = s.entry? e) (hp : ∀ y, x.proc y = s.proc y) (hm : x.mga = s.mga)
    (hc : ∀ y, (x.station y).cfg = (s.station y).cfg) : Released ended s t := by
  simpa only [Released, he, hp, hm, hc] using h

theorem Process.holdSettle_settling {p : Process} (h : p.pstate = .settling) : p.holdSettle = { p with settleEnd := none } :=
  if_pos h

theorem Process.holdSettle_other {p : Process} (h : p.pstate ≠ .settling) : p.holdSettle = p := if_neg h

end Sys2Proof.Machine

namespace Sys2Proof.Proofs
open Sys2Proof.Machine

/-- The HOLD of O42. -/
theorem hold_adds_operator {d : DiqItem} {s : State} (hs : BetweenEvents s) (ht : Takes .hold d s) (hc : FromController d s) :
    let named (x : Stn) : Prop := d.msg.argA.getLsbD x.val = true ∨ d.msg.station.toNat = x.val
    let begins (x : Stn) : Prop := named x ∧ s.held x = false
    ∃ t, exec .hold s = .next t ∧ HoldsBegin begins (withHolds (addOperator (namedStations d.msg)) (removeDiq d s)) t := by
  intro named begins
  have hb := (holdsBegin_changeHolds (addOperator (namedStations d.msg)) (removeDiq d s)).of_iff (c := begins) fun x => by
    change named x ∧ s.held x = false ↔ s.held x = false ∧ (addOperator (namedStations d.msg) x (s.station x)).held = true
    by_cases hx : (namedStations d.msg).getLsbD x.val = true
    · have hn : named x := namedStations_has.1 hx
      simp [addOperator_named hx, hn, Station.held, HoldCauses.held]
    · have hn : ¬ named x := fun h => hx (namedStations_has.2 h)
      rw [addOperator_other hx]
      refine iff_of_false (fun h => hn h.1) ?_
      rintro ⟨h1, h2⟩
      exact absurd (h1.symm.trans h2) (by decide)
  refine ⟨_, (exec_of_takes rfl (by decide) ht (holdBody_controller (s := removeDiq d s) hc)).trans ?_, hb⟩
  exact conclude_only_clear (by rw [hb.frame]; exact hs)

section
variable {d : DiqItem} {s : State}

/-- R79: the state in which a RESUME has changed the causes and placed its refusals. -/
def resumeTold (d : DiqItem) (s : State) : State :=
  refuseStillHeld d.msg (namedStations d.msg) (resumed d.msg (removeDiq d s))

/-- R79: the stations whose hold a RESUME ends. -/
def resumeEnds (d : DiqItem) (s : State) : StnSet :=
  (changeHolds (resumeStation (removeDiq d s) (namedStations d.msg)) (removeDiq d s)).2

theorem resumeTold_posts (h : ∀ i, (s.lmn.counters.get i).source ≠ .event .refused) :
    Posts ((stillHeld d.msg (removeDiq d s)).map (heldRefusal d.msg (resumed d.msg (removeDiq d s))))
      (resumed d.msg (removeDiq d s)) (resumeTold d s) := posts_refuseStillHeld (s := removeDiq d s) h

theorem resumeTold_station (h : ∀ i, (s.lmn.counters.get i).source ≠ .event .refused) (x : Stn) :
    (resumeTold d s).station x = resumeStation (removeDiq d s) (namedStations d.msg) x (s.station x) := by
  rw [(resumeTold_posts h).1]
  exact resumed_station x

/-- The RESUME of O42: its holds end with nothing to promote. -/
theorem resume_ends_holds (hs : BetweenEvents s) (ht : Takes .resume d s) (hc : FromController d s)
    (hr : s.fcu.restricted = false) (hcnt : ∀ i, (s.lmn.counters.get i).source ≠ .event .refused) {ended : Stn → Prop}
    (hended : ∀ x : Stn, (resumeEnds d s).getLsbD x.val = true ↔ ended x) (hcalm : EndsCalmly ended s)
    (hquiet : ∀ x, ended x → (s.proc x).pstate ≠ .stalled ∧ (s.proc x).pstate ≠ .arrived) :
    exec .resume s = .next (holdsOver (resumeEnds d s) (resumeTold d s)) := by
  obtain ⟨hd, hready, hsettle⟩ := hcalm
  have hframe := (resumeTold_posts (d := d) hcnt).1
  rw [exec_of_takes rfl (by decide) ht (resumeBody_controller (s := removeDiq d s) hc hr)]
  refine conclude_endHolds (s := resumeTold d s) (by rw [hframe]; exact hs) (by rw [hframe]; exact hd) ?_ ?_
  · intro e en he hv
    rw [hframe] at he
    exact hready e en he ((hended _).1 hv)
  · intro y hv
    have hy := (hended y).1 hv
    have hp : (resumeTold d s).proc y = s.proc y := by rw [hframe]; rfl
    refine ⟨?_, by rw [hp]; exact (hquiet y hy).1, by rw [hp]; exact (hquiet y hy).2, ?_⟩
    · rw [State.held, resumeTold_station hcnt]
      exact ((changeHolds_ended _ _).1 hv).2
    · rw [hp, resumeTold_station hcnt, resumeStation_cfg]
      exact hsettle y hy

end

/-- Settles O42: the holds that a HOLD begins, and those that a RESUME ends. -/
theorem holdAndResume : Obligations.HoldAndResume := by
  constructor
  · intro d s hs ht
    refine ⟨fun hc => (exec_of_takes rfl (by decide) ht (holdBody_access hc)).trans (conclude_refuse hs _ _), ?_⟩
    intro hc named begins
    obtain ⟨t, he, hb⟩ := hold_adds_operator hs ht hc
    have hstn : ∀ x, t.station x = addOperator (namedStations d.msg) x (s.station x) := fun x => by
      rw [hb.frame]
      exact withHolds_station ..
    refine ⟨t, he, by rw [hb.frame]; rfl, fun x hx => ?_, fun x hx => ?_, hb.frozen, hb.kept, hb.free, hb.sub, hb.left,
      fun x hx hp => ?_, fun x hx => ?_⟩
    · rw [hstn, addOperator_named (namedStations_has.2 hx)]
    · rw [hstn, addOperator_other fun h => hx (namedStations_has.1 h)]
    · exact (hb.settling x hx).trans (Process.holdSettle_settling hp)
    · by_cases hx' : begins x
      · exact (hb.settling x hx').trans (Process.holdSettle_other fun hp => hx ⟨hx', hp⟩)
      · exact hb.procs x hx'
  · intro d s hs ht
    refine ⟨fun hc => (exec_of_takes rfl (by decide) ht (resumeBody_access hc)).trans (conclude_refuse hs _ _),
      fun hc hr => (exec_of_takes rfl (by decide) ht (resumeBody_restricted (s := removeDiq d s) hc hr)).trans
        (conclude_refuse hs _ _), ?_⟩
    intro hc hr hd hcnt named faultGoes ended hcalm hquiet
    have hended : ∀ x : Stn, (resumeEnds d s).getLsbD x.val = true ↔ ended x := fun x => resume_ended
    obtain ⟨hframe, hout⟩ := resumeTold_posts (d := d) hcnt
    have hstn : ∀ x, (holdsOver (resumeEnds d s) (resumeTold d s)).station x
        = resumeStation (removeDiq d s) (namedStations d.msg) x (s.station x) := fun x => by
      rw [holdsOver_frame]
      exact resumeTold_station hcnt x
    have hheld : ∀ x, (holdsOver (resumeEnds d s) (resumeTold d s)).held x = (resumed d.msg (removeDiq d s)).held x :=
      fun x => congrArg Station.held ((hstn x).trans (resumed_station x).symm)
    refine ⟨_, stillHeld d.msg (removeDiq d s), resume_ends_holds hs ht hc hr hcnt hended hcalm hquiet, ?_, ?_,
      fun x hx => ?_, fun x hx => ⟨?_, ?_⟩, pairwise_lt_stillHeld, fun x => ?_, ?_⟩
    · rw [holdsOver_frame, hframe]
      rfl
    · exact (released_holdsOver hended).of_same (fun e => by rw [hframe]; rfl) (fun x => by rw [hframe]; rfl)
        (by rw [hframe]; rfl) (fun x => by rw [resumeTold_station hcnt, resumeStation_cfg])
    · rw [hstn, resumeStation_other fun h => hx (namedStations_has.1 h)]
    · rintro ⟨hf, hg⟩
      exact (hstn x).trans (resumeStation_faultGoes (namedStations_has.2 hx) hf hg)
    · exact fun hf => (hstn x).trans (resumeStation_faultStays (namedStations_has.2 hx) hf)
    · rw [mem_stillHeld, hheld]
    · have hto : outgoing (holdsOver (resumeEnds d s) (resumeTold d s)) = outgoing (resumeTold d s) := by
        rw [holdsOver_frame]
        rfl
      rw [hto, hout]
      refine congrArg _ (List.map_congr_left fun x _ => ?_)
      rw [heldRefusal_eq, hstn, resumed_station]
      rfl

end Sys2Proof.Proofs
end

section
namespace Sys2Proof.Machine

/-! ### One entry changed (R116) -/

theorem upd_upd {α : Type} {n : Nat} (v : Vector α n) (i : Fin n) (f g : α → α) :
    upd (upd v i f) i g = upd v i (fun a => g (f a)) :=
  vector_ext_get fun j => by
    simp only [upd_get]
    split <;> simp

theorem setEntry_setEntry (s : State) (e : EntryNo) (x y : Option Entry) : (s.setEntry e x).setEntry e y = s.setEntry e y := by
  simp only [State.setEntry, upd_upd]

theorem modEntry_eq_setEntry {s : State} {e : EntryNo} {en : Entry} (h : s.entry? e = some en) (f : Entry → Entry) :
    s.modEntry e f = s.setEntry e (some (f en)) := by
  have hv : upd s.mrt.entries e (Option.map f) = upd s.mrt.entries e (fun _ => some (f en)) := vector_ext_get fun j => by
    have he : s.mrt.entries.get e = some en := h
    simp only [upd_get, he, Option.map_some]
  rw [State.modEntry, hv]
  rfl

theorem setEntry_entry_self (s : State) (e : EntryNo) (x : Option Entry) : (s.setEntry e x).entry? e = x := by
  rw [State.setEntry_entry, if_pos rfl]

theorem setEntry_entry_ne {s : State} {e j : EntryNo} {x : Option Entry} (h : j ≠ e) :
    (s.setEntry e x).entry? j = s.entry? j := by
  rw [State.setEntry_entry, if_neg h]

/-! ### Planning (R106) -/

section
variable (s : State) (en : Entry)

@[simp] theorem planEntry_station : (planEntry s en).station = en.station := by unfold planEntry; split <;> rfl
@[simp] theorem planEntry_estate : (planEntry s en).estate = en.estate := by unfold planEntry; split <;> rfl
@[simp] theorem planEntry_origin : (planEntry s en).origin = en.origin := by unfold planEntry; split <;> rfl
@[simp] theorem planEntry_pallet : (planEntry s en).pallet = en.pallet := by unfold planEntry; split <;> rfl

@[simp] theorem planEntry_kind : paramsKind (planEntry s en).params = paramsKind en.params := by
  unfold planEntry
  split
  next k g p h => rw [h]; rfl
  next => rfl

end

/-! ### What the interlock checker reads (R134, R135, R139, R140) -/

/-- R135: the check of a command's kind reads the stations, the pallets and what is under way at its station. -/
theorem kindCheck_congr {s t : State} {st : Stn} (hb : t.stb = s.stb) (hp : t.ptb = s.ptb)
    (hu : ∀ k, underWay t st k = underWay s st k) (j : Judged) : kindCheck t st j = kindCheck s st j := by
  have hs : t.station st = s.station st := by unfold State.station; rw [hb]
  have ho : ∀ k, occTarget t st k = occTarget s st k := fun k => by
    unfold occTarget occOffset State.trackedOcc offsetOf State.record? slotOf
    rw [hs, hp]
  have hk : ∀ k, atStop t st k = atStop s st k := fun k => by simp only [atStop, hs, ho]
  have ha : atAStop t st = atAStop s st := by simp only [atAStop, hs, ho]
  have hm : isMachining t st = isMachining s st := by simp only [isMachining, hb]
  unfold kindCheck
  cases j <;> simp only [hs, hu, hk, ha, hm]

/-- The two states agree in all that the interlock checker reads. -/
structure SameChecks (s t : State) : Prop where
  stb : t.stb = s.stb
  ptb : t.ptb = s.ptb
  table : t.ilk.table = s.ilk.table
  underWay : ∀ st k, underWay t st k = underWay s st k

section
variable {s t : State} (h : SameChecks s t)
include h

theorem SameChecks.station (st : Stn) : t.station st = s.station st := by unfold State.station; rw [h.stb]

theorem SameChecks.occTarget (st : Stn) (k : Fin 8) : occTarget t st k = occTarget s st k := by
  unfold Machine.occTarget occOffset State.trackedOcc offsetOf State.record? slotOf
  rw [h.station, h.ptb]

theorem SameChecks.atStop (st : Stn) (k : Fin 8) : atStop t st k = atStop s st k := by
  unfold Machine.atStop
  rw [h.station, h.occTarget]

theorem SameChecks.kindCheck (st : Stn) (j : Judged) : kindCheck t st j = kindCheck s st j :=
  kindCheck_congr h.stb h.ptb (h.underWay st) j

theorem SameChecks.ilkFails (st : Stn) (j : Judged) (e : IlkEntry) : ilkFails t st j e = ilkFails s st j e := by
  have hj : judges t st j e = judges s st j e := by cases j <;> simp only [judges, h.station]
  have hc : conditionTrue t (e.object.getD st) e.cond = conditionTrue s (e.object.getD st) e.cond := by
    unfold conditionTrue
    cases e.cond <;> simp only [h.station, h.underWay, h.atStop]
  unfold Machine.ilkFails
  rw [hj, hc]

/-- R141: the verdict is the same. -/
theorem SameChecks.verdict (st : Stn) (j : Judged) : verdict t st j = verdict s st j := by
  have hf : ∀ b, failing t st j b = failing s st j b := fun b => by simp only [failing, h.table, h.ilkFails]
  have hl : ∀ l, minLimit t l = minLimit s l := fun l => by simp only [minLimit, h.table]
  unfold Machine.verdict
  simp only [h.kindCheck, hf, hl]

end

/-! #### Commands under way (R134) -/

theorem underWay_iff {s : State} {st : Stn} {k : CmdKind} : underWay s st k = true ↔
    ∃ e en, s.entry? e = some en ∧ en.station = st ∧ paramsKind en.params = k
      ∧ (en.estate = .sending ∨ en.estate = .issued ∨ en.estate = .cancelling) := by
  unfold underWay
  rw [Bool.not_eq_true', List.isEmpty_eq_false_iff_exists_mem]
  simp only [mem_entriesWhere, Bool.and_eq_true, Bool.or_eq_true, beq_iff_eq, and_assoc, or_assoc]

/-- An entry changed in other respects leaves what is under way. -/
theorem underWay_setEntry {s : State} {e : EntryNo} {en q : Entry} (he : s.entry? e = some en)
    (hs : q.station = en.station) (hk : paramsKind q.params = paramsKind en.params) (hes : q.estate = en.estate)
    (st : Stn) (k : CmdKind) : underWay (s.setEntry e (some q)) st k = underWay s st k := by
  rw [Bool.eq_iff_iff, underWay_iff, underWay_iff]
  constructor
  · rintro ⟨j, x, hj, hx⟩
    by_cases hje : j = e
    · subst hje
      rw [setEntry_entry_self] at hj
      cases hj
      exact ⟨j, en, he, by rwa [hs, hk, hes] at hx⟩
    · exact ⟨j, x, (setEntry_entry_ne hje).symm.trans hj, hx⟩
  · rintro ⟨j, x, hj, hx⟩
    by_cases hje : j = e
    · subst hje
      cases he.symm.trans hj
      exact ⟨j, q, setEntry_entry_self .., by rwa [hs, hk, hes]⟩
    · exact ⟨j, x, (setEntry_entry_ne hje).trans hj, hx⟩

/-- R106: a MOVE planned anew is judged as before. -/
theorem sameChecks_planned {s : State} {e : EntryNo} {en : Entry} (he : s.entry? e = some en) :
    SameChecks s (s.setEntry e (some (planEntry s en))) where
  stb := rfl
  ptb := rfl
  table := rfl
  underWay := underWay_setEntry he (planEntry_station ..) (planEntry_kind ..) (planEntry_estate ..)

/-! ### A command that enters the DEQ (R14, R120) -/

theorem mem_sendingWaiters {s : State} {e : EntryNo} : e ∈ sendingWaiters s ↔
    ∃ en, s.entry? e = some en ∧ en.estate = .sending ∧ inDeq s e = false := by
  simp only [sendingWaiters, List.mem_filter, mem_entriesWhere, beq_iff_eq, Bool.not_eq_true']
  constructor
  · rintro ⟨⟨en, he, hs⟩, hd⟩
    exact ⟨en, he, hs, hd⟩
  · rintro ⟨en, he, hs, hd⟩
    exact ⟨⟨en, he, hs⟩, hd⟩

/-- R120: the entry is SENDING and its command stands at the tail of the DEQ. -/
def sentState (e : EntryNo) (p : Entry) (s : State) : State :=
  { s with
    chi := { s.chi with deq := s.chi.deq ++ [{ msg := commandMsg s p, entry := some e }] }
    mrt := { s.mrt with entries := upd s.mrt.entries e (fun _ => some { p with estate := .sending }) } }

theorem serveSending_of_none {s : State} (h : sendingWaiters s = []) : serveSending s = s := by
  simp [serveSending, h, sortBy]

section
variable {s : State} {e : EntryNo} {p : Entry} (he : s.entry? e = some p) (hw : sendingWaiters s = [])
include he hw

theorem startSending_room (hl : s.chi.deq.length < 16) : startSending e s = sentState e p s := by
  have hroom : 0 < deqRoom (s.setEntry e (some { p with estate := .sending })) := by
    simp only [deqRoom, Config.deqCap, State.setEntry_chi]
    omega
  unfold startSending
  rw [serveSending_of_none hw, modEntry_eq_setEntry he, if_pos hroom, enqueueCommand, setEntry_entry_self]
  rfl

theorem startSending_full (hl : 16 ≤ s.chi.deq.length) :
    startSending e s = s.setEntry e (some { p with estate := .sending }) := by
  have hroom : ¬ 0 < deqRoom (s.setEntry e (some { p with estate := .sending })) := by
    simp only [deqRoom, Config.deqCap, State.setEntry_chi]
    omega
  unfold startSending
  rw [serveSending_of_none hw, modEntry_eq_setEntry he, if_neg hroom]

end

/-- R14: an entry that does not become SENDING without its command leaves nobody waiting. -/
theorem sendingWaiters_setEntry {s : State} {e : EntryNo} {q : Entry} (hw : sendingWaiters s = [])
    (hq : q.estate ≠ .sending) : sendingWaiters (s.setEntry e (some q)) = [] := by
  refine List.eq_nil_iff_forall_not_mem.2 fun j hj => ?_
  obtain ⟨en, hen, hs, hd⟩ := mem_sendingWaiters.1 hj
  by_cases hje : j = e
  · subst hje
    rw [setEntry_entry_self] at hen
    cases hen
    exact hq hs
  · have : j ∈ sendingWaiters s := mem_sendingWaiters.2 ⟨en, (setEntry_entry_ne hje).symm.trans hen, hs, hd⟩
    rw [hw] at this
    cases this

theorem sendingWaiters_sentState {s : State} (e : EntryNo) (p : Entry) (hw : sendingWaiters s = []) :
    sendingWaiters (sentState e p s) = [] := by
  refine List.eq_nil_iff_forall_not_mem.2 fun j hj => ?_
  obtain ⟨en, hen, hs, hd⟩ := mem_sendingWaiters.1 hj
  have hin : inDeq (sentState e p s) j = (inDeq s j || some e == some j) := by simp [inDeq, sentState]
  rw [hin, Bool.or_eq_false_iff] at hd
  have hje : j ≠ e := by rintro rfl; simp at hd
  have hen' : s.entry? j = some en := (setEntry_entry_ne (s := s) hje).symm.trans hen
  have : j ∈ sendingWaiters s := mem_sendingWaiters.2 ⟨en, hen', hs, hd.1⟩
  rw [hw] at this
  cases this

end Sys2Proof.Machine
end

section
namespace Sys2Proof.Machine

/-! ### An entry that leaves with nothing else following (R119, R130) -/

/-- Nothing waits for an entry of `st` to leave, and nobody for a free one. -/
structure NothingFollows (st : Stn) (y : State) : Prop where
  noEntry : hasEntry y st = false
  noMode : (y.station st).pendingMode = none
  idle : ∀ x, (y.proc x).wait = .nothing ∧ (y.proc x).due = none ∧ (y.proc x).replan = false
  room : (freeEntry y).isSome = true
  claim : y.ev.diqClaim = false

section
variable {st : Stn} {y : State} (h : NothingFollows st y)
include h

theorem NothingFollows.congr {z : State} (he : z.mrt.entries = y.mrt.entries) (hs : z.stb = y.stb) (hp : z.idx = y.idx)
    (hc : z.ev.diqClaim = y.ev.diqClaim) : NothingFollows st z where
  noEntry := by
    have : z.entry? = y.entry? := funext fun e => by simp only [State.entry?, he]
    rw [hasEntry_eq_false, this, ← hasEntry_eq_false]
    exact h.noEntry
  noMode := by simp only [State.station, hs]; exact h.noMode
  idle x := by simp only [State.proc, hp]; exact h.idle x
  room := by
    have : z.entry? = y.entry? := funext fun e => by simp only [State.entry?, he]
    rw [freeEntry_isSome, this, ← freeEntry_isSome]
    exact h.room
  claim := hc.trans h.claim

theorem reroute_idle : reroute y = only y := by
  have hnil : routeWaiters y = [] := by
    refine List.eq_nil_iff_forall_not_mem.2 fun x hx => ?_
    rw [routeWaiters, mem_sortBy, List.mem_filter, (h.idle x).1] at hx
    exact absurd hx.2 (by decide)
  rw [reroute, hnil]
  rfl

theorem onEntryLeft_idle : onEntryLeft st y = only y := by
  obtain ⟨-, hd, hr⟩ := h.idle st
  simp [onEntryLeft, h.noEntry, hd, hr]

theorem promoteSuccessor_idle : promoteSuccessor st y = only y := by
  have hp : pendingEntry y st = none := Option.eq_none_iff_forall_ne_some.2 fun e he => by
    obtain ⟨en, hen, hst, -⟩ := pendingEntry_eq_some he
    exact hasEntry_eq_false.1 h.noEntry e en hen hst
  simp only [promoteSuccessor, activeEntry_of_noEntry h.noEntry, hp]

theorem afterLastEntry_idle : afterLastEntry st y = only y := by
  simp [afterLastEntry, h.noEntry, h.noMode]

theorem arbitrate_idle : arbitrate y = only y := by
  obtain ⟨e, he⟩ := Option.isSome_iff_exists.1 h.room
  have hw : entryWaiters y = [] := by
    unfold entryWaiters
    split
    · rfl
    · refine List.eq_nil_iff_forall_not_mem.2 fun x hx => ?_
      rw [mem_sortBy, List.mem_filter, waitsEntry, (h.idle x).1] at hx
      exact absurd hx.2 (by decide)
  have hq : diqWaiter y = none := by simp [diqWaiter, h.claim]
  have hev : { y.ev with diqClaim := false } = y.ev := by rw [← h.claim]
  simp only [arbitrate, he, hq, hw]
  exact congrArg only (congrArg (fun w => { y with ev := w }) hev)

end

/-- The steps of a freeing after its report (R130 steps 4 to 6). -/
def followTasks (en : Entry) : List Task :=
  (if untransmittedRelease en then [.reroute] else []) ++ [.entryLeft en.station]
    ++ (if en.estate = .pending then [] else [.successor en.station]) ++ [.lastEntry en.station, .arbitrate]

theorem freeTasks_controller {en : Entry} {how : Ending} (ho : en.origin = .controller) (ht : how ≠ .timeout) :
    freeTasks en how = .report en how :: followTasks en := by
  simp [freeTasks, followTasks, ho, ht]

theorem length_followTasks (en : Entry) : (followTasks en).length ≤ 5 := by
  unfold followTasks
  split_ifs <;> simp

theorem runTasks_idle {l : List Task} {y : State} (h : ∀ t ∈ l, perform t y = only y) (n : Nat) (rest : List Task) :
    runTasks (n + l.length) (l ++ rest) y = runTasks n rest y := by
  induction l with
  | nil => rfl
  | cons t l ih =>
    rw [List.cons_append, List.length_cons, ← Nat.add_assoc, runTasks_cons, h t List.mem_cons_self]
    exact ih fun x hx => h x (List.mem_cons_of_mem _ hx)

theorem runTasks_followTasks {en : Entry} {y : State} (h : NothingFollows en.station y) (n : Nat) (rest : List Task) :
    runTasks (n + (followTasks en).length) (followTasks en ++ rest) y = runTasks n rest y := by
  refine runTasks_idle (fun t ht => ?_) n rest
  simp only [followTasks, List.mem_append, List.mem_ite_nil_left, List.mem_ite_nil_right, List.mem_cons, List.not_mem_nil,
    or_false] at ht
  rcases ht with ((⟨-, rfl⟩ | rfl) | ⟨-, rfl⟩) | rfl | rfl
  · exact reroute_idle h
  · exact onEntryLeft_idle h
  · exact promoteSuccessor_idle h
  · exact afterLastEntry_idle h
  · exact arbitrate_idle h

/-! #### The report (R131, R132) -/

theorem reportEnding_keeps (en : Entry) (how : Ending) (y : State) :
    (reportEnding en how y).2 = [] ∧ (reportEnding en how y).1.mrt.entries = y.mrt.entries
      ∧ (reportEnding en how y).1.stb = y.stb ∧ (reportEnding en how y).1.idx = y.idx
      ∧ (reportEnding en how y).1.ev.diqClaim = y.ev.diqClaim := by
  unfold reportEnding
  split <;> simp [only, refuseEntry]

theorem runTasks_freeTasks {en : Entry} {how : Ending} {y : State} (ho : en.origin = .controller) (ht : how ≠ .timeout)
    (h : NothingFollows en.station y) (n : Nat) (rest : List Task) :
    runTasks (n + (followTasks en).length + 1) (freeTasks en how ++ rest) y = runTasks n rest (reportEnding en how y).1 := by
  obtain ⟨h0, he, hs, hp, hc⟩ := reportEnding_keeps en how y
  rw [freeTasks_controller ho ht, List.cons_append, runTasks_cons]
  change runTasks _ ((reportEnding en how y).2 ++ (followTasks en ++ rest)) (reportEnding en how y).1 = _
  rw [h0, List.nil_append, runTasks_followTasks (h.congr he hs hp hc)]

/-! #### The entry leaves the table (R130 step 2) -/

/-- The table without the entry, its command, its STOP or ABORT and its deferred item. -/
def withoutEntry (e : EntryNo) (s : State) : State := dropDeferred e (dropUgq e (dropDeq e (s.setEntry e none)))

theorem noticesOnly_removeEntry (e : EntryNo) (en : Entry) (how : Ending) (s : State) :
    NoticesOnly (withoutEntry e s) (removeEntry e en how s) := by
  unfold removeEntry
  cases endingSource how <;> rfl

/-- The state after a freeing's removal of its entry, with the model's marks of it (R119, R130). -/
def entryRemoved (e : EntryNo) (en : Entry) (how : Ending) (s : State) : State :=
  removeEntry e en how
    (s.modEv (fun v => { v with diqClaim := claimForDiq s, freed := v.freed ||| StnSet.one en.station }))

theorem freeEntryStep_eq {e : EntryNo} {en : Entry} {how : Ending} {s : State} (he : s.entry? e = some en) :
    freeEntryStep e how s = (match endingFault en how with
      | some k => occur k (some en.station) en.pallet (entryRemoved e en how s)
      | none => entryRemoved e en how s, freeTasks en how) := by
  unfold freeEntryStep
  rw [he]
  rfl

section
variable (e : EntryNo) (en : Entry) (how : Ending) (s : State)

theorem noticesOnly_entryRemoved : NoticesOnly (withoutEntry e s) (entryRemoved e en how s) :=
  (NoticesOnly.ofEv (withoutEntry e s) _).trans (noticesOnly_removeEntry ..)

theorem entryRemoved_nq : (entryRemoved e en how s).chi.nq = s.chi.nq := by
  unfold entryRemoved removeEntry; cases endingSource how <;> rfl

theorem entryRemoved_kept : (entryRemoved e en how s).mrt.kept = s.mrt.kept := by
  unfold entryRemoved removeEntry; cases endingSource how <;> rfl

theorem entryRemoved_mga : (entryRemoved e en how s).mga = s.mga := by
  unfold entryRemoved removeEntry; cases endingSource how <;> rfl

theorem entryRemoved_passDue : (entryRemoved e en how s).ev.passDue = s.ev.passDue := by
  unfold entryRemoved removeEntry; cases endingSource how <;> rfl

/-- A freeing while an entry is free starts no claim for the DIQ's next message. -/
theorem entryRemoved_diqClaim (hc : s.ev.diqClaim = false) (hf : (freeEntry s).isSome = true) :
    (entryRemoved e en how s).ev.diqClaim = false := by
  have hclaim : claimForDiq s = false := by simp [claimForDiq, hc, Option.isNone_eq_false_iff.2 hf]
  unfold entryRemoved removeEntry
  rw [hclaim]
  cases endingSource how <;> rfl

end

/-- R119, R130: where an entry of `s` leaves alone, nothing follows its leaving. -/
theorem nothingFollows_withoutEntry {e : EntryNo} {en : Entry} {s : State} (h : LeavesAlone e en s)
    (hc : s.ev.diqClaim = false) : NothingFollows en.station (withoutEntry e s) := by
  obtain ⟨-, hm, hi, ho, hf⟩ := h
  refine ⟨?_, hm, hi, ?_, hc⟩
  · refine hasEntry_eq_false.2 fun j q hj hq => ?_
    by_cases hje : j = e
    · subst hje
      exact absurd ((setEntry_entry_self s j none).symm.trans hj) (by simp)
    · exact hje (ho j q ((setEntry_entry_ne hje).symm.trans hj) hq)
  · exact freeEntry_isSome.2 ⟨e, setEntry_entry_self s e none⟩

theorem NothingFollows.of_noticesOnly {st : Stn} {y z : State} (h : NothingFollows st y) (hn : NoticesOnly y z)
    (hc : z.ev.diqClaim = false) : NothingFollows st z :=
  h.congr (by rw [hn]) (by rw [hn]) (by rw [hn]) (hc.trans h.claim.symm)

/-! ### What waits for port A at the end of an event -/

theorem notice_outgoing_prefix (ev : Event) (st : Byte) (p : Tag) (d : Nat) (s : State) :
    outgoing s <+: outgoing (notice ev st p d s) := by
  rcases notice_outgoing ev st p d s with h | ⟨m, h⟩
  · exact ⟨[], (List.append_nil _).trans h.symm⟩
  · exact ⟨[m], h.symm⟩

theorem flushMonitor_outgoing (n : Nat) (s : State) : outgoing s <+: outgoing (flushMonitor n s) := by
  induction n generalizing s with
  | zero => exact List.prefix_refl _
  | succ n ih =>
    unfold flushMonitor
    split
    · exact List.prefix_refl _
    next i _ =>
      exact (notice_outgoing_prefix .counterOverflow 255 0 i.val
        (s.modEv (fun e => { e with monitorDue := e.monitorDue.filter (fun x => x != i) }))).trans (ih _)

theorem closeEvent_outgoing (s : State) : outgoing s <+: outgoing (closeEvent s) := flushMonitor_outgoing 9 s

/-- R183, R184: an event told at its end. -/
theorem tells_closeEvent_notice (ev : Event) (st : Byte) (p : Tag) (d : Nat) {s y : State} (hm : y.mga = s.mga)
    (hn : y.chi.nq = s.chi.nq) (hk : y.mrt.kept = s.mrt.kept) : Tells ev st p d s (closeEvent (notice ev st p d y)) := by
  constructor
  · refine closeEvent_summary _ _ ?_
    rw [notice_summary, BitVec.getLsbD_or]
    have : (classBit (eventClass ev)).getLsbD (classCode (eventClass ev)) = true := by
      cases eventClass ev <;> decide
    rw [this, Bool.or_true]
  · intro hmask hroom
    have hsent := notice_sent ev st p d (s := y) (by rw [hm]; exact hmask) (by rw [hn, hk]; exact hroom)
    refine ⟨mkNotice y.mga.node y.mga.controller y.now ev st p (d % 128 + 128 * bitN y.chi.afterLoss), ?_, rfl, rfl, rfl, ?_⟩
    · refine (closeEvent_outgoing _).subset ?_
      rw [hsent]
      simp [outgoing]
    · have hb : bitN y.chi.afterLoss ≤ 1 := by cases y.chi.afterLoss <;> decide
      rw [mkNotice_argA _ _ _ _ _ _ (by omega)]
      have := eventCode_lt ev
      omega

end Sys2Proof.Machine
end

section
namespace Sys2Proof.Machine

/-! ### A freeing without a fault (R130) -/

/-- The entry `e` of `s` is freed, its ending is told, and nothing else follows. -/
def freedState (e : EntryNo) (q : Entry) (how : Ending) (x : State) : State :=
  (reportEnding q how (entryRemoved e q how x)).1

section
variable {e : EntryNo} {q : Entry} {how : Ending} {x : State}

theorem runTasks_free (he : x.entry? e = some q) (hl : LeavesAlone e q x) (hc : x.ev.diqClaim = false)
    (hf : endingFault q how = none) (ht : how ≠ .timeout) (n : Nat) (rest : List Task) :
    runTasks (n + (followTasks q).length + 2) (.free e how :: rest) x = runTasks n rest (freedState e q how x) := by
  have hy : NothingFollows q.station (entryRemoved e q how x) :=
    (nothingFollows_withoutEntry hl hc).of_noticesOnly (noticesOnly_entryRemoved ..)
      (entryRemoved_diqClaim _ _ _ _ hc hl.2.2.2.2)
  rw [runTasks_cons]
  change runTasks _ ((freeEntryStep e how x).2 ++ rest) (freeEntryStep e how x).1 = _
  rw [freeEntryStep_eq he, hf]
  exact runTasks_freeTasks hl.1 ht hy n rest

theorem freedState_passDue : (freedState e q how x).ev.passDue = x.ev.passDue := by
  rw [← entryRemoved_passDue e q how x]
  unfold freedState reportEnding
  split <;> simp [only, refuseEntry]

/-- R130: an entry told DONE without a cycle result. -/
theorem freedDone_freedState {en : Entry} {s : State} (hx : x = s.setEntry e (some q)) (hs : q.station = en.station)
    (hp : q.pallet = en.pallet) (hk : paramsKind q.params = paramsKind en.params) :
    FreedDone e en s (closeEvent (freedState e q (.done none false) x)) := by
  have hn := noticesOnly_entryRemoved e q (.done none false) x
  have hent : ∀ j, (closeEvent (freedState e q (.done none false) x)).entry? j = (withoutEntry e x).entry? j := by
    intro j
    simp only [State.entry?, closeEvent_entries, freedState, reportEnding, only, notice_entries]
    rw [hn]
  subst hx
  refine ⟨?_, fun j hj => ?_, ?_, ?_, ?_, ?_, ?_, ?_, ?_⟩
  · exact (hent e).trans (setEntry_entry_self ..)
  · exact (hent j).trans ((setEntry_entry_ne hj).trans (setEntry_entry_ne hj))
  · simp only [closeEvent_ilk, freedState, reportEnding, only, notice_ilk]
    rw [hn]
    rfl
  · have ht := tells_closeEvent_notice .command (stnByte q.station) q.pallet (32 * cmdNo (paramsKind q.params)) (s := s)
      (y := entryRemoved e q (.done none false) (s.setEntry e (some q))) (entryRemoved_mga ..) (entryRemoved_nq ..)
      (entryRemoved_kept ..)
    rw [hs, hp, hk] at ht
    simp only [freedState, reportEnding, endingCode, only, Nat.add_zero, hs, hp, hk]
    exact ht
  all_goals
    simp only [closeEvent_stb, closeEvent_ptb, closeEvent_rcs, closeEvent_trp, closeEvent_fcu, freedState, reportEnding, only,
      notice_stb, notice_ptb, notice_rcs, notice_trp, notice_fcu]
    rw [hn]
    rfl

theorem statusCode_lt (r : Status) : statusCode r < 65536 := by cases r <;> decide

/-- R130, R132: an entry told REFUSED. -/
theorem freedRefused_freedState {en : Entry} {s : State} {r : Status} {d : Nat} (hx : x = s.setEntry e (some q))
    (hs : q.station = en.station) (hp : q.pallet = en.pallet) (hk : paramsKind q.params = paramsKind en.params) :
    FreedRefused e en r d s (closeEvent (freedState e q (.refused r d) x)) := by
  have hn := noticesOnly_entryRemoved e q (.refused r d) x
  have hm := entryRemoved_mga e q (.refused r d) x
  have hent : ∀ j, (closeEvent (freedState e q (.refused r d) x)).entry? j = (withoutEntry e x).entry? j := by
    intro j
    simp only [State.entry?, closeEvent_entries, freedState, reportEnding, only, refuseEntry, lmnEvent_mrt, postReply_entries]
    rw [hn]
  subst hx
  refine ⟨?_, fun j hj => ?_, ?_, ?_, ?_, ?_, ?_, ?_, ?_⟩
  · exact (hent e).trans (setEntry_entry_self ..)
  · exact (hent j).trans ((setEntry_entry_ne hj).trans (setEntry_entry_ne hj))
  · simp only [closeEvent_ilk, freedState, reportEnding, only, refuseEntry, lmnEvent_ilk, postReply_ilk]
    rw [hn]
    rfl
  · refine ⟨mkMsg 0 s.mga.controller s.mga.node kRefused (stnByte en.station) en.pallet (BitVec.ofNat 16 (statusCode r))
      (cmdCode (paramsKind en.params) ++ BitVec.ofNat 8 d), ?_, rfl, rfl, ?_, rfl, ?_, rfl⟩
    · refine (closeEvent_outgoing _).subset ?_
      have ho : outgoing (freedState e q (.refused r d) (s.setEntry e (some q)))
          = outgoing (entryRemoved e q (.refused r d) (s.setEntry e (some q))) ++ [mkMsg 0 s.mga.controller s.mga.node kRefused
            (stnByte q.station) q.pallet (BitVec.ofNat 16 (statusCode r))
            (cmdCode (paramsKind q.params) ++ BitVec.ofNat 8 d)] := by
        have hm' : (entryRemoved e q (.refused r d) (s.setEntry e (some q))).mga = s.mga := hm
        simp only [freedState, reportEnding, only, refuseEntry, hm']
        exact postReply_outgoing _ _
      rw [ho, hs, hp, hk]
      simp
    · have := en.station.isLt
      simp [mkMsg, stnByte]
      omega
    · have := statusCode_lt r
      simp [mkMsg]
      omega
  all_goals
    simp only [closeEvent_stb, closeEvent_ptb, closeEvent_rcs, closeEvent_trp, closeEvent_fcu, freedState, reportEnding, only,
      refuseEntry, lmnEvent_stb, lmnEvent_ptb, lmnEvent_rcs, lmnEvent_trp, lmnEvent_fcu, postReply_stb, postReply_ptb,
      postReply_rcs, postReply_trp, postReply_fcu]
    rw [hn]
    rfl

end

/-- Whether an entry leaves alone does not depend on its plan. -/
theorem LeavesAlone.planned {e : EntryNo} {en : Entry} {s : State} (he : s.entry? e = some en) (h : LeavesAlone e en s) :
    LeavesAlone e (planEntry s en) (s.setEntry e (some (planEntry s en))) := by
  obtain ⟨ho, hm, hi, hj, hf⟩ := h
  refine ⟨by rwa [planEntry_origin], ?_, hi, ?_, ?_⟩
  · rw [planEntry_station]; exact hm
  · intro j q hq hst
    rw [planEntry_station] at hst
    by_cases hje : j = e
    · exact hje
    · exact hj j q ((setEntry_entry_ne hje).symm.trans hq) hst
  · obtain ⟨j, hn⟩ := freeEntry_isSome.1 hf
    have hje : j ≠ e := by rintro rfl; cases he.symm.trans hn
    exact freeEntry_isSome.2 ⟨j, (setEntry_entry_ne hje).trans hn⟩

end Sys2Proof.Machine
end

section
namespace Sys2Proof.Machine

/-! ### Promotion of a READY entry (R120) -/

section
variable {s : State} {e : EntryNo} {en : Entry}

/-- R106: the state in which the entry is planned anew. -/
def planned (e : EntryNo) (en : Entry) (s : State) : State := s.setEntry e (some (planEntry s en))

theorem planned_entry : (planned e en s).entry? e = some (planEntry s en) := setEntry_entry_self ..

theorem planned_verdict (he : s.entry? e = some en) (st : Stn) (j : Judged) : verdict (planned e en s) st j = verdict s st j :=
  (sameChecks_planned he).verdict st j

/-- R141, R142: what follows the verdict on the planned entry at its promotion. -/
def promoteBy (e : EntryNo) (en : Entry) (s : State) : Verdict → Eff
  | .pass => only (startSending e s)
  | .refuse r d => (s, [.free e (.refused r d)])
  | .defer i lim =>
    if s.ilk.deferred.length < Config.deferMax then
      only (lmnEvent .deferred (some en.station) (some (cmdCode (paramsKind en.params)))
        { s.modEntry e (fun en => { en with estate := .deferred }) with
          ilk := { s.ilk with deferred := s.ilk.deferred ++ [{ entry := e, deadline := after s.now lim, deferring := i }] } })
    else (s, [.free e (.refused .deferFull i.val)])

variable (he : s.entry? e = some en) (hr : en.estate = .ready) (hh : s.held en.station = false)
include he hr hh

theorem promote_satisfied (hp : planSatisfied (planEntry s en) = true) :
    promote e s = (planned e en s, [.free e (.done none false)]) := by
  have hno : ¬ (en.estate ≠ .ready ∨ s.held en.station = true) := by simp [hr, hh]
  simp only [promote, he, if_neg hno, hp, if_true]
  rfl

theorem promote_verdict (hp : planSatisfied (planEntry s en) = false) :
    promote e s = promoteBy e en (planned e en s) (verdict s en.station (judgedOf en.params)) := by
  have hno : ¬ (en.estate ≠ .ready ∨ s.held en.station = true) := by simp [hr, hh]
  rw [← planned_verdict he]
  simp only [promote, he, if_neg hno, hp, Bool.false_eq_true, if_false, planned]
  cases verdict (s.setEntry e (some (planEntry s en))) en.station (judgedOf en.params) <;> rfl

end

/-- An event whose one task leads to `t` with no pass due. -/
theorem promoteEvent_only {e : EntryNo} {s t : State} (h : promote e s = only t) (hp : t.ev.passDue = false) :
    promoteEvent e s = .next (closeEvent t) := by
  refine conclude_of_run (n := 3) ?_ (le_cascadeBound (by decide))
  change runTasks 3 (.promote e :: [.deferPass, .close]) s = _
  rw [runTasks_cons]
  change runTasks 2 ((promote e s).2 ++ _) (promote e s).1 = _
  rw [h]
  exact run_end 0 hp

/-- A promotion that frees its entry alone. -/
theorem promoteEvent_free {e : EntryNo} {q : Entry} {how : Ending} {s x : State} (h : promote e s = (x, [.free e how]))
    (hx : x.ev = clearWithin) (he : x.entry? e = some q) (hl : LeavesAlone e q x) (hf : endingFault q how = none)
    (ht : how ≠ .timeout) : promoteEvent e s = .next (closeEvent (freedState e q how x)) := by
  have hlen := length_followTasks q
  refine conclude_of_run (n := 0 + 2 + (followTasks q).length + 2 + 1) ?_ (le_cascadeBound (by omega))
  change runTasks _ (.promote e :: [.deferPass, .close]) s = _
  rw [runTasks_cons]
  change runTasks _ ((promote e s).2 ++ _) (promote e s).1 = _
  rw [h]
  change runTasks _ (.free e how :: [.deferPass, .close]) x = _
  rw [runTasks_free he hl (by rw [hx]; rfl) hf ht]
  exact run_end 0 (by rw [freedState_passDue, hx]; rfl)

/-! ### The pass over the deferred list (R143, R144) -/

section
variable {s : State} {it : DeferItem} {en : Entry}

/-- R144: what follows the verdict on a deferred item. -/
def judgeBy (it : DeferItem) (en : Entry) (s : State) : Verdict → Eff
  | .pass => if s.held en.station then only s else only (startSending it.entry (dropDeferred it.entry s))
  | .refuse r d => (s, [.free it.entry (.refused r d)])
  | .defer i _ =>
    only { s with
      ilk := { s.ilk with
        deferred := s.ilk.deferred.map (fun d => if d.entry = it.entry then { d with deferring := i } else d) } }

variable (hit : it ∈ s.ilk.deferred) (he : s.entry? it.entry = some en)
include hit he

theorem judgeItem_satisfied (hp : planSatisfied (planEntry s en) = true) :
    judgeItem it s = (planned it.entry en s, [.free it.entry (.done none false)]) := by
  obtain ⟨d, hd⟩ := Option.isSome_iff_exists.1
    (List.find?_isSome.2 ⟨it, hit, by simp⟩ :
      (s.ilk.deferred.find? (fun d => d.entry == it.entry && d.deadline == it.deadline)).isSome = true)
  simp only [judgeItem, hd, he, hp, if_true]
  rfl

theorem judgeItem_verdict (hp : planSatisfied (planEntry s en) = false) : judgeItem it s
    = judgeBy it en (planned it.entry en s) (verdict s en.station (judgedOf en.params)) := by
  obtain ⟨d, hd⟩ := Option.isSome_iff_exists.1
    (List.find?_isSome.2 ⟨it, hit, by simp⟩ :
      (s.ilk.deferred.find? (fun d => d.entry == it.entry && d.deadline == it.deadline)).isSome = true)
  rw [← planned_verdict he]
  simp only [judgeItem, hd, he, hp, Bool.false_eq_true, if_false, planned]
  cases verdict (s.setEntry it.entry (some (planEntry s en))) en.station (judgedOf en.params) <;> rfl

end

/-- R143: the pass takes each item that stands in the list when it begins. -/
theorem runTasks_deferPass {s : State} (hs : BetweenEvents s) (n : Nat) :
    runTasks (n + 1) [.deferPass, .close] (duePass s) = runTasks n (s.ilk.deferred.map .judge ++ [.close]) s := by
  have hclear : (duePass s).modEv (fun v => { v with passDue := false }) = s := by
    have hev : { s.ev with passDue := false } = s.ev := by rw [hs]; rfl
    exact congrArg (fun w => { s with ev := w }) hev
  have hpass : perform .deferPass (duePass s) = (s, s.ilk.deferred.map .judge) := by
    have hp : (duePass s).ev.passDue = true := rfl
    change deferPass (duePass s) = _
    unfold deferPass
    rw [if_pos hp, hclear]
    rfl
  rw [runTasks_cons, hpass]

end Sys2Proof.Machine
end

section
namespace Sys2Proof.Machine

/-! ### The pass over one item (R143, R144) -/

section
variable {s : State} {it : DeferItem}

/-- The judgement of the only deferred item leads to `t`. -/
theorem passEvent_only {t : State} (hs : BetweenEvents s) (hd : s.ilk.deferred = [it]) (h : judgeItem it s = only t)
    (ht : t.ev = clearWithin) : passEvent s = .next t := by
  refine (conclude_of_run (n := 0 + 1 + 1 + 1) ?_ (le_cascadeBound (by decide)))
  change runTasks _ [.deferPass, .close] (duePass s) = _
  rw [runTasks_deferPass hs, hd]
  change runTasks _ (.judge it :: [.close]) s = _
  rw [runTasks_cons]
  change runTasks _ ((judgeItem it s).2 ++ _) (judgeItem it s).1 = _
  rw [h]
  exact congrArg some (closeEvent_clear ht)

/-- The judgement of the only deferred item frees its entry alone. -/
theorem passEvent_free {q : Entry} {how : Ending} {x : State} (hs : BetweenEvents s) (hd : s.ilk.deferred = [it])
    (h : judgeItem it s = (x, [.free it.entry how])) (hx : x.ev = clearWithin) (he : x.entry? it.entry = some q)
    (hl : LeavesAlone it.entry q x) (hf : endingFault q how = none) (ht : how ≠ .timeout) :
    passEvent s = .next (closeEvent (freedState it.entry q how x)) := by
  have hlen := length_followTasks q
  refine (conclude_of_run (n := 0 + 1 + (followTasks q).length + 2 + 1 + 1) ?_ (le_cascadeBound (by omega)))
  change runTasks _ [.deferPass, .close] (duePass s) = _
  rw [runTasks_deferPass hs, hd]
  change runTasks _ (.judge it :: [.close]) s = _
  rw [runTasks_cons]
  change runTasks _ ((judgeItem it s).2 ++ _) (judgeItem it s).1 = _
  rw [h]
  change runTasks _ (.free it.entry how :: [.close]) x = _
  rw [runTasks_free he hl (by rw [hx]; rfl) hf ht]
  rfl

end

/-! ### A command sent from the deferred list (R144) -/

/-- R143, R144: the item has left the deferred list and its command stands at the tail of the DEQ. -/
def sentFromList (it : DeferItem) (en : Entry) (s : State) : State :=
  sentState it.entry (planEntry s en) (dropDeferred it.entry s)

section
variable {s : State} {it : DeferItem} {en : Entry} (hit : it ∈ s.ilk.deferred) (he : s.entry? it.entry = some en)
  (hes : en.estate = .deferred) (hp : planSatisfied (planEntry s en) = false)
  (hv : verdict s en.station (judgedOf en.params) = .pass)
include hit he hp hv

theorem judgeItem_pass_held (hh : s.held en.station = true) : judgeItem it s = only (planned it.entry en s) := by
  rw [judgeItem_verdict hit he hp, hv]
  exact if_pos hh

include hes in
theorem judgeItem_pass (hh : s.held en.station = false) (hw : sendingWaiters s = []) (hl : s.chi.deq.length < 16) :
    judgeItem it s = only (sentFromList it en s) := by
  have hne : (planEntry s en).estate ≠ .sending := by rw [planEntry_estate, hes]; decide
  have hw' : sendingWaiters (dropDeferred it.entry (planned it.entry en s)) = [] := sendingWaiters_setEntry hw hne
  have hent : (dropDeferred it.entry (planned it.entry en s)).entry? it.entry = some (planEntry s en) := planned_entry
  have hn : ¬ (planned it.entry en s).held en.station = true := by
    change ¬ s.held en.station = true
    rw [hh]
    decide
  rw [judgeItem_verdict hit he hp, hv, judgeBy, if_neg hn, startSending_room hent hw' hl]
  refine congrArg only ?_
  simp only [sentFromList, sentState, planned, dropDeferred, State.setEntry, upd_upd]
  rfl

end

/-! ### The outcomes of a promotion (R120, R141, R142) -/

theorem setEntry_planned {s : State} {e : EntryNo} {en : Entry} (x : Option Entry) :
    (planned e en s).setEntry e x = s.setEntry e x := setEntry_setEntry ..

/-- R120: the planned entry in another state. -/
def withEstate (es : EState) (e : EntryNo) (en : Entry) (s : State) : State :=
  s.setEntry e (some { planEntry s en with estate := es })

theorem promoteEvent_clear {e : EntryNo} {s t : State} (h : promote e s = only t) (ht : t.ev = clearWithin) :
    promoteEvent e s = .next t := by
  rw [promoteEvent_only h (by rw [ht]; rfl), closeEvent_clear ht]

section
variable {s : State} {e : EntryNo} {en : Entry} (hs : BetweenEvents s) (he : s.entry? e = some en) (hr : en.estate = .ready)
  (hh : s.held en.station = false)
include hs he

theorem promoteEvent_refused {r : Status} {n : Nat} (h : promote e s = (planned e en s, [.free e (.refused r n)]))
    (hl : LeavesAlone e en s) : ∃ t, promoteEvent e s = .next t ∧ FreedRefused e en r n s t :=
  ⟨_, promoteEvent_free h hs planned_entry (hl.planned he) rfl (by simp),
    freedRefused_freedState rfl (planEntry_station ..) (planEntry_pallet ..) (planEntry_kind ..)⟩

include hr hh

theorem promoteEvent_done (hp : planSatisfied (planEntry s en) = true) (hl : LeavesAlone e en s) :
    ∃ t, promoteEvent e s = .next t ∧ FreedDone e en s t :=
  ⟨_, promoteEvent_free (promote_satisfied he hr hh hp) hs planned_entry (hl.planned he) rfl (by simp),
    freedDone_freedState rfl (planEntry_station ..) (planEntry_pallet ..) (planEntry_kind ..)⟩

variable (hp : planSatisfied (planEntry s en) = false)
include hp

section
variable (hv : verdict s en.station (judgedOf en.params) = .pass) (hw : sendingWaiters s = [])
include hv hw

theorem promoteEvent_pass (hl : s.chi.deq.length < 16) : promoteEvent e s = .next (sentState e (planEntry s en) s) := by
  have hne : (planEntry s en).estate ≠ .sending := by rw [planEntry_estate, hr]; decide
  have hsend := startSending_room (s := planned e en s) planned_entry (sendingWaiters_setEntry hw hne) hl
  have hput : sentState e (planEntry s en) (planned e en s) = sentState e (planEntry s en) s := by
    simp only [sentState, planned, State.setEntry, upd_upd]
    rfl
  refine promoteEvent_clear ?_ hs
  rw [promote_verdict he hr hh hp, hv, promoteBy, hsend, hput]

theorem promoteEvent_pass_full (hl : 16 ≤ s.chi.deq.length) : promoteEvent e s = .next (withEstate .sending e en s) := by
  have hne : (planEntry s en).estate ≠ .sending := by rw [planEntry_estate, hr]; decide
  have hsend := startSending_full (s := planned e en s) planned_entry (sendingWaiters_setEntry hw hne) hl
  refine promoteEvent_clear ?_ hs
  rw [promote_verdict he hr hh hp, hv, promoteBy, hsend, setEntry_planned]
  rfl

end

theorem promoteEvent_defer {i : IlkNo} {lim : Nat} (hv : verdict s en.station (judgedOf en.params) = .defer i lim)
    (hl : s.ilk.deferred.length < 8) :
    promoteEvent e s = .next (closeEvent (lmnEvent .deferred (some en.station) (some (cmdCode (paramsKind en.params)))
      { withEstate .deferred e en s with
        ilk := { s.ilk with deferred := s.ilk.deferred ++
          [{ entry := e, deadline := s.mga.time + BitVec.ofNat 32 lim, deferring := i }] } })) := by
  refine promoteEvent_only ?_ (congrArg Within.passDue hs)
  rw [promote_verdict he hr hh hp, hv, promoteBy, if_pos (show (planned e en s).ilk.deferred.length < Config.deferMax from hl),
    modEntry_eq_setEntry planned_entry, setEntry_planned]
  rfl

theorem promoteEvent_defer_full {i : IlkNo} {lim : Nat} (hv : verdict s en.station (judgedOf en.params) = .defer i lim)
    (hl : 8 ≤ s.ilk.deferred.length) (ha : LeavesAlone e en s) :
    ∃ t, promoteEvent e s = .next t ∧ FreedRefused e en .deferFull i.val s t := by
  refine promoteEvent_refused hs he ?_ ha
  rw [promote_verdict he hr hh hp, hv]
  exact if_neg (Nat.not_lt.2 hl)

theorem promoteEvent_refuse {r : Status} {n : Nat} (hv : verdict s en.station (judgedOf en.params) = .refuse r n)
    (ha : LeavesAlone e en s) : ∃ t, promoteEvent e s = .next t ∧ FreedRefused e en r n s t := by
  refine promoteEvent_refused hs he ?_ ha
  rw [promote_verdict he hr hh hp, hv]
  rfl

end

/-! ### The outcomes of a pass over one item (R143, R144) -/

section
variable {s : State} {it : DeferItem} {en : Entry} (hs : BetweenEvents s) (hd : s.ilk.deferred = [it])
  (he : s.entry? it.entry = some en)
include hs hd he

theorem passEvent_done (hp : planSatisfied (planEntry s en) = true) (hl : LeavesAlone it.entry en s) :
    ∃ t, passEvent s = .next t ∧ FreedDone it.entry en s t :=
  ⟨_, passEvent_free hs hd (judgeItem_satisfied (by simp [hd]) he hp) hs planned_entry (hl.planned he) rfl (by simp),
    freedDone_freedState rfl (planEntry_station ..) (planEntry_pallet ..) (planEntry_kind ..)⟩

variable (hp : planSatisfied (planEntry s en) = false)
include hp

theorem passEvent_pass_held (hv : verdict s en.station (judgedOf en.params) = .pass) (hh : s.held en.station = true) :
    passEvent s = .next (planned it.entry en s) :=
  passEvent_only hs hd (judgeItem_pass_held (by simp [hd]) he hp hv hh) hs

theorem passEvent_pass (hes : en.estate = .deferred) (hv : verdict s en.station (judgedOf en.params) = .pass)
    (hh : s.held en.station = false) (hw : sendingWaiters s = []) (hl : s.chi.deq.length < 16) :
    passEvent s = .next (sentFromList it en s) :=
  passEvent_only hs hd (judgeItem_pass (by simp [hd]) he hes hp hv hh hw hl) hs

theorem passEvent_defer {i : IlkNo} {lim : Nat} (hv : verdict s en.station (judgedOf en.params) = .defer i lim) :
    passEvent s = .next { planned it.entry en s with ilk := { s.ilk with deferred := [{ it with deferring := i }] } } := by
  have hj := judgeItem_verdict (by simp [hd]) he hp
  rw [hv] at hj
  have hmap : (planned it.entry en s).ilk.deferred.map (fun d => if d.entry = it.entry then { d with deferring := i } else d)
      = [{ it with deferring := i }] := by
    change s.ilk.deferred.map _ = _
    simp [hd]
  rw [passEvent_only hs hd hj hs, hmap]
  rfl

theorem passEvent_refuse {r : Status} {n : Nat} (hv : verdict s en.station (judgedOf en.params) = .refuse r n)
    (ha : LeavesAlone it.entry en s) : ∃ t, passEvent s = .next t ∧ FreedRefused it.entry en r n s t := by
  have hj := judgeItem_verdict (by simp [hd]) he hp
  rw [hv] at hj
  exact ⟨_, passEvent_free hs hd hj hs planned_entry (ha.planned he) rfl (by simp),
    freedRefused_freedState rfl (planEntry_station ..) (planEntry_pallet ..) (planEntry_kind ..)⟩

end

/-! ### The pass over two items (R143) -/

/-- R141: with no valid interlock entry the hard-wired check of the kind decides. -/
theorem verdict_pass {s : State} {st : Stn} {j : Judged} (hi : ∀ i, (s.ilk.table.get i).valid = false)
    (hk : kindCheck s st j = none) : verdict s st j = .pass := by
  have hf : ∀ b, failing s st j b = [] := fun b => by simp [failing, ilkFails, judges, hi]
  simp [verdict, hk, hf]

theorem hardCheck_eq_none {s : State} {st : Stn} {j : Judged} (h : hardCheck s st j = none) :
    kindCheck s st j = none ∧ s.held st = false := by
  unfold hardCheck at h
  cases hk : kindCheck s st j with
  | some n => simp [hk] at h
  | none => simpa [hk] using h

/-- What is under way at a station does not depend on the entries of others. -/
theorem underWay_of_others {s t : State} {st : Stn} (h : ∀ e en, en.station = st → (t.entry? e = some en ↔ s.entry? e = some en))
    (k : CmdKind) : underWay t st k = underWay s st k := by
  rw [Bool.eq_iff_iff, underWay_iff, underWay_iff]
  refine exists_congr fun e => exists_congr fun en => and_congr_left fun hx => h e en hx.1

/-- What is under way at another station stays when one entry's command is sent. -/
theorem entry_sentFromList_of_ne {it : DeferItem} {x : Entry} {s : State} {st : Stn} (hx : s.entry? it.entry = some x)
    (hne : x.station ≠ st) (e : EntryNo) (en : Entry) (hst : en.station = st) :
    (sentFromList it x s).entry? e = some en ↔ s.entry? e = some en := by
  have hent : (sentFromList it x s).entry? e
      = if e = it.entry then some { planEntry s x with estate := .sending } else s.entry? e := State.setEntry_entry ..
  rw [hent]
  split_ifs with h
  · subst h
    rw [hx]
    constructor <;> (intro h; cases h; exact absurd (by simpa using hst) hne)
  · rfl

/-- R143: the pass sends the commands of both items, the older one first. -/
theorem passEvent_two {s : State} {a b : DeferItem} {x y : Entry} (hs : BetweenEvents s) (hd : s.ilk.deferred = [a, b])
    (hab : a.entry ≠ b.entry) (ha : s.entry? a.entry = some x) (hb : s.entry? b.entry = some y) (hxy : x.station ≠ y.station)
    (hxs : x.estate = .deferred) (hys : y.estate = .deferred) (hi : ∀ i, (s.ilk.table.get i).valid = false)
    (hxc : hardCheck s x.station (judgedOf x.params) = none) (hyc : hardCheck s y.station (judgedOf y.params) = none)
    (hxp : planSatisfied (planEntry s x) = false) (hyp : planSatisfied (planEntry s y) = false)
    (hw : sendingWaiters s = []) (hl : s.chi.deq.length ≤ 14) :
    passEvent s = .next (sentFromList b y (sentFromList a x s)) := by
  obtain ⟨hxk, hxh⟩ := hardCheck_eq_none hxc
  obtain ⟨hyk, hyh⟩ := hardCheck_eq_none hyc
  have hfirst : judgeItem a s = only (sentFromList a x s) :=
    judgeItem_pass (by simp [hd]) ha hxs hxp (verdict_pass hi hxk) hxh hw (by omega)
  have hrest : (sentFromList a x s).ilk.deferred = [b] := by
    change s.ilk.deferred.filter (fun d => d.entry != a.entry) = _
    simp [hd, hab.symm]
  have hkind : kindCheck (sentFromList a x s) y.station (judgedOf y.params) = none :=
    (kindCheck_congr (s := s) (t := sentFromList a x s) rfl rfl (underWay_of_others (entry_sentFromList_of_ne ha hxy)) _).trans hyk
  have hlen : (sentFromList a x s).chi.deq.length = s.chi.deq.length + 1 := List.length_append
  have hsecond : judgeItem b (sentFromList a x s) = only (sentFromList b y (sentFromList a x s)) :=
    judgeItem_pass (by rw [hrest]; simp) ((setEntry_entry_ne hab.symm).trans hb) hys hyp (verdict_pass hi hkind) hyh
      (sendingWaiters_sentState (s := dropDeferred a.entry s) a.entry (planEntry s x) hw) (by omega)
  refine conclude_of_run (n := 0 + 1 + 1 + 1 + 1) ?_ (le_cascadeBound (by decide))
  change runTasks _ [.deferPass, .close] (duePass s) = _
  rw [runTasks_deferPass hs, hd]
  change runTasks _ (.judge a :: .judge b :: [.close]) s = _
  rw [runTasks_cons]
  change runTasks _ ((judgeItem a s).2 ++ _) (judgeItem a s).1 = _
  rw [hfirst]
  change runTasks _ (.judge b :: [.close]) (sentFromList a x s) = _
  rw [runTasks_cons]
  change runTasks _ ((judgeItem b (sentFromList a x s)).2 ++ _) (judgeItem b (sentFromList a x s)).1 = _
  rw [hsecond]
  exact congrArg some (closeEvent_clear hs)

end Sys2Proof.Machine

namespace Sys2Proof.Proofs
open Sys2Proof.Machine

/-- Settles O18: the outcomes of a promotion, of a pass over one item, and the pass over two. -/
theorem promotionAndPassFollowTheVerdict : Obligations.PromotionAndPassFollowTheVerdict := by
  refine ⟨?_, ?_, ?_⟩
  · intro s e en hs he hr hh p v put
    refine ⟨promoteEvent_done hs he hr hh, fun hp => ⟨fun hv hw => ⟨promoteEvent_pass hs he hr hh hp hv hw,
      promoteEvent_pass_full hs he hr hh hp hv hw⟩, fun i lim hv => ⟨fun hl => ?_, promoteEvent_defer_full hs he hr hh hp hv⟩,
      fun r n hv => promoteEvent_refuse hs he hr hh hp hv⟩⟩
    refine ⟨_, promoteEvent_defer hs he hr hh hp hv hl, ?_⟩
    simp only [closeEvent_entries, closeEvent_ilk, closeEvent_chi_deq, closeEvent_chi_ugq, closeEvent_stb, closeEvent_ptb,
      closeEvent_rcs, closeEvent_idx, closeEvent_fcu, lmnEvent_mrt, lmnEvent_ilk, lmnEvent_chi, lmnEvent_stb, lmnEvent_ptb,
      lmnEvent_rcs, lmnEvent_idx, lmnEvent_fcu]
    exact ⟨rfl, trivial, rfl, rfl, rfl, rfl, rfl, rfl, rfl⟩
  · rintro s e en it hs hd rfl he hes p v put
    have hkeep : ∀ l, put .deferred l = { planned it.entry en s with ilk := { s.ilk with deferred := l } } := fun l => by
      have hpe : { planEntry s en with estate := .deferred } = planEntry s en := by rw [← hes, ← planEntry_estate s en]
      simp only [put, p, hpe]
      rfl
    refine ⟨passEvent_done hs hd he, fun hp => ⟨fun hv hh => ?_, fun hv hh hw hl => ?_, fun i lim hv => ?_,
      fun r n hv => passEvent_refuse hs hd he hp hv⟩⟩
    · rw [hkeep, ← hd]
      exact passEvent_pass_held hs hd he hp hv hh
    · have hnil : s.ilk.deferred.filter (fun d => d.entry != it.entry) = [] := by simp [hd]
      rw [passEvent_pass hs hd he hp hes hv hh hw hl]
      simp only [sentFromList, sentState, dropDeferred, hnil]
      rfl
    · rw [hkeep]
      exact passEvent_defer hs hd he hp hv
  · intro s a b x y hs hd hab ha hb hxy hxs hys hi hxc hyc hxp hyp hw hl
    refine ⟨_, passEvent_two hs hd hab ha hb hxy hxs hys hi hxc hyc hxp hyp hw hl, ?_, ?_⟩
    · simp only [sentFromList, sentState, dropDeferred, hd]
      simp [hab.symm]
    · exact List.append_assoc _ [_] [_]

end Sys2Proof.Proofs
end

section
namespace Sys2Proof.Machine

/-! ### The transmitter of port B (R16, R17) -/

section
variable {s : State}

theorem pastImage_of_free (h : PortBFree s) : pastImage s true = true := by
  simp [pastImage, h.1, h.2]

/-- R16, R112: the UGQ head goes out and its entry gets the stop limit. -/
theorem exec_stopAbortTransmit {u : UgqItem} {rest : List UgqItem} (hs : Running s) (hf : PortBFree s)
    (hu : s.chi.ugq = u :: rest) : exec (.stopAbortTransmit true) s = .next (transmitStop u rest s) := by
  have hev : (transmitStop u rest s).ev = clearWithin := by
    unfold transmitStop
    split <;> exact hs.1
  change execStopAbortTransmit true s = _
  simp only [execStopAbortTransmit, hu]
  exact whenOut_only hs.2 (pastImage_of_free hf) hev

theorem exec_deqTransmit {d : DeqItem} {rest : List DeqItem} (hs : Running s) (hf : PortBFree s) (hu : s.chi.ugq = [])
    (hd : s.chi.deq = d :: rest) : exec (.deqTransmit true) s = conclude (transmitHead d rest s) := by
  change execDeqTransmit true s = _
  simp only [execDeqTransmit, hd]
  exact whenOut_true hs.2 (by simp [pastImage_of_free hf, hu])

end

/-- R17: the DEQ head has left the DEQ and is being sent. -/
def headSent (d : DeqItem) (rest : List DeqItem) (s : State) : State :=
  { s with chi := { s.chi with b := { s.chi.b with tx := some d.msg }, deq := rest } }

/-- R122: the entry of the DEQ head, if it has one, becomes ISSUED. -/
def issueHead (e : Option EntryNo) (s : State) : State :=
  match e with
  | some e => issueEntry e s
  | none => s

section
variable {s : State} {d : DeqItem} {rest : List DeqItem} {e : EntryNo} {en : Entry} {st : Stn}

theorem transmitHead_passes (h : lateCheck s d.msg = none) :
    transmitHead d rest s = transmitted d.msg d.entry (issueHead d.entry (headSent d rest s)) := by
  simp only [transmitHead, h]
  cases d.entry <;> rfl

theorem lateCheck_other (h : judgedMsg? d.msg = none) : lateCheck s d.msg = none := by simp [lateCheck, h]

theorem lateCheck_judged {j : Judged} (hj : judgedMsg? d.msg = some j) (hst : d.msg.station.toNat = st.val) :
    lateCheck s d.msg = hardCheck s st j := by
  simp [lateCheck, hj, stn?_eq_some.2 hst]

/-- R122: an entry ISSUED with a deadline `ms` from now. -/
def issuedFor (ms : Nat) (e : EntryNo) (en : Entry) (s : State) : State :=
  s.setEntry e (some { en with estate := .issued, deadline := some (s.mga.time + BitVec.ofNat 32 ms) })

theorem issueHead_entry (he : s.entry? e = some en) : issueHead (some e) s = issuedFor (commandDuration s en) e en s := by
  simp only [issueHead, issueEntry, he]
  rw [modEntry_eq_setEntry he]
  rfl

theorem exec_deqTransmit_passes (hs : Running s) (hf : PortBFree s) (hu : s.chi.ugq = []) (hd : s.chi.deq = d :: rest)
    (hl : lateCheck s d.msg = none) :
    exec (.deqTransmit true) s = conclude (transmitted d.msg d.entry (issueHead d.entry (headSent d rest s))) := by
  rw [exec_deqTransmit hs hf hu hd, transmitHead_passes hl]

/-! #### What a transmitted message does (R29, R71, R73) -/

section
variable {m : Msg} {o : Option EntryNo}

theorem transmitted_plain (hc : m.kind ≠ kClamp) (hr : m.kind ≠ kRelease) (hj : m.kind ≠ kJog) : transmitted m o s = only s := by
  unfold transmitted
  split
  · rfl
  · rw [if_neg hc, if_neg hr, if_neg hj]

theorem transmitted_clamp (hst : m.station.toNat = st.val) (hk : m.kind = kClamp) :
    transmitted m o s = only (s.modStn st (fun r => { r with commanded := some (argPattern m) })) := by
  simp only [transmitted, stn?_eq_some.2 hst]
  rw [if_pos hk]

theorem transmitted_release (hst : m.station.toNat = st.val) (hk : m.kind = kRelease) :
    transmitted m o s = releaseTransmitted st m.argA (noteReleased o ((releasedTag s st).map (·.1)) s) := by
  simp only [transmitted, stn?_eq_some.2 hst]
  rw [if_neg (by rw [hk]; decide), if_pos hk]

theorem transmitted_jog (hst : m.station.toNat = st.val) (hk : m.kind = kJog) :
    transmitted m o s = only (clearReference st s) := by
  simp only [transmitted, stn?_eq_some.2 hst]
  rw [if_neg (by rw [hk]; decide), if_neg (by rw [hk]; decide), if_pos hk]

end

theorem upd_of_fixed {α : Type} {n : Nat} {v : Vector α n} {i : Fin n} {f : α → α} (h : f (v.get i) = v.get i) :
    upd v i f = v :=
  vector_ext_get fun j => by
    rw [upd_get]
    split
    next hj => rw [h, hj]
    next => rfl

/-- R71: outside AUTO a loss of reference does nothing else. -/
theorem clearReference_manual (h : (s.station st).mode ≠ .auto) :
    clearReference st s = s.modStn st (fun r => { r with referenced := false }) := by
  unfold clearReference
  split
  · have hm : ((s.modStn st (fun r => { r with referenced := false })).station st).mode ≠ .auto := by
      rw [State.modStn_station, if_pos rfl]
      exact h
    have hb : (((s.modStn st (fun r => { r with referenced := false })).station st).mode == .auto) = false := by simpa using hm
    simp [refLost, hb]
  next hr =>
    have hfix : upd s.stb.stn st (fun r => { r with referenced := false }) = s.stb.stn := upd_of_fixed (by
      have : (s.stb.stn.get st).referenced = false := by simpa [State.station] using hr
      rw [← this])
    rw [State.modStn, hfix]

/-! #### The judged kinds (R17) -/

theorem judged_of_none {m : Msg} (h : judgedMsg? m = none) :
    m.kind ≠ kMove ∧ m.kind ≠ kClamp ∧ m.kind ≠ kCycle ∧ m.kind ≠ kRelease := by
  unfold judgedMsg? at h
  split_ifs at h with h1 h2 h3 h4
  exact ⟨h1, h2, h3, h4⟩

theorem judged_move {m : Msg} (h : m.kind = kMove) : judgedMsg? m = some .move := if_pos h

theorem judged_clamp {m : Msg} (h : m.kind = kClamp) : judgedMsg? m = some (.clamp (argPattern m)) := by
  simp [judgedMsg?, h]

theorem judged_cycle {m : Msg} (h : m.kind = kCycle) : judgedMsg? m = some .cycle := by
  simp [judgedMsg?, h]

theorem judged_release {m : Msg} (h : m.kind = kRelease) : judgedMsg? m = some .release := by
  simp [judgedMsg?, h]

theorem judged_jog {m : Msg} (h : m.kind = kJog) : judgedMsg? m = none := by
  simp [judgedMsg?, h]

end

/-! ### Port B's transmissions that do nothing more -/

section
variable {s : State} {d : DeqItem} {rest : List DeqItem} {st : Stn} (hs : Running s) (hf : PortBFree s) (hu : s.chi.ugq = [])
  (hd : s.chi.deq = d :: rest)
include hs hf hu hd

theorem deqTransmit_plain (hj : judgedMsg? d.msg = none) (hk : d.msg.kind ≠ kJog) (he : d.entry = none) :
    exec (.deqTransmit true) s = .next (headSent d rest s) := by
  obtain ⟨-, hc, -, hr⟩ := judged_of_none hj
  rw [exec_deqTransmit_passes hs hf hu hd (lateCheck_other hj), transmitted_plain hc hr hk, he]
  exact conclude_only_clear hs.1

theorem deqTransmit_late {j : Judged} {n : Nat} (hst : d.msg.stn? = some st) (hj : judgedMsg? d.msg = some j)
    (hh : hardCheck s st j = some n) (he : d.entry = none) : exec (.deqTransmit true) s = .next
      (closeEvent (occur fInterlockLate (some st) d.msg.pallet { s with chi := { s.chi with deq := rest } })) := by
  have hl : lateCheck s d.msg = some n := by simp [lateCheck, hj, hst, hh]
  have hhead : transmitHead d rest s
      = only (occur fInterlockLate (some st) d.msg.pallet { s with chi := { s.chi with deq := rest } }) := by
    simp only [transmitHead, hl, he, hst]
    rfl
  rw [exec_deqTransmit hs hf hu hd, hhead]
  exact conclude_only (by rw [occur_ev_passDue]; exact congrArg Within.passDue hs.1)

theorem deqTransmit_jog (hst : d.msg.station.toNat = st.val) (hk : d.msg.kind = kJog) (he : d.entry = none)
    (hm : (s.station st).mode ≠ .auto) : exec (.deqTransmit true) s
      = .next ((headSent d rest s).modStn st (fun r => { r with referenced := false })) := by
  rw [exec_deqTransmit_passes hs hf hu hd (lateCheck_other (judged_jog hk)), transmitted_jog hst hk, he, issueHead,
    clearReference_manual (by exact hm)]
  exact conclude_only_clear hs.1

variable {e : EntryNo} {en : Entry} (hde : d.entry = some e) (he : s.entry? e = some en)
include hde he

/-- R110, R111, R122: a MOVE or CYCLE of an entry makes it ISSUED for the duration of its command. -/
theorem deqTransmit_issues {j : Judged} {ms : Nat} (hst : d.msg.station.toNat = st.val) (hj : judgedMsg? d.msg = some j)
    (hh : hardCheck s st j = none) (hk : d.msg.kind = kMove ∨ d.msg.kind = kCycle) (hms : commandDuration s en = ms) :
    exec (.deqTransmit true) s = .next (issuedFor ms e en (headSent d rest s)) := by
  have hpl : d.msg.kind ≠ kClamp ∧ d.msg.kind ≠ kRelease ∧ d.msg.kind ≠ kJog := by
    rcases hk with h | h <;> rw [h] <;> decide
  rw [exec_deqTransmit_passes hs hf hu hd ((lateCheck_judged hj hst).trans hh), transmitted_plain hpl.1 hpl.2.1 hpl.2.2, hde,
    issueHead_entry (show (headSent d rest s).entry? e = some en from he), ← hms]
  exact conclude_only_clear hs.1

/-- R73, R122: a CLAMP of an entry. -/
theorem deqTransmit_clamp {p : Pattern} (hst : d.msg.station.toNat = st.val) (hk : d.msg.kind = kClamp)
    (hen : en.station = st) (hp : en.params = .clamp p) (hh : hardCheck s st (.clamp (argPattern d.msg)) = none) :
    exec (.deqTransmit true) s = .next ((issuedFor (s.station st).cfg.clampLimit e en (headSent d rest s)).modStn st
      (fun r => { r with commanded := some (argPattern d.msg) })) := by
  have hms : commandDuration (headSent d rest s) en = (s.station st).cfg.clampLimit := by
    simp only [commandDuration, hp, hen]
    rfl
  rw [exec_deqTransmit_passes hs hf hu hd ((lateCheck_judged (judged_clamp hk) hst).trans hh), transmitted_clamp hst hk, hde,
    issueHead_entry (show (headSent d rest s).entry? e = some en from he), hms]
  exact conclude_only_clear hs.1

end

/-! #### The durations (R110, R111) -/

section
variable {s : State} {en : Entry}

theorem commandDuration_move {k : Fin 8} {g : Angle} {p : Plan} {n : Nat} (hp : en.params = .move k g (some p))
    (ht : p.timeout = some n) : commandDuration s en = n := by
  simp [commandDuration, hp, ht]

theorem commandDuration_dispatched {n : Word} {p : Word} {lim : Nat} {tag : Tag} {r : Record} {step : RouteStep} {op : Operation}
    (hp : en.params = .cycle n p (some lim)) (ht : (s.proc en.station).pallet = some tag) (hr : s.record? tag = some r)
    (hc : currentStep s r = some step) (ho : step.op? p.toNat = some op) : commandDuration s en = op.limit * 100 := by
  simp [commandDuration, hp, processOperation, ht, hr, hc, ho]

theorem namedOperation_eq_some {st : Stn} {n : Nat} {op : Operation} : namedOperation s st n = some op ↔
    ∃ tag r step, (s.station st).occupant = .tracked tag ∧ s.record? tag = some r ∧ r.rstate = .present st
      ∧ currentStep s r = some step ∧ step.op? n = some op := by
  have hocc : ∀ tag, s.trackedOcc st = some tag ↔ (s.station st).occupant = .tracked tag := fun tag => by
    unfold State.trackedOcc Occupant.tracked?
    cases (s.station st).occupant <;> simp
  simp only [namedOperation, Option.bind_eq_some_iff, hocc]
  constructor
  · rintro ⟨tag, ht, r, hr, h⟩
    split_ifs at h with hp
    obtain ⟨step, hc, ho⟩ := Option.bind_eq_some_iff.1 h
    exact ⟨tag, r, step, ht, hr, hp, hc, ho⟩
  · rintro ⟨tag, r, step, ht, hr, hp, hc, ho⟩
    exact ⟨tag, ht, r, hr, by rw [if_pos hp]; exact Option.bind_eq_some_iff.2 ⟨step, hc, ho⟩⟩

theorem commandDuration_named {n p : Word} {op : Operation} (hp : en.params = .cycle n p none)
    (ho : namedOperation s en.station p.toNat = some op) : commandDuration s en = op.limit * 100 := by
  simp [commandDuration, hp, ho]

theorem commandDuration_unnamed {n p : Word} (hp : en.params = .cycle n p none)
    (ho : namedOperation s en.station p.toNat = none) : commandDuration s en = 3600000 := by
  simp [commandDuration, hp, ho, Config.longestCycle]

end

end Sys2Proof.Machine
end

section
namespace Sys2Proof.Machine

/-! ### A RELEASE that is transmitted (R29, R30, R32) -/

theorem destStn?_eq_none {w : Word} (h : 16 ≤ w.toNat) : destStn? w = none := dif_neg (by omega)

theorem destStn?_eq_some {w : Word} {x : Stn} (h : w.toNat = x.val) : destStn? w = some x := by
  have := x.isLt
  rw [destStn?, dif_pos (by omega)]
  exact congrArg some (Fin.ext h)

section
variable {s : State} {st : Stn} {i : Slot} {r : Record}

theorem slotOf_of_hasRecord (h : HasRecord r.tag i r s) : slotOf s r.tag = some i := by
  obtain ⟨hi, -, hu⟩ := h
  unfold slotOf
  rw [List.find?_eq_some_iff_getElem]
  refine ⟨by simp [hi], i.val, by simp, by simp, fun j hj => ?_⟩
  have hj48 : j < 48 := by omega
  simp only [List.getElem_finRange]
  cases hq : s.ptb.slots.get (Fin.cast (by simp) (⟨j, by simpa using hj48⟩ : Fin (List.finRange 48).length)) with
  | none => rfl
  | some q =>
    have hne : ¬ q.tag = r.tag := fun ht => by
      have := hu _ _ hq ht
      simp [Fin.ext_iff] at this
      omega
    simpa using hne

theorem record_of_hasRecord (h : HasRecord r.tag i r s) : s.record? r.tag = some r := by
  simp [State.record?, slotOf_of_hasRecord h, h.1]

theorem modRecord_of_hasRecord (h : HasRecord r.tag i r s) (f : Record → Record) :
    modRecord r.tag f s = s.setSlot i (some (f r)) := by
  have hv : upd s.ptb.slots i (Option.map f) = upd s.ptb.slots i (fun _ => some (f r)) := vector_ext_get fun j => by
    simp only [upd_get, h.1, Option.map_some]
  simp only [modRecord, slotOf_of_hasRecord h, State.modSlot, hv]
  rfl

variable (hocc : (s.station st).occupant = .tracked r.tag) (h : HasRecord r.tag i r s) (hp : r.rstate = .present st)
include hocc h hp

theorem releasedTag_present : releasedTag s st = some (r.tag, r) := by
  simp [releasedTag, State.trackedOcc, hocc, Occupant.tracked?, record_of_hasRecord h, hp]

omit hocc h in
theorem leaveOld_present : leaveOld r s = s := by simp [leaveOld, listOf, hp]

/-- R29: the pallet is in TRANSIT toward its destination. -/
def sentTo (dest : Stn) (i : Slot) (r : Record) (s : State) : State :=
  { s with ptb := { s.ptb with
      slots := upd s.ptb.slots i (fun _ => some { r with
        rstate := .transit dest (s.mga.time + BitVec.ofNat 32 (s.station dest).cfg.transitLimit), lastSeen := s.mga.time })
      approach := upd s.ptb.approach dest (fun l => l ++ [r.tag]) } }

theorem releaseTransmitted_room {w : Word} {dest : Stn} (hd : w.toNat = dest.val)
    (hl : (s.ptb.approach.get dest).length < 8) : releaseTransmitted st w s = only (sentTo dest i r s) := by
  have hroom : (s.ptb.approach.get dest).length < Config.approachMax := hl
  have hlist : listOf r = none := by simp [listOf, hp]
  simp only [releaseTransmitted, releasedTag_present hocc h hp, sendToward, hlist, destStn?_eq_some hd, leaveOld_present hp, if_pos hroom,
    modRecord_of_hasRecord h]
  rfl

/-- R30: the pallet's record, LOST with its destination or none. -/
def lostTo (dest : Option Stn) (i : Slot) (r : Record) (s : State) : State := s.setSlot i (some { r with rstate := .lost dest })

theorem releaseTransmitted_lost {w : Word} (hl : ∀ d, destStn? w = some d → 8 ≤ (s.ptb.approach.get d).length) :
    releaseTransmitted st w s
      = (occur fPalletLost (destStn? w) r.tag (lostTo (destStn? w) i r s), [.reroute]) := by
  simp only [releaseTransmitted, releasedTag_present hocc h hp, sendToward, leaveOld_present hp, modRecord_of_hasRecord h]
  cases hd : destStn? w with
  | none => rfl
  | some d =>
    have hroom : ¬ (s.ptb.approach.get d).length < Config.approachMax := Nat.not_lt.2 (hl d hd)
    simp only [if_neg hroom]
    rfl

end

/-! ### Port B's RELEASEs -/

/-- R122, R32: the entry of a transmitted RELEASE, ISSUED and with the tag that it made TRANSIT. -/
def issuedRelease (ms : Nat) (t : Tag) (e : EntryNo) (en : Entry) (s : State) : State :=
  s.setEntry e (some { en with
    estate := .issued, deadline := some (s.mga.time + BitVec.ofNat 32 ms), released := some t })

theorem noteReleased_issuedFor {s : State} {e : EntryNo} {en : Entry} (ms : Nat) (t : Tag) :
    noteReleased (some e) (some t) (issuedFor ms e en s) = issuedRelease ms t e en s := by
  rw [issuedFor, noteReleased, modEntry_eq_setEntry (setEntry_entry_self ..), setEntry_setEntry]
  rfl

section
variable {s : State} {d : DeqItem} {rest : List DeqItem} {st dest : Stn} {i : Slot} {r : Record} (hs : Running s)
  (hf : PortBFree s) (hu : s.chi.ugq = []) (hd : s.chi.deq = d :: rest) (hst : d.msg.station.toNat = st.val)
  (hk : d.msg.kind = kRelease) (hh : hardCheck s st .release = none) (hocc : (s.station st).occupant = .tracked r.tag)
  (h : HasRecord r.tag i r s) (hp : r.rstate = .present st)
include hs hf hu hd hst hk hh

theorem deqTransmit_release : exec (.deqTransmit true) s = conclude (releaseTransmitted st d.msg.argA
    (noteReleased d.entry ((releasedTag (issueHead d.entry (headSent d rest s)) st).map (·.1))
      (issueHead d.entry (headSent d rest s)))) := by
  rw [exec_deqTransmit_passes hs hf hu hd ((lateCheck_judged (judged_release hk) hst).trans hh), transmitted_release hst hk]

variable (hdest : d.msg.argA.toNat = dest.val) (hl : (s.ptb.approach.get dest).length < 8)
include hocc h hp hdest hl

theorem deqTransmit_release_forwarded (he : d.entry = none) :
    exec (.deqTransmit true) s = .next (sentTo dest i r (headSent d rest s)) := by
  rw [deqTransmit_release hs hf hu hd hst hk hh, he]
  change conclude (releaseTransmitted st d.msg.argA (headSent d rest s)) = _
  rw [releaseTransmitted_room (by exact hocc) (by exact h) hp hdest (by exact hl)]
  exact conclude_only_clear hs.1

theorem deqTransmit_release_entry {e : EntryNo} {en : Entry} {w : Word} (hde : d.entry = some e) (he : s.entry? e = some en)
    (hen : en.station = st) (hpar : en.params = .release w) : exec (.deqTransmit true) s
      = .next (sentTo dest i r (issuedRelease (s.station st).cfg.releaseLimit r.tag e en (headSent d rest s))) := by
  have hms : commandDuration (headSent d rest s) en = (s.station st).cfg.releaseLimit := by
    simp only [commandDuration, hpar, hen]
    rfl
  have htag : releasedTag (issuedFor (s.station st).cfg.releaseLimit e en (headSent d rest s)) st = some (r.tag, r) :=
    releasedTag_present hocc h hp
  rw [deqTransmit_release hs hf hu hd hst hk hh, hde, issueHead_entry (show (headSent d rest s).entry? e = some en from he),
    hms, htag, Option.map_some, noteReleased_issuedFor, releaseTransmitted_room (by exact hocc) (by exact h) hp hdest (by exact hl)]
  exact conclude_only_clear hs.1

end

end Sys2Proof.Machine
end

section
namespace Sys2Proof.Machine

/-! ### The waiting producers of the DEQ (R14, R19) -/

section
variable {s : State}

theorem deqRoom_pos (hl : s.chi.deq.length < 16) : 0 < deqRoom s := by
  unfold deqRoom Config.deqCap
  omega

theorem firstSending_of_unique {e : EntryNo} (he : e ∈ sendingWaiters s) (hu : ∀ j ∈ sendingWaiters s, j = e) :
    firstSending s = some e := by
  unfold firstSending
  cases hh : (sortBy (acceptedBefore s) (sendingWaiters s)).head? with
  | none =>
    rw [List.head?_eq_none_iff] at hh
    have := mem_sortBy (before := acceptedBefore s).2 he
    rw [hh] at this
    cases this
  | some j => rw [hu j (mem_sortBy.1 (List.mem_of_head? hh))]

variable (hs : Running s) (hl : s.chi.deq.length < 16)
include hs hl

/-- R19: the lowest station that owes a STATUS_REQ is the first of them. -/
theorem exec_owedStatusReqEnqueue {st : Stn} (hw : sendingWaiters s = []) (ho : s.chi.owed.getLsbD st.val = true)
    (hlow : ∀ x : Stn, x < st → s.chi.owed.getLsbD x.val = false) :
    exec .owedStatusReqEnqueue s = .next (enqueueOwed st s) := by
  have hmem : st ∈ s.chi.owed.members := mem_members.2 ho
  have hsorted : s.chi.owed.members.Pairwise (· < ·) := (List.pairwise_lt_finRange 16).filter _
  change execOwedStatusReqEnqueue s = _
  unfold execOwedStatusReqEnqueue
  cases hm : s.chi.owed.members with
  | nil => rw [hm] at hmem; cases hmem
  | cons x l =>
    rw [hm] at hmem hsorted
    have hx : x = st := by
      rcases List.mem_cons.1 hmem with h | h
      · exact h.symm
      · have hlt := (List.pairwise_cons.1 hsorted).1 st h
        have hin : s.chi.owed.getLsbD x.val = true := mem_members.1 (by rw [hm]; exact List.mem_cons_self)
        rw [hlow x hlt] at hin
        cases hin
    subst hx
    exact whenOut_only hs.2 (by simp [owedRoom, hw, deqRoom_pos hl]) hs.1

theorem exec_sendingEntryEnqueue {e : EntryNo} {en : Entry} (he : s.entry? e = some en) (hes : en.estate = .sending)
    (hno : ∀ q ∈ s.chi.deq, q.entry ≠ some e)
    (hothers : ∀ j q, j ≠ e → s.entry? j = some q → q.estate = .sending → ∃ x ∈ s.chi.deq, x.entry = some j) :
    exec .sendingEntryEnqueue s = .next (pushDeq (commandMsg s en) (some e) s) := by
  have hwait : e ∈ sendingWaiters s := mem_sendingWaiters.2 ⟨en, he, hes, by simpa [inDeq] using hno⟩
  have hunique : ∀ j ∈ sendingWaiters s, j = e := fun j hj => by
    obtain ⟨q, hq, hqs, hd⟩ := mem_sendingWaiters.1 hj
    by_contra hje
    obtain ⟨x, hx, hxe⟩ := hothers j q hje hq hqs
    simp only [inDeq, List.any_eq_false, beq_iff_eq] at hd
    exact hd x hx hxe
  have henq : enqueueCommand e s = pushDeq (commandMsg s en) (some e) s := by simp [enqueueCommand, he]
  change execSendingEntryEnqueue s = _
  simp only [execSendingEntryEnqueue, firstSending_of_unique hwait hunique, henq]
  exact whenOut_only hs.2 (by simp [deqRoom_pos hl]) hs.1

end

end Sys2Proof.Machine
end

section
namespace Sys2Proof.Machine

/-! ### What a fault occurrence leaves of the entries, the processes and the stations (R159, R161) -/

theorem freezeEntry_released (now : Time) (en : Entry) : (freezeEntry now en).released = en.released := by
  unfold freezeEntry; split <;> [rfl; (split <;> rfl); (split <;> rfl); rfl]

theorem freezeEntry_estate (now : Time) {en : Entry} (h : en.estate ≠ .sending) : (freezeEntry now en).estate = en.estate := by
  unfold freezeEntry; split <;> [contradiction; (split <;> rfl); (split <;> rfl); rfl]

theorem holdSettle_holdSettle (p : Process) : p.holdSettle.holdSettle = p.holdSettle := by
  unfold Process.holdSettle
  split_ifs <;> simp_all

/-- An entry that a hold can have begun for: SENDING returns to READY, deadlines freeze. -/
def HoldKeeps (en q : Entry) : Prop :=
  q.station = en.station ∧ q.released = en.released ∧ (en.estate ≠ .sending → q.estate = en.estate)

theorem HoldKeeps.refl (en : Entry) : HoldKeeps en en := ⟨rfl, rfl, fun _ => rfl⟩

theorem holdKeeps_freezeEntry (now : Time) (en : Entry) : HoldKeeps en (freezeEntry now en) :=
  ⟨freezeEntry_station now en, freezeEntry_released now en, freezeEntry_estate now⟩

/-- From `s` to `t` there are at most holds that begin, and `n` notices. -/
structure HoldsOnly (n : Nat) (s t : State) : Prop where
  station : ∀ x, ∃ h c, t.station x = { s.station x with holds := h, stopCauses := c }
  proc : ∀ x, t.proc x = s.proc x ∨ t.proc x = (s.proc x).holdSettle
  entry : ∀ e en, s.entry? e = some en → ∃ q, t.entry? e = some q ∧ HoldKeeps en q
  free : ∀ e, s.entry? e = none → t.entry? e = none
  sub : t.chi.deq.Sublist s.chi.deq
  told : (outgoing t).length ≤ (outgoing s).length + n

theorem HoldsOnly.trans {m n : Nat} {s t u : State} (h : HoldsOnly m s t) (k : HoldsOnly n t u) : HoldsOnly (m + n) s u where
  station x := by
    obtain ⟨a, b, hx⟩ := h.station x
    obtain ⟨c, d, kx⟩ := k.station x
    exact ⟨c, d, by rw [kx, hx]⟩
  proc x := by
    rcases h.proc x with hx | hx <;> rcases k.proc x with kx | kx
    · exact .inl (kx.trans hx)
    · exact .inr (by rw [kx, hx])
    · exact .inr (kx.trans hx)
    · exact .inr (by rw [kx, hx, holdSettle_holdSettle])
  entry e en he := by
    obtain ⟨q, hq, hst, hr, hes⟩ := h.entry e en he
    obtain ⟨p, hp, kst, kr, kes⟩ := k.entry e q hq
    exact ⟨p, hp, kst.trans hst, kr.trans hr, fun hn => (kes (by rwa [hes hn])).trans (hes hn)⟩
  free e he := k.free e (h.free e he)
  sub := k.sub.trans h.sub
  told := by
    have h := h.told
    have k := k.told
    omega

/-- Nothing but notices and changes of other blocks. -/
theorem HoldsOnly.of_same {n : Nat} {s t : State} (hb : t.stb = s.stb) (hp : t.idx = s.idx)
    (he : t.mrt.entries = s.mrt.entries) (hq : t.chi.deq = s.chi.deq) (ho : (outgoing t).length ≤ (outgoing s).length + n) :
    HoldsOnly n s t where
  station x := ⟨(s.station x).holds, (s.station x).stopCauses, by simp only [State.station, hb]⟩
  proc x := .inl (by simp only [State.proc, hp])
  entry e en h := ⟨en, by simpa only [State.entry?, he] using h, .refl en⟩
  free e h := by simpa only [State.entry?, he] using h
  sub := by rw [hq]
  told := ho

theorem outgoing_notice_length (ev : Event) (st : Byte) (p : Tag) (d : Nat) (s : State) :
    (outgoing (notice ev st p d s)).length ≤ (outgoing s).length + 1 := by
  rcases notice_outgoing ev st p d s with h | ⟨m, h⟩ <;> simp only [outgoing, h, List.length_append, List.length_singleton] <;>
    omega

theorem holdsOnly_notice (ev : Event) (st : Byte) (p : Tag) (d : Nat) (s : State) : HoldsOnly 1 s (notice ev st p d s) :=
  .of_same (notice_stb ..) (notice_idx ..) (notice_entries ..) (notice_chi_deq ..) (outgoing_notice_length ..)

theorem withHolds_entry (f : Stn → Station → Station) (s : State) (e : EntryNo) :
    (withHolds f s).entry? e = s.entry? e := by
  simp only [withHolds, State.entry?]

theorem withHolds_proc (f : Stn → Station → Station) (s : State) (x : Stn) : (withHolds f s).proc x = s.proc x := by
  simp only [withHolds, State.proc]

/-- New hold causes that change nothing else of a station. -/
theorem holdsOnly_changeHolds {f : Stn → Station → Station} (hf : ∀ x r, ∃ h c, f x r = { r with holds := h, stopCauses := c })
    (s : State) : HoldsOnly 0 s (changeHolds f s).1 := by
  have hb := holdsBegin_changeHolds f s
  have hent : ∀ e x, s.entry? e = x → (withHolds f s).entry? e = x := fun e x he => (withHolds_entry f s e).trans he
  have hout : outgoing (changeHolds f s).1 = outgoing s := by rw [hb.frame]; rfl
  refine ⟨fun x => changeHolds_station f s x ▸ hf x (s.station x), fun x => ?_, fun e en he => ?_, fun e he => hb.free e (hent e _ he), hb.sub,
    (congrArg List.length hout).le⟩
  · rw [← withHolds_proc f s x]
    by_cases hx : s.held x = false ∧ (f x (s.station x)).held = true
    · exact .inr (hb.settling x hx)
    · exact .inl (hb.procs x hx)
  · by_cases hx : s.held en.station = false ∧ (f en.station (s.station en.station)).held = true
    · exact ⟨_, hb.frozen e en (hent e _ he) hx, holdKeeps_freezeEntry ..⟩
    · exact ⟨en, hb.kept e en (hent e _ he) hx, .refl en⟩

theorem holdsOnly_zoneAdd (z : Zone) (c : ZoneCauses) (s : State) : HoldsOnly 1 s (zoneAdd z c s) := by
  have hset : HoldsOnly 0 s (s.setZone z { s.zone z with causes := (s.zone z).causes.union c }) := by
    cases z <;> exact .of_same rfl rfl rfl rfl le_rfl
  have htrap : ∀ x r, ∃ h k, setTrap z true x r = { r with holds := h, stopCauses := k } := fun x r => by
    unfold setTrap
    split
    · exact ⟨_, _, rfl⟩
    · exact ⟨r.holds, r.stopCauses, rfl⟩
  unfold zoneAdd
  dsimp only
  split
  · exact (hset.trans (holdsOnly_changeHolds htrap _)).trans (holdsOnly_notice ..)
  · exact { hset with told := hset.told.trans (by omega) }

theorem holdsOnly_modFaultRec (k : FaultKind) (f : FaultRec → FaultRec) (s : State) : HoldsOnly 0 s (s.modFaultRec k f) :=
  .of_same rfl rfl rfl rfl le_rfl

theorem holdsOnly_trapForFault (k : FaultKind) (z : Zone) (s : State) : HoldsOnly 1 s (trapForFault k z s) := by
  unfold trapForFault
  exact (holdsOnly_modFaultRec k _ s).trans (holdsOnly_zoneAdd z _ _)

theorem holdsOnly_lineTrap (k : FaultKind) (s : State) : HoldsOnly 2 s (lineTrap k s) :=
  (holdsOnly_trapForFault k .a s).trans (holdsOnly_trapForFault k .b _)

theorem HoldsOnly.mono {m n : Nat} {s t : State} (h : HoldsOnly m s t) (hmn : m ≤ n) : HoldsOnly n s t :=
  { h with told := by have := h.told; omega }

theorem stopStation_holds (k : FaultKind) (st x : Stn) (r : Station) :
    ∃ h c, stopStation k st x r = { r with holds := h, stopCauses := c } := by
  unfold stopStation
  split
  · exact ⟨_, _, rfl⟩
  · exact ⟨r.holds, r.stopCauses, rfl⟩

theorem holdsOnly_react (k : FaultKind) (l : Level) (st : Option Stn) (s : State) : HoldsOnly 2 s (react k l st s) := by
  unfold react
  split
  · exact .of_same rfl rfl rfl rfl (by omega)
  · exact (holdsOnly_changeHolds (stopStation_holds k _) s).mono (by omega)
  · exact (holdsOnly_trapForFault ..).mono (by omega)
  · exact (holdsOnly_lineTrap k s).trans (n := 0) (.of_same rfl rfl rfl rfl le_rfl)
  · exact holdsOnly_lineTrap k s

theorem holdsOnly_recordFault (k : FaultKind) (st : Option Stn) (p : Tag) (s : State) :
    HoldsOnly 1 s (recordFault k st p s) := by
  unfold recordFault
  dsimp only
  split
  · exact .of_same rfl rfl rfl rfl (Nat.le_add_right ..)
  · exact (holdsOnly_modFaultRec k _ s).trans (holdsOnly_notice ..)

/-- R159, R161: an occurrence begins holds and sends at most three notices. -/
theorem holdsOnly_occur (k : FaultKind) (st : Option Stn) (p : Tag) (s : State) : HoldsOnly 3 s (occur k st p s) :=
  (holdsOnly_recordFault k st p s).trans (holdsOnly_react ..)

/-! #### By the level of the reaction (R159) -/

/-- The level applied is that of the kind's record. -/
theorem occur_level (k : FaultKind) (st : Option Stn) (p : Tag) (s : State) : occur k st p s
    = react k ((occur k st p s).faultRec k).level st (recordFault k st p s) := by
  obtain ⟨⟨z, hz⟩, -⟩ := listsZones_react k ((recordFault k st p s).faultRec k).level st (recordFault k st p s)
  have hl : ((occur k st p s).faultRec k).level = ((recordFault k st p s).faultRec k).level := by
    unfold occur
    rw [hz]
  rw [hl]
  rfl

section
variable {k : FaultKind} {st : Option Stn} {p : Tag} {s : State}

theorem occur_report (h : ((occur k st p s).faultRec k).level = .report) : occur k st p s = recordFault k st p s := by
  rw [occur_level, h]
  rfl

theorem occur_stationStop {x : Stn} (h : ((occur k (some x) p s).faultRec k).level = .stationStop) :
    occur k (some x) p s = (changeHolds (stopStation k x) (recordFault k (some x) p s)).1 := by
  rw [occur_level, h]
  rfl

end

end Sys2Proof.Machine
end

section
namespace Sys2Proof.Machine

/-! ### A fault at a freeing (R130, R159) -/

theorem NothingFollows.of_holdsOnly {n : Nat} {st : Stn} {y z : State} (h : NothingFollows st y) (k : HoldsOnly n y z)
    (hc : z.ev.diqClaim = y.ev.diqClaim) : NothingFollows st z where
  noEntry := by
    refine hasEntry_eq_false.2 fun e q hq hst => ?_
    cases hy : y.entry? e with
    | none =>
      rw [k.free e hy] at hq
      cases hq
    | some en =>
      obtain ⟨q', hq', hs, -, -⟩ := k.entry e en hy
      cases hq.symm.trans hq'
      exact hasEntry_eq_false.1 h.noEntry e en hy (hs.symm.trans hst)
  noMode := by
    obtain ⟨a, b, hx⟩ := k.station st
    rw [hx]
    exact h.noMode
  idle x := by
    have hy := h.idle x
    rcases k.proc x with hx | hx
    · rwa [hx]
    · rw [hx, Process.holdSettle]
      split <;> exact hy
  room := by
    obtain ⟨e, he⟩ := freeEntry_isSome.1 h.room
    exact freeEntry_isSome.2 ⟨e, k.free e he⟩
  claim := hc.trans h.claim

theorem Raises.from_fcu {k : FaultKind} {st : Option Stn} {p : Tag} {r s t : State} (h : Raises k st p s t)
    (hf : s.fcu = r.fcu) : Raises k st p r t := by
  simpa only [Raises, faultRec_of_fcu hf] using h

/-! #### A hold of stations without entries (R121) -/

theorem hasEntry_beginHold {s : State} {st x : Stn} (h : hasEntry s x = false) : hasEntry (beginHold st s) x = false := by
  rw [hasEntry_eq_false] at h ⊢
  intro e q hq hst
  rw [beginHold_entry] at hq
  obtain ⟨en, hen, rfl⟩ := Option.map_eq_some_iff.1 hq
  refine h e en hen ?_
  rw [← hst]
  split
  · exact (freezeEntry_station ..).symm
  · rfl

theorem beginHold_deq {s : State} {st : Stn} (h : hasEntry s st = false) : (beginHold st s).chi.deq = s.chi.deq := by
  have hnil : sendingOf s st = [] := List.eq_nil_iff_forall_not_mem.2 fun e he => by
    obtain ⟨en, hen, hst, -⟩ := mem_sendingOf.1 he
    exact hasEntry_eq_false.1 h e en hen hst
  rw [beginHold_eq, hnil]
  simp

theorem foldl_beginHold_deq {l : List Stn} {s : State} (h : ∀ x ∈ l, hasEntry s x = false) :
    (l.foldl (fun s st => beginHold st s) s).chi.deq = s.chi.deq := by
  induction l generalizing s with
  | nil => rfl
  | cons x l ih =>
    rw [List.foldl_cons, ih fun y hy => hasEntry_beginHold (h y (List.mem_cons_of_mem x hy)), beginHold_deq (h x List.mem_cons_self)]

/-- R159: a STATION_STOP of a station without entries holds that station and touches no command. -/
theorem stationStop_noEntry {k : FaultKind} {st : Stn} {s : State} (h : hasEntry s st = false) :
    (changeHolds (stopStation k st) s).1.chi.deq = s.chi.deq
      ∧ ∀ e, (changeHolds (stopStation k st) s).1.entry? e = s.entry? e := by
  have hb := holdsBegin_changeHolds (stopStation k st) s
  have honly : ∀ x, s.held x = false ∧ (stopStation k st x (s.station x)).held = true → x = st := fun x hx => by
    by_contra hne
    rw [stopStation, if_neg hne] at hx
    exact absurd hx.2 (by rw [show (s.station x).held = s.held x from rfl, hx.1]; decide)
  constructor
  · refine foldl_beginHold_deq fun x hx => ?_
    have hheld : (withHolds (stopStation k st) s).held x = (stopStation k st x (s.station x)).held :=
      congrArg Station.held (withHolds_station _ s x)
    have hx' := mem_where.1 hx
    rw [Bool.and_eq_true, Bool.not_eq_true'] at hx'
    obtain rfl := honly x ⟨hx'.1, hheld ▸ hx'.2⟩
    rw [hasEntry_eq_false] at h ⊢
    exact fun e en he => h e en ((withHolds_entry (stopStation k x) s e).symm.trans he)
  · intro e
    cases he : s.entry? e with
    | none => exact hb.free e ((withHolds_entry ..).trans he)
    | some en =>
      refine hb.kept e en ((withHolds_entry ..).trans he) fun hx => ?_
      exact hasEntry_eq_false.1 h e en he (honly _ hx)

theorem hasEntry_recordFault {k : FaultKind} {o : Option Stn} {p : Tag} {s : State} {st : Stn} (h : hasEntry s st = false) :
    hasEntry (recordFault k o p s) st = false := by
  rw [hasEntry_eq_false] at h ⊢
  intro e en he
  refine h e en ?_
  rw [← he]
  simp only [State.entry?, recordFault_entries]

theorem recordFault_entry (k : FaultKind) (o : Option Stn) (p : Tag) (s : State) (e : EntryNo) :
    (recordFault k o p s).entry? e = s.entry? e := by
  simp only [State.entry?, recordFault_entries]

/-! ### A command of an entry discarded at its transmission (R17, R130) -/

/-- R17, R130: the entry is freed FAILED with INTERLOCK_LATE, before that is told. -/
def lateFreed (e : EntryNo) (en : Entry) (s : State) : State :=
  occur fInterlockLate (some en.station) en.pallet (entryRemoved e en .interlockLate s)

/-- R131: the end of the event in which the entry was freed. -/
def lateTold (e : EntryNo) (en : Entry) (s : State) : State :=
  closeEvent (notice .command (stnByte en.station) en.pallet (32 * cmdNo (paramsKind en.params) + 10) (lateFreed e en s))

section
variable {e : EntryNo} {en : Entry} {s : State}

theorem lateTold_entry (j : EntryNo) : (lateTold e en s).entry? j = (lateFreed e en s).entry? j := by
  simp only [State.entry?, lateTold, closeEvent_entries, notice_entries]

theorem lateTold_fcu : (lateTold e en s).fcu = (lateFreed e en s).fcu := by
  simp only [lateTold, closeEvent_fcu, notice_fcu]

theorem entryRemoved_entry (how : Ending) (j : EntryNo) : (entryRemoved e en how s).entry? j = (s.setEntry e none).entry? j := by
  have hn := noticesOnly_entryRemoved e en how s
  rw [hn]
  rfl

theorem holdsOnly_lateFreed : HoldsOnly 3 (entryRemoved e en .interlockLate s) (lateFreed e en s) := holdsOnly_occur ..

theorem entryRemoved_deq (how : Ending) :
    (entryRemoved e en how s).chi.deq = s.chi.deq.filter (fun q => q.entry != some e) := by
  have hn := noticesOnly_entryRemoved e en how s
  rw [hn]
  rfl

theorem raises_lateFreed : Raises 17 (some en.station) en.pallet s (lateFreed e en s) := by
  have hf : (entryRemoved e en .interlockLate s).fcu = s.fcu := by
    have hn := noticesOnly_entryRemoved e en .interlockLate s
    rw [hn]
    rfl
  exact (raises_occur fInterlockLate (some en.station) en.pallet (entryRemoved e en .interlockLate s)).from_fcu hf

theorem lateFreed_outgoing : (outgoing (lateFreed e en s)).length ≤ s.chi.nq.length + s.mrt.kept.length + 3 := by
  refine (holdsOnly_lateFreed (e := e) (en := en) (s := s)).told.trans (le_of_eq ?_)
  simp only [outgoing, entryRemoved_nq, entryRemoved_kept, List.length_append]

end

end Sys2Proof.Machine
end

section
namespace Sys2Proof.Machine

/-! ### The event of a discarded command (R17, R130, R131) -/

/-- R17: the DEQ without the message that is discarded. -/
def headGone (rest : List DeqItem) (s : State) : State := { s with chi := { s.chi with deq := rest } }

section
variable {s : State} {d : DeqItem} {rest : List DeqItem} {e : EntryNo} {en : Entry} {j : Judged} {n : Nat}

theorem deqTransmit_lateEntry (hs : Running s) (hf : PortBFree s) (hu : s.chi.ugq = []) (hd : s.chi.deq = d :: rest)
    (hde : d.entry = some e) (he : s.entry? e = some en) (hst : d.msg.station.toNat = en.station.val)
    (hj : judgedMsg? d.msg = some j) (hh : hardCheck s en.station j = some n) (ha : LeavesAlone e en s) :
    exec (.deqTransmit true) s = .next (lateTold e en (headGone rest s)) := by
  have hhead : transmitHead d rest s = (headGone rest s, [.free e .interlockLate]) := by
    simp only [transmitHead, (lateCheck_judged hj hst).trans hh, hde]
    rfl
  have he' : (headGone rest s).entry? e = some en := he
  have hclaim : s.ev.diqClaim = false := congrArg Within.diqClaim hs.1
  have hremoved : NothingFollows en.station (entryRemoved e en .interlockLate (headGone rest s)) :=
    (nothingFollows_withoutEntry (s := headGone rest s) ha hclaim).of_noticesOnly (noticesOnly_entryRemoved ..)
      (entryRemoved_diqClaim _ _ _ _ hclaim ha.2.2.2.2)
  have hfollow : NothingFollows en.station (lateFreed e en (headGone rest s)) :=
    hremoved.of_holdsOnly holdsOnly_lateFreed (occur_ev_diqClaim ..)
  have hpass : (notice .command (stnByte en.station) en.pallet (32 * cmdNo (paramsKind en.params) + 10)
      (lateFreed e en (headGone rest s))).ev.passDue = false := by
    rw [notice_ev_passDue, lateFreed, occur_ev_passDue, entryRemoved_passDue]
    exact congrArg Within.passDue hs.1
  have hlen := length_followTasks en
  rw [exec_deqTransmit hs hf hu hd, hhead]
  refine conclude_of_run (n := 0 + 2 + (followTasks en).length + 1 + 1) ?_ (le_cascadeBound (by omega))
  change runTasks _ (.free e .interlockLate :: [.deferPass, .close]) (headGone rest s) = _
  rw [runTasks_cons]
  change runTasks _ ((freeEntryStep e .interlockLate (headGone rest s)).2 ++ _) (freeEntryStep e .interlockLate (headGone rest s)).1 = _
  rw [freeEntryStep_eq he']
  change runTasks _ (freeTasks en .interlockLate ++ _) (lateFreed e en (headGone rest s)) = _
  rw [runTasks_freeTasks ha.1 (by simp) hfollow]
  exact run_end 0 hpass

end

section
variable {e : EntryNo} {en : Entry} {s : State}

theorem lateTold_gone : (lateTold e en s).entry? e = none := by
  rw [lateTold_entry]
  exact (holdsOnly_lateFreed).free e ((entryRemoved_entry ..).trans (setEntry_entry_self ..))

theorem lateTold_free {k : EntryNo} (h : s.entry? k = none) : (lateTold e en s).entry? k = none := by
  by_cases hk : k = e
  · exact hk ▸ lateTold_gone
  · rw [lateTold_entry]
    exact (holdsOnly_lateFreed).free k (((entryRemoved_entry ..).trans (setEntry_entry_ne hk)).trans h)

theorem lateTold_deq : (lateTold e en s).chi.deq = (lateFreed e en s).chi.deq := by
  simp only [lateTold, closeEvent_chi_deq, notice_chi_deq]

theorem lateTold_sublist : (lateTold e en s).chi.deq.Sublist (s.chi.deq.filter (fun q => q.entry != some e)) := by
  rw [lateTold_deq, ← entryRemoved_deq (en := en) .interlockLate]
  exact (holdsOnly_lateFreed).sub

/-- R121, R159: a REPORT or a STATION_STOP of the station touches no other entry and no command. -/
theorem lateTold_mild (ha : ∀ j q, s.entry? j = some q → q.station = en.station → j = e)
    (hl : ((lateTold e en s).faultRec 17).level = .report ∨ ((lateTold e en s).faultRec 17).level = .stationStop) :
    (lateTold e en s).chi.deq = s.chi.deq.filter (fun q => q.entry != some e)
      ∧ ∀ k, k ≠ e → (lateTold e en s).entry? k = s.entry? k := by
  have hnone : hasEntry (entryRemoved e en .interlockLate s) en.station = false := by
    refine hasEntry_eq_false.2 fun j q hj hst => ?_
    rw [entryRemoved_entry] at hj
    by_cases hje : j = e
    · subst hje
      rw [setEntry_entry_self] at hj
      cases hj
    · exact hje (ha j q ((setEntry_entry_ne hje).symm.trans hj) hst)
  have hsame : (lateFreed e en s).chi.deq = (entryRemoved e en .interlockLate s).chi.deq
      ∧ ∀ k, (lateFreed e en s).entry? k = (entryRemoved e en .interlockLate s).entry? k := by
    rw [faultRec_of_fcu lateTold_fcu] at hl
    rcases hl with hl | hl
    · rw [lateFreed, occur_report hl]
      exact ⟨recordFault_chi_deq .., fun _ => recordFault_entry ..⟩
    · obtain ⟨hq, hk⟩ := stationStop_noEntry (k := fInterlockLate)
        (hasEntry_recordFault (k := fInterlockLate) (o := some en.station) (p := en.pallet) hnone)
      rw [lateFreed, occur_stationStop hl]
      exact ⟨hq.trans (recordFault_chi_deq ..), fun k => (hk k).trans (recordFault_entry ..)⟩
  refine ⟨lateTold_deq.trans (hsame.1.trans (entryRemoved_deq ..)), fun k hk => ?_⟩
  rw [lateTold_entry, hsame.2, entryRemoved_entry, setEntry_entry_ne hk]

theorem lateTold_station (x : Stn) : (lateTold e en s).station x = (lateFreed e en s).station x := by
  simp only [State.station, lateTold, closeEvent_stb, notice_stb]

/-- R159: a STATION_STOP holds the station for FAULT. -/
theorem lateTold_stop (hl : ((lateTold e en s).faultRec 17).level = .stationStop) :
    ((lateTold e en s).station en.station).holds = { (s.station en.station).holds with fault := true } := by
  have hstb : (recordFault fInterlockLate (some en.station) en.pallet (entryRemoved e en .interlockLate s)).stb = s.stb := by
    rw [recordFault_stb, noticesOnly_entryRemoved e en .interlockLate s]
    rfl
  have hst : (recordFault fInterlockLate (some en.station) en.pallet (entryRemoved e en .interlockLate s)).station en.station
      = s.station en.station := by
    simp only [State.station, hstb]
  rw [faultRec_of_fcu lateTold_fcu] at hl
  rw [lateTold_station, lateFreed, occur_stationStop hl, changeHolds_station, hst, stopStation, if_pos rfl]

/-- R131, R183: the freeing is told as COMMAND with outcome 10. -/
theorem lateTold_tells : Tells .command (stnByte en.station) en.pallet (32 * cmdNo (paramsKind en.params) + 10)
    (lateFreed e en s) (lateTold e en s) := tells_closeEvent_notice _ _ _ _ rfl rfl rfl

theorem lateTold_frame : (lateTold e en s).chi.b = s.chi.b ∧ (lateTold e en s).ptb = s.ptb
    ∧ (lateTold e en s).rcs = s.rcs := by
  have hn := noticesOnly_entryRemoved e en .interlockLate s
  simp only [lateTold, closeEvent_chi_b, closeEvent_ptb, closeEvent_rcs, notice_chi_b, notice_ptb, notice_rcs, lateFreed,
    occur_chi_b, occur_ptb, occur_rcs]
  rw [hn]
  exact ⟨rfl, rfl, rfl⟩

theorem lateTold_pstates : (lateTold e en s).idx.procs.map (·.pstate) = s.idx.procs.map (·.pstate) := by
  have hidx : (lateTold e en s).idx = (lateFreed e en s).idx := by simp only [lateTold, closeEvent_idx, notice_idx]
  have hn : (entryRemoved e en .interlockLate s).idx = s.idx := by
    rw [noticesOnly_entryRemoved e en .interlockLate s]
    rfl
  refine vector_ext_get fun x => ?_
  rw [Vector.get_map, Vector.get_map, hidx, ← hn]
  change ((lateFreed e en s).proc x).pstate = ((entryRemoved e en .interlockLate s).proc x).pstate
  rcases (holdsOnly_lateFreed (e := e) (en := en) (s := s)).proc x with h | h
  · rw [h]
  · rw [h, Process.holdSettle]
    split <;> rfl

end

end Sys2Proof.Machine
end

section
namespace Sys2Proof.Machine

/-! ### A RELEASE whose pallet is lost (R30) -/

/-- R32, R122: the message of a RELEASE goes out, and its entry, if it has one, is ISSUED and keeps the tag. -/
def releaseSent (d : DeqItem) (rest : List DeqItem) (t : Tag) (s : State) : State :=
  noteReleased d.entry (some t) (issueHead d.entry (headSent d rest s))

section
variable {s : State} {d : DeqItem} {rest : List DeqItem} {t : Tag}

theorem issueHead_frame (o : Option EntryNo) (s : State) : issueHead o s = { s with mrt := (issueHead o s).mrt } := by
  cases o with
  | none => rfl
  | some e =>
    simp only [issueHead, issueEntry]
    cases s.entry? e <;> rfl

theorem releaseSent_frame : releaseSent d rest t s = { headSent d rest s with mrt := (releaseSent d rest t s).mrt } := by
  unfold releaseSent
  cases d.entry with
  | none => rfl
  | some e =>
    rw [noteReleased, issueHead_frame]
    rfl

theorem releaseSent_entry {e : EntryNo} {en : Entry} (hde : d.entry = some e) (he : s.entry? e = some en) :
    ∃ q, (releaseSent d rest t s).entry? e = some q ∧ q.estate = .issued ∧ q.released = some t := by
  rw [releaseSent, hde, issueHead_entry (show (headSent d rest s).entry? e = some en from he), noteReleased_issuedFor]
  exact ⟨_, setEntry_entry_self .., rfl, rfl⟩

variable {st : Stn} {i : Slot} {r : Record} (hs : Running s) (hf : PortBFree s) (hu : s.chi.ugq = [])
  (hd : s.chi.deq = d :: rest) (hst : d.msg.station.toNat = st.val) (hk : d.msg.kind = kRelease)
  (hh : hardCheck s st .release = none) (hocc : (s.station st).occupant = .tracked r.tag) (h : HasRecord r.tag i r s)
  (hp : r.rstate = .present st)

/-- R30: the event's own effect: the record is LOST and PALLET_LOST has occurred. -/
def releaseLost (d : DeqItem) (rest : List DeqItem) (i : Slot) (r : Record) (s : State) : State :=
  occur fPalletLost (destStn? d.msg.argA) r.tag (lostTo (destStn? d.msg.argA) i r (releaseSent d rest r.tag s))

theorem releaseLost_idle (hw : ∀ y, (s.proc y).wait ≠ .route) :
    reroute (releaseLost d rest i r s) = only (releaseLost d rest i r s) := by
  have hproc : ∀ y, (lostTo (destStn? d.msg.argA) i r (releaseSent d rest r.tag s)).proc y = s.proc y := fun y => by
    rw [releaseSent_frame]
    rfl
  have hnil : routeWaiters (releaseLost d rest i r s) = [] := by
    refine List.eq_nil_iff_forall_not_mem.2 fun y hy => ?_
    rw [routeWaiters, mem_sortBy, List.mem_filter, beq_iff_eq] at hy
    refine hw y ?_
    rw [← hproc, ← hy.2]
    rcases (holdsOnly_occur fPalletLost (destStn? d.msg.argA) r.tag
      (lostTo (destStn? d.msg.argA) i r (releaseSent d rest r.tag s))).proc y with hx | hx
    · exact (congrArg Process.wait hx).symm
    · rw [releaseLost, hx, Process.holdSettle]
      split <;> rfl
  rw [reroute, hnil]
  rfl

include hs hf hu hd hst hk hh hocc h hp in
theorem deqTransmit_releaseLost (hl : ∀ x, destStn? d.msg.argA = some x → 8 ≤ (s.ptb.approach.get x).length)
    (hw : ∀ y, (s.proc y).wait ≠ .route) :
    exec (.deqTransmit true) s = .next (closeEvent (releaseLost d rest i r s)) := by
  have htag : releasedTag (issueHead d.entry (headSent d rest s)) st = some (r.tag, r) := by
    rw [issueHead_frame]
    exact releasedTag_present hocc h hp
  have heff : releaseTransmitted st d.msg.argA (releaseSent d rest r.tag s) = (releaseLost d rest i r s, [.reroute]) := by
    refine releaseTransmitted_lost ?_ ?_ hp ?_
    all_goals rw [releaseSent_frame]
    · exact hocc
    · exact h
    · exact hl
  have hpass : (releaseLost d rest i r s).ev.passDue = false := by
    rw [releaseLost, occur_ev_passDue, releaseSent_frame]
    exact congrArg Within.passDue hs.1
  rw [deqTransmit_release hs hf hu hd hst hk hh, htag]
  change conclude (releaseTransmitted st d.msg.argA (releaseSent d rest r.tag s)) = _
  rw [heff]
  refine conclude_of_run (n := 0 + 2 + 1) ?_ (le_cascadeBound (by decide))
  change runTasks _ (.reroute :: [.deferPass, .close]) (releaseLost d rest i r s) = _
  rw [runTasks_cons]
  change runTasks _ ((reroute (releaseLost d rest i r s)).2 ++ _) (reroute (releaseLost d rest i r s)).1 = _
  rw [releaseLost_idle hw]
  exact run_end 0 hpass

/-! #### What it leaves -/

theorem releaseLost_frame : (closeEvent (releaseLost d rest i r s)).chi.b = { s.chi.b with tx := some d.msg }
    ∧ (closeEvent (releaseLost d rest i r s)).ptb
      = { s.ptb with slots := upd s.ptb.slots i (fun _ => some { r with rstate := .lost (destStn? d.msg.argA) }) }
    ∧ (closeEvent (releaseLost d rest i r s)).rcs = s.rcs ∧ (closeEvent (releaseLost d rest i r s)).ilk = s.ilk := by
  simp only [closeEvent_chi_b, closeEvent_ptb, closeEvent_rcs, closeEvent_ilk, releaseLost, occur_chi_b, occur_ptb, occur_rcs,
    occur_ilk]
  rw [releaseSent_frame]
  exact ⟨rfl, rfl, rfl, rfl⟩

theorem releaseLost_raises :
    Raises 7 (destStn? d.msg.argA) r.tag s (closeEvent (releaseLost d rest i r s)) := by
  have hf : (lostTo (destStn? d.msg.argA) i r (releaseSent d rest r.tag s)).fcu = s.fcu := by
    rw [releaseSent_frame]
    rfl
  exact ((raises_occur ..).from_fcu hf).of_fcu (closeEvent_fcu ..)

theorem holdsOnly_releaseLost : HoldsOnly 3 (lostTo (destStn? d.msg.argA) i r (releaseSent d rest r.tag s))
    (releaseLost d rest i r s) := holdsOnly_occur ..

theorem lostTo_deq : (lostTo (destStn? d.msg.argA) i r (releaseSent d rest r.tag s)).chi.deq = rest := by
  rw [releaseSent_frame]
  rfl

theorem releaseLost_sublist : (closeEvent (releaseLost d rest i r s)).chi.deq.Sublist rest := by
  rw [closeEvent_chi_deq]
  exact holdsOnly_releaseLost.sub.trans (by rw [lostTo_deq])

theorem releaseLost_report (hl : ((closeEvent (releaseLost d rest i r s)).faultRec 7).level = .report) :
    (closeEvent (releaseLost d rest i r s)).chi.deq = rest := by
  rw [faultRec_of_fcu (closeEvent_fcu ..)] at hl
  rw [closeEvent_chi_deq, releaseLost, occur_report hl, recordFault_chi_deq, lostTo_deq]

theorem releaseLost_occupant (x : Stn) :
    ((closeEvent (releaseLost d rest i r s)).station x).occupant = (s.station x).occupant := by
  obtain ⟨a, b, hx⟩ := (holdsOnly_releaseLost (d := d) (rest := rest) (i := i) (r := r) (s := s)).station x
  have hstn : (lostTo (destStn? d.msg.argA) i r (releaseSent d rest r.tag s)).station x = s.station x := by
    rw [releaseSent_frame]
    rfl
  have hclose : (closeEvent (releaseLost d rest i r s)).station x = (releaseLost d rest i r s).station x := by
    simp only [State.station, closeEvent_stb]
  rw [hclose, hx, hstn]

theorem releaseLost_entry {e : EntryNo} {en : Entry} (hde : d.entry = some e) (he : s.entry? e = some en) :
    ∃ q, (closeEvent (releaseLost d rest i r s)).entry? e = some q ∧ q.estate = .issued ∧ q.released = some r.tag := by
  obtain ⟨q, hq, hqs, hqr⟩ := releaseSent_entry (rest := rest) (t := r.tag) hde he
  obtain ⟨p, hp, -, hpr, hps⟩ := (holdsOnly_releaseLost (d := d) (rest := rest) (i := i) (r := r) (s := s)).entry e q hq
  refine ⟨p, ?_, (hps (by rw [hqs]; decide)).trans hqs, hpr.trans hqr⟩
  rw [← hp]
  simp only [State.entry?, closeEvent_entries]

end

end Sys2Proof.Machine
end

section
namespace Sys2Proof.Machine

/-- R16, R112: with its entry in the table, what the transmission of the UGQ head does. -/
theorem transmitStop_eq {u : UgqItem} {rest : List UgqItem} {s : State} {en : Entry} (he : s.entry? u.entry = some en) :
    transmitStop u rest s = { s with
      chi := { s.chi with b := { s.chi.b with tx := some u.msg }, ugq := rest }
      mrt := { s.mrt with entries := upd s.mrt.entries u.entry (fun _ => some
        (setStopLimit (s.held en.station) s.mga.time (s.station en.station).cfg.stopLimit en)) } } := by
  simp only [transmitStop, he]
  rw [modEntry_eq_setEntry (show ((startTx .b u.msg s).modChi (fun c => { c with ugq := rest })).entry? u.entry = some en from he)]
  rfl

theorem setStopLimit_eq (held : Bool) (now : Time) (limit : Nat) (en : Entry) : setStopLimit held now limit en
    = { en with
        cancelReq := false
        deadline := if held then none else some (now + BitVec.ofNat 32 limit)
        remaining := if held then some limit else none } := by
  cases held <;> rfl

theorem cmdNo_lt (k : CmdKind) : cmdNo k < 4 := by cases k <;> decide

end Sys2Proof.Machine

namespace Sys2Proof.Proofs
open Sys2Proof.Machine

/-- Settles O60: port B's two queues and their producers, each message by its kind. -/
theorem portBQueues : Obligations.PortBQueues := by
  refine ⟨?stop, ?forwarded, ?late, ?jog, ?issued, ?release, ?lost, ?owed, ?sending⟩
  case stop =>
    intro s u rest en hs hf hu he limit
    rw [exec_stopAbortTransmit hs hf hu, transmitStop_eq he, setStopLimit_eq]
  case forwarded =>
    intro s d rest hs hf hu hd he
    exact ⟨fun ⟨hj, hk⟩ => deqTransmit_plain hs hf hu hd hj hk he,
      fun st j n hst hj hh => deqTransmit_late hs hf hu hd hst hj hh he⟩
  case late =>
    intro s d rest e en j n hs hf hu hd hde he hst hj hh ha
    obtain ⟨hb, hptb, hrcs⟩ := lateTold_frame (e := e) (en := en) (s := headGone rest s)
    obtain ⟨hbit, hsent⟩ := lateTold_tells (e := e) (en := en) (s := headGone rest s)
    have hraises : Raises 17 (some en.station) en.pallet s (lateTold e en (headGone rest s)) :=
      ((raises_lateFreed (s := headGone rest s)).of_fcu lateTold_fcu).from_fcu rfl
    refine ⟨_, deqTransmit_lateEntry hs hf hu hd hde he hst hj hh ha, hb, lateTold_sublist, lateTold_gone,
      fun k hk => lateTold_free hk, hraises, lateTold_mild ha.2.2.2.1, lateTold_stop, hbit,
      fun hmask hroom => ?_, hptb, hrcs, lateTold_pstates⟩
    have hmask' : (lateFreed e en (headGone rest s)).mga.noticeMask.getLsbD 3 = true := by
      rw [lateFreed, occur_mga_noticeMask, entryRemoved_mga]
      exact hmask
    have hlen : (outgoing (lateFreed e en (headGone rest s))).length ≤ s.chi.nq.length + s.mrt.kept.length + 3 :=
      lateFreed_outgoing
    rw [outgoing, List.length_append] at hlen
    obtain ⟨x, hx, hkind, hxs, hxp, hcode, hdetail⟩ := hsent hmask' (by omega)
    have hno := cmdNo_lt (paramsKind en.params)
    exact ⟨x, hx, hkind, hxs, hxp, hcode, by omega⟩
  case jog =>
    intro s d rest st hs hf hu hd he hst hk hm
    exact deqTransmit_jog hs hf hu hd hst hk he hm
  case issued =>
    intro s d rest e en st hs hf hu hd hde he hen hst issued
    subst hen
    refine ⟨?_, ?_, ?_, ?_, ?_⟩
    · intro k g p n hk hp ht hh
      exact deqTransmit_issues hs hf hu hd hde he hst (judged_move hk) hh (.inl hk) (commandDuration_move hp ht)
    · intro hk hp hh
      exact deqTransmit_clamp hs hf hu hd hde he hst hk rfl hp hh
    · intro n p lim tag r step op hk hp hh ht hr hc ho
      exact deqTransmit_issues hs hf hu hd hde he hst (judged_cycle hk) hh (.inr hk) (commandDuration_dispatched hp ht hr hc ho)
    · intro n p hk hp hh
      constructor
      · intro tag r step op hocc hr hat hc ho
        exact deqTransmit_issues hs hf hu hd hde he hst (judged_cycle hk) hh (.inr hk)
          (commandDuration_named hp (namedOperation_eq_some.2 ⟨tag, r, step, hocc, hr, hat, hc, ho⟩))
      · intro hno
        refine deqTransmit_issues hs hf hu hd hde he hst (judged_cycle hk) hh (.inr hk) (commandDuration_unnamed hp ?_)
        refine Option.eq_none_iff_forall_ne_some.2 fun op ho => ?_
        obtain ⟨tag, r, step, hocc, hr, hat, hc, ho⟩ := namedOperation_eq_some.1 ho
        exact hno tag r step op hocc hr hat hc ho
    · intro dest i r hk hp hh hdest hocc h hat hl
      exact deqTransmit_release_entry hs hf hu hd hst hk hh hocc h hat hdest hl hde he rfl hp
  case release =>
    intro s d rest st dest i r hs hf hu hd he hst hk hh hdest hocc h hat hl
    exact deqTransmit_release_forwarded hs hf hu hd hst hk hh hocc h hat hdest hl he
  case lost =>
    intro s d rest st i r hs hf hu hd hst hk hh hocc h hat hw lost
    have hlost : (∀ x, destStn? d.msg.argA = some x → 8 ≤ (s.ptb.approach.get x).length) → lost (destStn? d.msg.argA) := by
      intro hl
      obtain ⟨hb, hptb, hrcs, hilk⟩ := releaseLost_frame (d := d) (rest := rest) (i := i) (r := r) (s := s)
      exact ⟨_, deqTransmit_releaseLost hs hf hu hd hst hk hh hocc h hat hl hw, hb, releaseLost_sublist, releaseLost_report, hptb,
        releaseLost_raises, (releaseLost_occupant st).trans hocc, fun e en hde he => releaseLost_entry hde he, hrcs, hilk⟩
    constructor
    · intro hno
      rw [destStn?_eq_none hno] at hlost
      exact hlost nofun
    · intro x hx hfull
      rw [destStn?_eq_some hx] at hlost
      exact hlost fun y hy => by cases hy; exact hfull
  case owed =>
    intro s st hs hl hw ho hlow
    exact exec_owedStatusReqEnqueue hs hl hw ho hlow
  case sending =>
    intro s e en hs hl he hes hno hothers
    exact exec_sendingEntryEnqueue hs hl he hes hno hothers

end Sys2Proof.Proofs
end

section
namespace Sys2Proof.Machine

/-! ### The records and the approach lists (R24, R28) -/

section
variable {s u : State} {p : Tag} {i : Slot} {r q : Record}

theorem slotOf_eq_some (h : slotOf s p = some i) : ∃ r, s.ptb.slots.get i = some r ∧ r.tag = p := by
  have hi := List.find?_some h
  cases hr : s.ptb.slots.get i with
  | none => simp [hr] at hi
  | some r => exact ⟨r, rfl, by simpa [hr] using hi⟩

theorem slotOf_eq_none : slotOf s p = none ↔ NoRecord p s := by
  rw [slotOf, List.find?_eq_none]
  constructor
  · intro h j q hq ht
    simpa [hq, ht] using h j (List.mem_finRange j)
  · intro h j _
    cases hq : s.ptb.slots.get j with
    | none => simp
    | some q => simpa using h j q hq

theorem record_eq_some (h : s.record? p = some r) :
    ∃ i, slotOf s p = some i ∧ s.ptb.slots.get i = some r ∧ r.tag = p := by
  obtain ⟨i, hi, hr⟩ := Option.bind_eq_some_iff.1 h
  obtain ⟨q, hq, ht⟩ := slotOf_eq_some hi
  exact ⟨i, hi, hr, by rw [hr] at hq; cases hq; exact ht⟩

theorem slotOf_of_noRecord (h : NoRecord p s) : slotOf s p = none := slotOf_eq_none.2 h

theorem record_of_noRecord (h : NoRecord p s) : s.record? p = none := by simp [State.record?, slotOf_of_noRecord h]

theorem freeSlot_eq_some (h : freeSlot s = some i) : s.ptb.slots.get i = none :=
  Option.isNone_iff_eq_none.1 (List.find?_some (p := fun i => (s.ptb.slots.get i).isNone) h)

/-- R28: a record stands in the list that its state names. -/
theorem listOf_eq_some {d : Stn} : listOf r = some d ↔ ∃ dl, r.rstate = .transit d dl := by
  unfold listOf
  split
  next d' dl h => simp [h]
  next h => simp; exact fun dl hd => h _ _ hd

theorem listOf_eq_none : listOf r = none ↔ ∀ d dl, r.rstate ≠ .transit d dl := by
  rw [Option.eq_none_iff_forall_ne_some]
  exact ⟨fun h d dl hd => h d (listOf_eq_some.2 ⟨dl, hd⟩), fun h d hd => (listOf_eq_some.1 hd).elim fun dl hd => h d dl hd⟩

/-! ### The table in order (R24, R28, R31, R41) -/

theorem PalletTable.congr (h : PalletTable s) (hp : u.ptb = s.ptb) : PalletTable u := by
  obtain ⟨h1, h2, h3, h4, h5⟩ := h
  constructor <;> simp only [hp, NoRecord] <;> assumption

/-- A change that leaves the pallet table leaves it in order. -/
theorem palletTable_congr (hp : u.ptb = s.ptb) : PalletTable u ↔ PalletTable s :=
  ⟨fun h => h.congr hp.symm, fun h => h.congr hp⟩

/-- R24: a slot that holds a record of a tag is the only one. -/
theorem PalletTable.hasRecord (h : PalletTable s) (hi : s.ptb.slots.get i = some r) : HasRecord r.tag i r s :=
  ⟨hi, rfl, fun j q hj ht => h.oneRecord j i q r hj hi ht⟩

theorem PalletTable.hasRecord_of_record (h : PalletTable s) (hr : s.record? p = some r) : ∃ i, HasRecord p i r s := by
  obtain ⟨i, -, hi, rfl⟩ := record_eq_some hr
  exact ⟨i, h.hasRecord hi⟩

/-- R28: the tags of a list but one stand for records in TRANSIT toward the station. -/
theorem PalletTable.mem_other (h : PalletTable s) (hr : HasRecord p i r s) {st : Stn} {x : Tag} (hx : x ≠ p) :
    x ∈ s.ptb.approach.get st ↔ ∃ j q dl, j ≠ i ∧ s.ptb.slots.get j = some q ∧ q.tag = x ∧ q.rstate = .transit st dl := by
  obtain ⟨hi, ht, -⟩ := hr
  rw [h.listOfDestination]
  constructor
  · rintro ⟨j, q, dl, hj, rfl, hq⟩
    refine ⟨j, q, dl, ?_, hj, rfl, hq⟩
    rintro rfl
    rw [hi] at hj
    cases hj
    exact hx ht
  · rintro ⟨j, q, dl, -, h⟩
    exact ⟨j, q, dl, h⟩

/-- R28: a record's own tag stands in the list of its destination alone. -/
theorem PalletTable.mem_own (h : PalletTable s) (hr : HasRecord p i r s) {st : Stn} :
    p ∈ s.ptb.approach.get st ↔ listOf r = some st := by
  obtain ⟨hi, ht, hu⟩ := hr
  rw [h.listOfDestination, listOf_eq_some]
  constructor
  · rintro ⟨j, q, dl, hj, hq, hd⟩
    obtain rfl := hu j q hj hq
    rw [hi] at hj
    cases hj
    exact ⟨dl, hd⟩
  · rintro ⟨dl, hd⟩
    exact ⟨i, r, dl, hi, ht, hd⟩

/-- R24, R28: a record is replaced by one of the same tag, which stands in the list of its destination, the other tags of the
lists being as they were. -/
theorem PalletTable.replace (h : PalletTable s) (hr : HasRecord p i r s) (hq : q.tag = p)
    (hs : u.ptb.slots = upd s.ptb.slots i (fun _ => some q)) (ha : u.ptb.pendingAdm = s.ptb.pendingAdm)
    (hn : ∀ st, (u.ptb.approach.get st).Nodup)
    (hm : ∀ st x, x ∈ u.ptb.approach.get st ↔ (x ∈ s.ptb.approach.get st ∧ x ≠ p) ∨ (x = p ∧ listOf q = some st)) :
    PalletTable u := by
  have hget : ∀ j x, u.ptb.slots.get j = some x ↔ (j = i ∧ x = q) ∨ (j ≠ i ∧ s.ptb.slots.get j = some x) := by
    intro j x
    rw [hs, upd_get]
    split
    next hj => simp [hj, eq_comm]
    next hj => simp [hj]
  obtain ⟨hi, ht, hu⟩ := id hr
  refine ⟨?_, ?_, hn, ?_, ?_⟩
  · intro j x hx
    rcases (hget j x).1 hx with ⟨-, rfl⟩ | ⟨-, hx⟩
    · rw [hq, ← ht]
      exact h.tagged i r hi
    · exact h.tagged j x hx
  · intro j k x y hx hy hxy
    rcases (hget j x).1 hx with ⟨rfl, rfl⟩ | ⟨hj, hx⟩ <;> rcases (hget k y).1 hy with ⟨rfl, rfl⟩ | ⟨hk, hy⟩
    · rfl
    · exact absurd (hu k y hy (hxy.symm.trans hq)) hk
    · exact absurd (hu j x hx (hxy.trans hq)) hj
    · exact h.oneRecord j k x y hx hy hxy
  · intro st x
    rw [hm]
    by_cases hx : x = p
    · subst hx
      simp only [ne_eq, not_true_eq_false, and_false, true_and, false_or, listOf_eq_some]
      constructor
      · rintro ⟨dl, hd⟩
        exact ⟨i, q, dl, (hget i q).2 (.inl ⟨rfl, rfl⟩), hq, hd⟩
      · rintro ⟨j, y, dl, hy, hyt, hd⟩
        rcases (hget j y).1 hy with ⟨-, rfl⟩ | ⟨hj, hy⟩
        · exact ⟨dl, hd⟩
        · exact absurd (hu j y hy hyt) hj
    · simp only [hx, ne_eq, not_false_eq_true, and_true, false_and, or_false]
      rw [h.mem_other hr hx]
      constructor
      · rintro ⟨j, y, dl, hj, hy, hyt⟩
        exact ⟨j, y, dl, (hget j y).2 (.inr ⟨hj, hy⟩), hyt⟩
      · rintro ⟨j, y, dl, hy, rfl, hd⟩
        rcases (hget j y).1 hy with ⟨-, rfl⟩ | ⟨hj, hy⟩
        · exact absurd hq hx
        · exact ⟨j, y, dl, hj, hy, rfl, hd⟩
  · intro a hpa
    obtain ⟨h0, hno⟩ := h.admission a (ha ▸ hpa)
    refine ⟨h0, fun j x hx hxa => ?_⟩
    rcases (hget j x).1 hx with ⟨-, rfl⟩ | ⟨-, hx⟩
    · exact hno i r hi (ht.trans (hq.symm.trans hxa))
    · exact hno j x hx hxa

/-- A record that keeps its tag and its list. -/
theorem PalletTable.setSlot_same (h : PalletTable s) (hr : HasRecord p i r s) (hq : q.tag = p) (hl : listOf q = listOf r) :
    PalletTable (s.setSlot i (some q)) := by
  refine h.replace (u := s.setSlot i (some q)) hr hq rfl rfl h.oncePerList fun st x => ?_
  simp only [State.setSlot_ptb, hl]
  by_cases hx : x = p
  · subst hx
    simp [h.mem_own hr]
  · simp [hx]

/-- R28: the tag has left the list that it stood in; every other tag stays. -/
theorem PalletTable.mem_leaveOld (h : PalletTable s) (hr : HasRecord r.tag i r s) {st : Stn} {x : Tag} :
    x ∈ (leaveOld r s).ptb.approach.get st ↔ x ∈ s.ptb.approach.get st ∧ x ≠ r.tag := by
  have hown := h.mem_own hr (st := st)
  unfold leaveOld
  split
  next d hd =>
    rw [hd, Option.some.injEq] at hown
    rw [leaveList, State.modApproach_ptb, upd_get]
    split
    next hst => rw [hst, (h.oncePerList d).mem_erase_iff, and_comm]
    next hst => exact ⟨fun hx => ⟨hx, fun he => hst (hown.1 (he ▸ hx)).symm⟩, And.left⟩
  next hd =>
    rw [hd] at hown
    exact ⟨fun hx => ⟨hx, fun he => by simpa using hown.1 (he ▸ hx)⟩, And.left⟩

theorem PalletTable.nodup_leaveOld (h : PalletTable s) (r : Record) (st : Stn) :
    ((leaveOld r s).ptb.approach.get st).Nodup := by
  unfold leaveOld
  split
  next d _ =>
    rw [leaveList, State.modApproach_ptb, upd_get]
    split
    · exact (h.oncePerList d).erase _
    · exact h.oncePerList st
  next => exact h.oncePerList st

@[simp] theorem leaveOld_slots (r : Record) (s : State) : (leaveOld r s).ptb.slots = s.ptb.slots := by
  unfold leaveOld; split <;> rfl

@[simp] theorem leaveOld_pendingAdm (r : Record) (s : State) : (leaveOld r s).ptb.pendingAdm = s.ptb.pendingAdm := by
  unfold leaveOld; split <;> rfl

/-- R28: a record that leaves its list and is in TRANSIT no more. -/
theorem PalletTable.setSlot_left (h : PalletTable s) (hr : HasRecord r.tag i r s) (hq : q.tag = r.tag) (hl : listOf q = none) :
    PalletTable ((leaveOld r s).setSlot i (some q)) := by
  refine h.replace (u := (leaveOld r s).setSlot i (some q)) hr hq (by simp) (by simp) (h.nodup_leaveOld r) fun st x => ?_
  simp [h.mem_leaveOld hr, hl]

/-- R28, R29: a record that leaves its list and joins that of its new destination, at the tail. -/
theorem PalletTable.setSlot_join (h : PalletTable s) (hr : HasRecord r.tag i r s) (hq : q.tag = r.tag) {d : Stn}
    (hl : listOf q = some d) : PalletTable (((leaveOld r s).setSlot i (some q)).modApproach d (fun l => l ++ [r.tag])) := by
  have hmem := fun st x => h.mem_leaveOld hr (st := st) (x := x)
  refine h.replace (u := ((leaveOld r s).setSlot i (some q)).modApproach d (fun l => l ++ [r.tag])) hr hq (by simp) (by simp)
    (fun st => ?_) fun st x => ?_
  · simp only [State.modApproach_ptb, State.setSlot_ptb, upd_get]
    split
    · exact (h.nodup_leaveOld r d).append (List.nodup_singleton _) (by simp [hmem])
    · exact h.nodup_leaveOld r st
  · simp only [State.modApproach_ptb, State.setSlot_ptb, upd_get, hl, Option.some.injEq]
    split
    next hst => simp [hmem, hst]
    next hst => simp [hmem, Ne.symm hst]

/-- R24: a new record, of a tag that no record holds, in a free slot. -/
theorem PalletTable.setSlot_new (h : PalletTable s) (hi : s.ptb.slots.get i = none) (hno : NoRecord q.tag s) (h0 : q.tag ≠ 0)
    (ha : s.ptb.pendingAdm = none) (hl : listOf q = none) : PalletTable (s.setSlot i (some q)) := by
  have hget : ∀ j x, (s.setSlot i (some q)).ptb.slots.get j = some x ↔ (j = i ∧ x = q) ∨ s.ptb.slots.get j = some x := by
    intro j x
    rw [State.setSlot_ptb, upd_get]
    split
    next hj => simp [hj, hi, eq_comm]
    next hj => simp [hj]
  refine ⟨?_, ?_, h.oncePerList, ?_, by simp [ha]⟩
  · intro j x hx
    rcases (hget j x).1 hx with ⟨-, rfl⟩ | hx
    · exact h0
    · exact h.tagged j x hx
  · intro j k x y hx hy hxy
    rcases (hget j x).1 hx with ⟨rfl, rfl⟩ | hx' <;> rcases (hget k y).1 hy with ⟨rfl, rfl⟩ | hy'
    · rfl
    · exact absurd hxy.symm (hno k y hy')
    · exact absurd hxy (hno j x hx')
    · exact h.oneRecord j k x y hx' hy' hxy
  · intro st x
    refine (h.listOfDestination st x).trans ⟨?_, ?_⟩
    · rintro ⟨j, y, dl, hy, hyt⟩
      exact ⟨j, y, dl, (hget j y).2 (.inr hy), hyt⟩
    · rintro ⟨j, y, dl, hy, hyt, hd⟩
      rcases (hget j y).1 hy with ⟨-, rfl⟩ | hy
      · exact absurd hd (listOf_eq_none.1 hl st dl)
      · exact ⟨j, y, dl, hy, hyt, hd⟩

/-- R44: the slot of a record that is not in TRANSIT is freed. -/
theorem PalletTable.setSlot_free (h : PalletTable s) (hi : s.ptb.slots.get i = some r) (hl : listOf r = none) :
    PalletTable (s.setSlot i none) := by
  have hget : ∀ j x, (s.setSlot i none).ptb.slots.get j = some x ↔ j ≠ i ∧ s.ptb.slots.get j = some x := by
    intro j x
    rw [State.setSlot_ptb, upd_get]
    split
    next hj => simp [hj]
    next hj => simp [hj]
  refine ⟨?_, ?_, h.oncePerList, ?_, ?_⟩
  · exact fun j x hx => h.tagged j x ((hget j x).1 hx).2
  · exact fun j k x y hx hy => h.oneRecord j k x y ((hget j x).1 hx).2 ((hget k y).1 hy).2
  · intro st x
    refine (h.listOfDestination st x).trans ⟨?_, ?_⟩
    · rintro ⟨j, y, dl, hy, hyt, hd⟩
      refine ⟨j, y, dl, (hget j y).2 ⟨?_, hy⟩, hyt, hd⟩
      rintro rfl
      rw [hi] at hy
      cases hy
      exact listOf_eq_none.1 hl st dl hd
    · rintro ⟨j, y, dl, hy, hyt⟩
      exact ⟨j, y, dl, ((hget j y).1 hy).2, hyt⟩
  · intro a ha
    obtain ⟨h0, hno⟩ := h.admission a ha
    exact ⟨h0, fun j x hx => hno j x ((hget j x).1 hx).2⟩

/-- R41: no admission is pending any more. -/
theorem PalletTable.noAdmission (h : PalletTable s) :
    PalletTable { s with ptb := { s.ptb with pendingAdm := none } } :=
  ⟨h.tagged, h.oneRecord, h.oncePerList, h.listOfDestination, by simp⟩

/-- R41: an admission of a tag that no record holds is kept pending. -/
theorem PalletTable.keepAdmission (h : PalletTable s) {a : Admission} (h0 : a.tag ≠ 0) (hno : NoRecord a.tag s) :
    PalletTable { s with ptb := { s.ptb with pendingAdm := some a } } := by
  refine ⟨h.tagged, h.oneRecord, h.oncePerList, h.listOfDestination, fun b hb => ?_⟩
  simp only [Option.some.injEq] at hb
  exact hb ▸ ⟨h0, hno⟩

end
end Sys2Proof.Machine
end

section
namespace Sys2Proof.Machine

/-! ### The steps of effects that leave the pallet table (section 2.1) -/

section
variable (s : State)

@[simp] theorem answerAction_ptb (m : Msg) (st : Status) (v : Word) : (answerAction m st v s).ptb = s.ptb := postReply_ptb ..

@[simp] theorem answerTable_ptb (m : Msg) (st : Status) (v : Word) : (answerTable m st v s).ptb = s.ptb := postReply_ptb ..

@[simp] theorem refuse_ptb (m : Msg) (r : Status) (d : Nat) : (refuse m r d s).ptb = s.ptb := postReply_ptb ..

@[simp] theorem refuseHeld_ptb (m : Msg) (r : Status) (st : Stn) : (refuseHeld m r st s).ptb = s.ptb := postReply_ptb ..

@[simp] theorem refuseEntry_ptb (en : Entry) (r : Status) (d : Nat) : (refuseEntry en r d s).ptb = s.ptb := postReply_ptb ..

@[simp] theorem removeDiq_ptb (d : DiqItem) : (removeDiq d s).ptb = s.ptb := rfl

@[simp] theorem pushDeq_ptb (m : Msg) (e : Option EntryNo) : (pushDeq m e s).ptb = s.ptb := rfl

@[simp] theorem withDeq_ptb (q : List DeqItem) : (withDeq s q).ptb = s.ptb := rfl

@[simp] theorem enqueueCommand_ptb (e : EntryNo) : (enqueueCommand e s).ptb = s.ptb := by
  unfold enqueueCommand; split <;> rfl

@[simp] theorem startSending_ptb (e : EntryNo) : (startSending e s).ptb = s.ptb := by
  obtain ⟨q, hq, -⟩ := startSending_eq e s
  rw [hq]
  rfl

@[simp] theorem dropDeferred_ptb (e : EntryNo) : (dropDeferred e s).ptb = s.ptb := rfl

@[simp] theorem enterStalled_ptb (st : Stn) (d : Nat) : (enterStalled st d s).ptb = s.ptb := by simp [enterStalled]

@[simp] theorem enterBlocked_ptb (st : Stn) : (enterBlocked st s).ptb = s.ptb := rfl

@[simp] theorem refLost_ptb (st : Stn) : (refLost st s).ptb = s.ptb := by unfold refLost; split <;> simp

@[simp] theorem clearReference_ptb (st : Stn) : (clearReference st s).ptb = s.ptb := by
  unfold clearReference; split <;> simp

@[simp] theorem endHolds_ptb (r : State × StnSet) (byResume : Bool) : (endHolds r byResume).1.ptb = r.1.ptb := by
  unfold endHolds; split <;> rfl

@[simp] theorem zoneRemove_ptb (z : Zone) (c : ZoneCauses) : (zoneRemove z c s).1.ptb = s.ptb := by
  unfold zoneRemove; dsimp only; split <;> simp [only]

/-! #### The motion request table -/

@[simp] theorem insertEntry_ptb (e : EntryNo) (en : Entry) : (insertEntry e en s).ptb = s.ptb := rfl

@[simp] theorem promote_ptb (e : EntryNo) : (promote e s).1.ptb = s.ptb := by
  unfold promote
  split
  · rfl
  · split
    · rfl
    · dsimp only
      split
      · rfl
      · split
        · simp [only]
        · rfl
        · split <;> rfl

@[simp] theorem removeEntry_ptb (e : EntryNo) (en : Entry) (how : Ending) : (removeEntry e en how s).ptb = s.ptb := by
  unfold removeEntry; dsimp only; split <;> rfl

@[simp] theorem freeEntryStep_ptb (e : EntryNo) (how : Ending) : (freeEntryStep e how s).1.ptb = s.ptb := by
  unfold freeEntryStep
  split
  · rfl
  · dsimp only
    split <;> simp

@[simp] theorem reportEnding_ptb (en : Entry) (how : Ending) : (reportEnding en how s).1.ptb = s.ptb := by
  unfold reportEnding; split <;> simp [only]

@[simp] theorem promoteSuccessor_ptb (st : Stn) : (promoteSuccessor st s).1.ptb = s.ptb := by
  unfold promoteSuccessor; split <;> rfl

@[simp] theorem afterLastEntry_ptb (st : Stn) : (afterLastEntry st s).1.ptb = s.ptb := by
  unfold afterLastEntry
  split
  · rfl
  · split
    · rfl
    · dsimp only
      split <;> simp [only]

@[simp] theorem judgeItem_ptb (it : DeferItem) : (judgeItem it s).1.ptb = s.ptb := by
  unfold judgeItem
  split
  · dsimp only
    split
    · rfl
    · split
      · rfl
      · rfl
      · split <;> simp [only]
  · rfl

/-! #### The dispatcher -/

@[simp] theorem waitEntry_ptb (st : Stn) (pt : DuePoint) (since : Option Time) (place : Place) :
    (waitEntry st pt since place s).ptb = s.ptb := rfl

@[simp] theorem createDispatch_ptb (st : Stn) (e : EntryNo) (p : Params) (pt : DuePoint) :
    (createDispatch st e p pt s).1.ptb = s.ptb := rfl

@[simp] theorem makeDue_ptb (st : Stn) (p : Params) (pt : DuePoint) (granted keep : Bool) :
    (makeDue st p pt granted keep s).1.ptb = s.ptb := by
  unfold makeDue
  dsimp only
  repeat' split
  all_goals rfl

@[simp] theorem evalOperation_ptb (st : Stn) (granted : Bool) : (evalOperation st granted s).1.ptb = s.ptb := by
  unfold evalOperation
  dsimp only
  repeat' split
  all_goals simp [only]

@[simp] theorem runSettle_ptb (st : Stn) : (runSettle st s).1.ptb = s.ptb := by
  simp [runSettle, only, apply_ite Prod.fst]

@[simp] theorem startSettle_ptb (st : Stn) (succ : Succ) : (startSettle st succ s).1.ptb = s.ptb := by simp [startSettle]

@[simp] theorem waitRoute_ptb (st : Stn) (keep : Bool) : (waitRoute st keep s).ptb = s.ptb := by
  unfold waitRoute; dsimp only; split <;> rfl

@[simp] theorem routeChoice_ptb (st : Stn) (granted keep : Bool) : (routeChoice st granted keep s).1.ptb = s.ptb := by
  unfold routeChoice
  dsimp only
  repeat' split
  all_goals simp [only]

@[simp] theorem routeTry_ptb (st : Stn) : (routeTry st s).1.ptb = s.ptb := by unfold routeTry; split <;> simp [only]

@[simp] theorem stayInOrder_ptb (st : Stn) (old : State) : (stayInOrder st old s).ptb = s.ptb := by
  unfold stayInOrder; split <;> rfl

@[simp] theorem takeUp_ptb (st : Stn) (keep : Bool) : (takeUp st keep s).1.ptb = s.ptb := by
  unfold takeUp
  dsimp only
  repeat' split
  all_goals simp [only]

@[simp] theorem onArrival_ptb (st : Stn) : (onArrival st s).1.ptb = s.ptb := by unfold onArrival; split <;> rfl

@[simp] theorem onAdmission_ptb (st : Stn) : (onAdmission st s).1.ptb = s.ptb := by
  unfold onAdmission
  dsimp only
  repeat' split
  all_goals rfl

@[simp] theorem failProcess_ptb (st : Stn) : (failProcess st s).1.ptb = s.ptb := by
  unfold failProcess; dsimp only; split <;> simp [only]

@[simp] theorem onEntryLeft_ptb (st : Stn) : (onEntryLeft st s).1.ptb = s.ptb := by
  unfold onEntryLeft
  dsimp only
  repeat' split
  all_goals rfl

@[simp] theorem applyMode_ptb (st : Stn) (m : Mode) : (applyMode st m s).1.ptb = s.ptb := by
  unfold applyMode
  dsimp only
  repeat' split
  all_goals rfl

@[simp] theorem holdEndedIdx_ptb (st : Stn) (byResume : Bool) : (holdEndedIdx st byResume s).1.ptb = s.ptb := by
  unfold holdEndedIdx
  dsimp only
  repeat' split
  all_goals simp [only]

@[simp] theorem onGone_ptb (st : Stn) : (onGone st s).ptb = s.ptb := by
  unfold onGone
  dsimp only
  repeat' split
  all_goals simp

/-! #### Requests and the arbiter -/

@[simp] theorem createController_ptb (st : Stn) (e : EntryNo) (p : Params) (pallet : Tag) (rx : Option Msg) :
    (createController st e p pallet rx s).1.ptb = s.ptb := by
  unfold createController; split <;> rfl

@[simp] theorem acceptCommand_ptb (st : Stn) (m : Msg) : (acceptCommand st m s).1.ptb = s.ptb := by
  unfold acceptCommand
  repeat' split
  all_goals simp [only]

@[simp] theorem requestBody_ptb (m : Msg) : (requestBody m s).1.ptb = s.ptb := by
  unfold requestBody
  repeat' split
  all_goals simp [only, forward]

@[simp] theorem indexBody_ptb (m : Msg) : (indexBody m s).1.ptb = s.ptb := by
  unfold indexBody
  dsimp only
  repeat' split
  all_goals simp [only]

@[simp] theorem grantDiq_ptb (d : DiqItem) : (grantDiq d s).1.ptb = s.ptb := by
  unfold grantDiq
  dsimp only
  repeat' split
  all_goals simp

@[simp] theorem arbitrate_ptb : (arbitrate s).1.ptb = s.ptb := by
  unfold arbitrate
  repeat' split
  all_goals simp [only, grantStation]

@[simp] theorem deferPass_ptb : (deferPass s).1.ptb = s.ptb := by unfold deferPass; split <;> rfl

@[simp] theorem retireBank_ptb (t : Tag) : (retireBank t s).ptb = s.ptb := by
  unfold retireBank
  repeat' split
  all_goals simp

@[simp] theorem setOccupant_ptb (st : Stn) (o : Occupant) : (setOccupant st o s).ptb = s.ptb := rfl

@[simp] theorem tagOccupied_ptb (st : Stn) (t : Tag) : (tagOccupied st t s).ptb = s.ptb := by simp [tagOccupied]

@[simp] theorem tagStranger_ptb (st : Stn) (t : Tag) : (tagStranger st t s).ptb = s.ptb := by simp [tagStranger]

@[simp] theorem tagDuplicate_ptb (st : Stn) (t : Tag) : (tagDuplicate st t s).ptb = s.ptb := by simp [tagDuplicate]

@[simp] theorem variantUndefined_ptb (st : Stn) (t : Tag) : (variantUndefined st t s).ptb = s.ptb := by
  unfold variantUndefined; split <;> simp

end

/-- Finding a record reads the pallet table alone. -/
theorem slotOf_of_ptb {s u : State} (h : u.ptb = s.ptb) (t : Tag) : slotOf u t = slotOf s t := by simp only [slotOf, h]

theorem record_of_ptb {s u : State} (h : u.ptb = s.ptb) (t : Tag) : u.record? t = s.record? t := by
  simp only [State.record?, slotOf_of_ptb h, h]

end Sys2Proof.Machine
end

section
namespace Sys2Proof.Machine

/-! ### The pallet table in order under the steps of an event (R24, R28, R31, R41) -/

section
variable {s : State}

/-- A change of a record that keeps its tag and its state. -/
theorem modRecord_inOrder (t : Tag) {f : Record → Record} (h : PalletTable s) (ht : ∀ r, (f r).tag = r.tag)
    (hr : ∀ r, (f r).rstate = r.rstate) : PalletTable (modRecord t f s) := by
  cases hs : slotOf s t with
  | none => simpa [modRecord, hs] using h
  | some i =>
    obtain ⟨r, hi, rfl⟩ := slotOf_eq_some hs
    have hrec := h.hasRecord hi
    rw [modRecord_of_hasRecord hrec]
    exact h.setSlot_same hrec (ht r) (by simp [listOf, hr])

/-- R28: a record leaves the list that it stands in, and is in TRANSIT no more. -/
theorem modRecord_left_inOrder {t : Tag} {r : Record} {f : Record → Record} (h : PalletTable s) (hr : s.record? t = some r)
    (ht : (f r).tag = r.tag) (hl : listOf (f r) = none) : PalletTable (modRecord t f (leaveOld r s)) := by
  obtain ⟨i, hi⟩ := h.hasRecord_of_record hr
  obtain rfl := hi.2.1
  rw [modRecord_of_hasRecord (s := leaveOld r s) (by simpa [HasRecord] using hi)]
  exact h.setSlot_left hi ht hl

/-- A record that stands in no list and is not put in TRANSIT. -/
theorem modRecord_unlisted_inOrder {t : Tag} {r : Record} {f : Record → Record} (h : PalletTable s) (hr : s.record? t = some r)
    (hno : listOf r = none) (ht : (f r).tag = r.tag) (hl : listOf (f r) = none) : PalletTable (modRecord t f s) := by
  have := modRecord_left_inOrder h hr ht hl
  rwa [leaveOld, hno] at this

theorem recordCycle_inOrder (st : Stn) (t : Tag) (op : Nat) (r : CycleResult) (h : PalletTable s) :
    PalletTable (recordCycle st t op r s).1 := by
  unfold recordCycle
  split
  · exact (palletTable_congr (State.modProc_ptb ..)).2 (modRecord_inOrder t h (fun _ => rfl) fun _ => rfl)
  · exact (palletTable_congr (State.modProc_ptb ..)).2 (modRecord_inOrder t h (fun _ => rfl) fun _ => rfl)
  · dsimp only
    split <;> split
    · exact modRecord_inOrder t h (fun _ => rfl) fun _ => rfl
    · exact h.congr rfl
    · exact modRecord_inOrder t h (fun _ => rfl) fun _ => rfl
    · exact h.congr rfl

theorem unclampDone_inOrder (st : Stn) (granted : Bool) (h : PalletTable s) : PalletTable (unclampDone st granted s).1 := by
  unfold unclampDone
  dsimp only
  refine PalletTable.congr ?_ (State.modProc_ptb ..)
  split
  · refine PalletTable.congr ?_ (State.modProc_ptb ..)
    split
    · exact modRecord_inOrder _ h (fun _ => rfl) fun _ => rfl
    · exact h
  · exact h

theorem enterUnclamp_inOrder (st : Stn) (granted : Bool) (h : PalletTable s) : PalletTable (enterUnclamp st granted s).1 := by
  unfold enterUnclamp
  dsimp only
  split
  · exact unclampDone_inOrder st granted (h.congr rfl)
  · exact h.congr (by simp)

theorem evalHoming_inOrder (st : Stn) (granted : Bool) (h : PalletTable s) : PalletTable (evalHoming st granted s).1 := by
  unfold evalHoming
  dsimp only
  split_ifs
  · exact enterUnclamp_inOrder st granted (h.congr rfl)
  · split <;> exact h.congr (by simp [only])
  · exact h.congr (by simp)

theorem settleOver_inOrder (st : Stn) (h : PalletTable s) : PalletTable (settleOver st s).1 := by
  unfold settleOver
  split
  · exact enterUnclamp_inOrder st false h
  · exact h.congr (by simp)

theorem reevaluate_inOrder (st : Stn) (granted : Bool) (h : PalletTable s) : PalletTable (reevaluate st granted s).1 := by
  unfold reevaluate
  split
  · exact h
  · exact h.congr (by simp)
  · exact evalHoming_inOrder st granted h
  · exact enterUnclamp_inOrder st granted h
  · exact h.congr (by simp)

theorem onCycle_inOrder (st : Stn) (t : Tag) (op : Nat) (r : CycleResult) (h : PalletTable s) :
    PalletTable (onCycle st t op r s).1 := by
  unfold onCycle; dsimp only; split <;> exact recordCycle_inOrder st t op r h

theorem onOutcome_inOrder (en : Entry) (how : Ending) (h : PalletTable s) : PalletTable (onOutcome en how s).1 := by
  unfold onOutcome
  dsimp only
  repeat' split
  all_goals
    simp only [only, palletTable_congr (State.modProc_ptb ..), palletTable_congr (startSettle_ptb ..),
      palletTable_congr (failProcess_ptb ..), recordCycle_inOrder, unclampDone_inOrder, onCycle_inOrder, h]

/-! #### TRANSIT (R29 to R32) -/

theorem releasedTag_eq_some {st : Stn} {t : Tag} {r : Record} (h : releasedTag s st = some (t, r)) : s.record? t = some r := by
  obtain ⟨x, -, h⟩ := Option.bind_eq_some_iff.1 h
  obtain ⟨q, hq, h⟩ := Option.bind_eq_some_iff.1 h
  split at h
  · split at h <;> cases h
    exact hq
  · cases h
    exact hq

/-- R28, R29, R30: a transmitted RELEASE puts its pallet in the list of its destination, or leaves it LOST in none. -/
theorem sendToward_inOrder {t : Tag} {r : Record} (dest : Word) (h : PalletTable s) (hr : s.record? t = some r) :
    PalletTable (sendToward t r dest s).1 := by
  have hlost : PalletTable (occur fPalletLost (destStn? dest) t
      (modRecord t (fun r => { r with rstate := .lost (destStn? dest) }) (leaveOld r s))) :=
    (modRecord_left_inOrder h hr rfl rfl).congr (occur_ptb ..)
  unfold sendToward
  dsimp only
  split
  · exact hlost
  next d _ =>
    split
    · obtain ⟨i, hi⟩ := h.hasRecord_of_record hr
      obtain rfl := hi.2.1
      rw [modRecord_of_hasRecord (s := leaveOld r s) (by simpa [HasRecord] using hi)]
      refine h.setSlot_join (d := d) hi ?_ ?_ <;> rfl
    · exact hlost

theorem releaseTransmitted_inOrder (st : Stn) (dest : Word) (h : PalletTable s) :
    PalletTable (releaseTransmitted st dest s).1 := by
  unfold releaseTransmitted
  split
  next hr => exact sendToward_inOrder dest h (releasedTag_eq_some hr)
  · exact h

theorem releaseFailed_inOrder (en : Entry) (h : PalletTable s) : PalletTable (releaseFailed en s).1 := by
  unfold releaseFailed
  split
  · split
    next hr =>
      split
      · exact modRecord_left_inOrder h hr rfl rfl
      · exact h
    · exact h
  · exact h

/-- R31: a record whose deadline has passed leaves the list of its destination, LOST. -/
theorem transitExpired_inOrder {i : Slot} {r : Record} {d : Stn} (h : PalletTable s) (hi : s.ptb.slots.get i = some r)
    (hd : listOf r = some d) : PalletTable (transitExpired r d s).1 := by
  have hold : leaveOld r s = leaveList d r.tag s := by simp [leaveOld, hd]
  unfold transitExpired
  rw [← hold]
  exact (modRecord_left_inOrder h (record_of_hasRecord (h.hasRecord hi)) rfl rfl).congr (occur_ptb ..)

/-! #### Arrivals (R33 to R36) -/

theorem becomePresent_ptb (st : Stn) (t : Tag) (s : State) : (becomePresent st t s).ptb
    = (modRecord t (fun r => { r with rstate := .present st, lastSeen := s.now }) s).ptb := rfl

/-- R28, R33: a record leaves its list and is PRESENT. -/
theorem becomePresent_inOrder {t : Tag} {r : Record} (st : Stn) (h : PalletTable s) (hr : s.record? t = some r) :
    PalletTable (becomePresent st t (leaveOld r s)) :=
  (modRecord_left_inOrder h hr rfl rfl).congr (becomePresent_ptb ..)

theorem tagReRead_inOrder {t : Tag} {r : Record} (st : Stn) (h : PalletTable s) (hr : s.record? t = some r) :
    PalletTable (tagReRead st t r s).1 := by
  unfold tagReRead
  split
  · split
    · exact modRecord_inOrder t h (fun _ => rfl) fun _ => rfl
    · exact h
  · exact h
  next hl =>
    have := becomePresent_inOrder st h hr
    rw [leaveOld, listOf_eq_none.2 (by simp [hl])] at this
    exact this.congr (notice_ptb ..)

theorem arriveIntended_inOrder {t : Tag} {r : Record} {st : Stn} (h : PalletTable s) (hr : s.record? t = some r)
    (hi : intendedFor r st = true) : PalletTable (arriveIntended st t r s).1 := by
  have hp := becomePresent_inOrder st h hr
  obtain ⟨j, -, -, ht⟩ := record_eq_some hr
  unfold arriveIntended
  split
  next d dl hd =>
    have hst : listOf r = some st := by
      simp only [intendedFor, hd, beq_iff_eq] at hi
      exact listOf_eq_some.2 ⟨dl, hi ▸ hd⟩
    rw [leaveOld, hst, ht] at hp
    dsimp only
    split
    · exact hp
    · exact hp.congr (notice_ptb ..)
  next hno =>
    rw [leaveOld, listOf_eq_none.2 hno] at hp
    exact hp.congr (notice_ptb ..)

theorem arriveMisrouted_inOrder {t : Tag} {r : Record} (st : Stn) (h : PalletTable s) (hr : s.record? t = some r) :
    PalletTable (arriveMisrouted st t r s).1 :=
  (palletTable_congr (occur_ptb ..)).2 (modRecord_inOrder t (becomePresent_inOrder st h hr) (fun _ => rfl) fun _ => rfl)

theorem tagElsewhere_inOrder (st : Stn) (t : Tag) (h : PalletTable s) : PalletTable (tagElsewhere st t s).1 := by
  unfold tagElsewhere
  dsimp only
  by_cases ht : (s.station st).occupant = .tracked t
  · rw [if_pos ht]
    split
    next hr => exact tagReRead_inOrder st h hr
    · exact h
  · rw [if_neg ht]
    split
    · exact h
    · split
      · exact h.congr (tagOccupied_ptb ..)
      · split
        · exact h.congr (tagStranger_ptb ..)
        next r hr =>
          have hr : s.record? t = some r := by split at hr <;> [cases hr; exact hr]
          split
          · exact h.congr (tagDuplicate_ptb ..)
          · split
            next hi => exact arriveIntended_inOrder h hr hi
            next =>
              split
              · exact arriveMisrouted_inOrder st h hr
              · exact (arriveMisrouted_inOrder st h hr).congr (enterBlocked_ptb ..)

/-! #### The load station (R37 to R41) -/

theorem restart_inOrder {i : Slot} {r : Record} (st : Stn) (wasHere : Bool) (v : Fin 8) (raw : Int) (gen : Nat)
    (h : PalletTable s) (hi : s.ptb.slots.get i = some r) (hl : listOf r = none) :
    PalletTable (restart st i r wasHere v raw gen s).1 := by
  have hp : PalletTable (s.setSlot i (some (freshRecord s st r.tag v raw gen))) := by
    refine h.setSlot_same (h.hasRecord hi) rfl ?_
    rw [hl]
    rfl
  unfold restart
  dsimp only
  split <;> exact hp.congr (by simp)

/-- R39 to R41: the admission part, for a tag that is not 0 and whose record, if it has one, stands in no list. -/
theorem admissionPart_inOrder {t : Tag} (st : Stn) (v : Fin 8) (raw : Int) (wasHere : Bool) (h : PalletTable s) (h0 : t ≠ 0)
    (hl : ∀ r, s.record? t = some r → listOf r = none) : PalletTable (admissionPart st t v raw wasHere s).1 := by
  have h' := h.noAdmission
  unfold admissionPart
  dsimp only
  split
  next i hs =>
    split
    next r g hi _ =>
      have hs' : slotOf s t = some i := hs
      exact restart_inOrder st wasHere v raw g h' hi (hl r (by simp only [State.record?, hs', Option.bind_some]; exact hi))
    · exact h'.congr (variantUndefined_ptb ..)
  next hs =>
    have hno : NoRecord t s := slotOf_eq_none.1 hs
    split
    · exact (h.keepAdmission (a := ⟨t, v, raw⟩) h0 hno).congr (by simp [only])
    next i hf =>
      split
      next g _ =>
        exact (h'.setSlot_new (q := freshRecord _ st t v raw g) (freeSlot_eq_some hf) hno h0 rfl rfl).congr rfl
      next => exact h'.congr (variantUndefined_ptb ..)

end
end Sys2Proof.Machine
end

section
namespace Sys2Proof.Machine

/-! ### The load station and the departures (R37 to R42) -/

section
variable {s : State} {t : Tag} {i : Slot} {r q : Record}

theorem hasRecord_setSlot (h : HasRecord t i r s) (hq : q.tag = t) : HasRecord t i q (s.setSlot i (some q)) := by
  obtain ⟨-, -, hu⟩ := h
  refine ⟨by simp, hq, fun j x hx ht => ?_⟩
  rw [State.setSlot_ptb, upd_get] at hx
  split at hx
  next hj => exact hj
  next => exact hu j x hx ht

theorem hasRecord_modRecord (h : HasRecord t i r s) {f : Record → Record} (hf : (f r).tag = t) :
    HasRecord t i (f r) (modRecord t f s) := by
  obtain rfl := h.2.1
  rw [modRecord_of_hasRecord h]
  exact hasRecord_setSlot h hf

theorem record_of_hasRecord_tag (h : HasRecord t i r s) : s.record? t = some r := by
  obtain rfl := h.2.1
  exact record_of_hasRecord h

theorem HasRecord.congr {u : State} (h : HasRecord t i r s) (hu : u.ptb.slots = s.ptb.slots) : HasRecord t i r u := by
  simpa only [HasRecord, hu] using h

/-- R33, R38: the record of a pallet that has arrived, as intended or not. -/
theorem hasRecord_becomePresent (st : Stn) (h : HasRecord t i r s) :
    HasRecord t i { r with rstate := .present st, lastSeen := s.now } (becomePresent st t s) :=
  (hasRecord_modRecord (f := fun r => { r with rstate := .present st, lastSeen := s.now }) h h.2.1).congr
    (by rw [becomePresent_ptb])

theorem arriveIntended_unlisted {st : Stn} (h : HasRecord t i r s) :
    ∀ q, (arriveIntended st t r s).1.record? t = some q → listOf q = none := by
  intro q hq
  have key : ∀ u : State, HasRecord t i r u → (becomePresent st t u).record? t = some q → listOf q = none := by
    intro u hu hq
    rw [record_of_hasRecord_tag (hasRecord_becomePresent st hu)] at hq
    cases hq
    rfl
  unfold arriveIntended at hq
  split at hq
  · refine key (leaveList st t s) (h.congr rfl) ?_
    dsimp only at hq
    split at hq
    · exact hq
    · rwa [record_of_ptb (notice_ptb ..)] at hq
  · rw [only, record_of_ptb (notice_ptb ..)] at hq
    exact key s h hq

theorem arriveMisrouted_unlisted (st : Stn) (h : HasRecord t i r s) :
    ∀ q, (arriveMisrouted st t r s).1.record? t = some q → listOf q = none := by
  intro q hq
  have hp := hasRecord_becomePresent st (h.congr (u := leaveOld r s) (by simp))
  rw [arriveMisrouted, record_of_ptb (occur_ptb ..), record_of_hasRecord_tag (hasRecord_modRecord hp hp.2.1)] at hq
  cases hq
  rfl

theorem arrivalPart_inOrder (st : Stn) (t : Tag) (h : PalletTable s) : PalletTable (arrivalPart st t s).1 := by
  unfold arrivalPart
  split
  · exact h
  next hr =>
    split
    · simp only [only]
      split
      · exact modRecord_inOrder t h (fun _ => rfl) fun _ => rfl
      · exact h
    · split
      next hi => exact arriveIntended_inOrder h hr hi
      next => exact arriveMisrouted_inOrder st h hr

/-- R38: after the arrival part the record, if there is one, stands in no list. -/
theorem arrivalPart_unlisted (st : Stn) (t : Tag) (h : PalletTable s) :
    ∀ q, (arrivalPart st t s).1.record? t = some q → listOf q = none := by
  intro q hq
  unfold arrivalPart at hq
  split at hq
  next hr =>
    rw [only, hr] at hq
    cases hq
  next r hr =>
    obtain ⟨i, hi⟩ := h.hasRecord_of_record hr
    split at hq
    next l hl =>
      simp only [only] at hq
      split at hq
      · rw [record_of_hasRecord_tag (hasRecord_modRecord hi hi.2.1)] at hq
        cases hq
        exact listOf_eq_none.2 (by simp [hl])
      · rw [hr] at hq
        cases hq
        exact listOf_eq_none.2 (by simp [hl])
    · split at hq
      · exact arriveIntended_unlisted hi q hq
      · exact arriveMisrouted_unlisted st hi q hq

theorem tagAtLoad_inOrder (st : Stn) (t : Tag) (v : Fin 8) (raw : Int) (h : PalletTable s) :
    PalletTable (tagAtLoad st t v raw s).1 := by
  unfold tagAtLoad
  dsimp only
  split_ifs with _ _ h0
  · exact h
  · exact h.congr (tagOccupied_ptb ..)
  · exact h.congr (tagStranger_ptb ..)
  · exact h.congr (tagDuplicate_ptb ..)
  · exact admissionPart_inOrder st v raw _ (arrivalPart_inOrder st t h) h0 (arrivalPart_unlisted st t h)

/-- R41: a pending admission is of a tag that no record holds. -/
theorem retryAdmission_inOrder (h : PalletTable s) : PalletTable (retryAdmission s).1 := by
  unfold retryAdmission
  split
  · exact h
  next a ha =>
    obtain ⟨h0, hno⟩ := h.admission a ha
    exact admissionPart_inOrder _ _ _ _ h h0 fun r hr => by simp [record_of_noRecord hno] at hr

theorem goneOccupant_inOrder (st : Stn) (h : PalletTable s) : PalletTable (goneOccupant st s) := by
  have h' : PalletTable (setOccupant st .nobody
      (if st = s.stb.load then { s with ptb := { s.ptb with pendingAdm := none } } else s)) := by
    refine PalletTable.congr ?_ (setOccupant_ptb ..)
    split <;> [exact h.noAdmission; exact h]
  unfold goneOccupant
  dsimp only
  split
  · split
    next r hr =>
      split
      · exact modRecord_inOrder _ h' (fun _ => rfl) fun _ => rfl
      next l hl =>
        split
        · exact (palletTable_congr (notice_ptb ..)).2
            (modRecord_unlisted_inOrder h' hr (listOf_eq_none.2 (by simp [hl])) rfl rfl)
        · exact h'
      · exact h'
    next => exact h'
  · exact h'

theorem freeRecord_inOrder (t : Tag) (h : PalletTable s) (hi : s.ptb.slots.get i = some r) (hl : listOf r = none) :
    PalletTable (freeRecord i t s) := (h.setSlot_free hi hl).congr rfl

/-- R24, R28, R31, R41: no step of effects breaks the pallet table. -/
theorem perform_inOrder (k : Task) (h : PalletTable s) : PalletTable (perform k s).1 := by
  cases k with
  | promote e => exact h.congr (promote_ptb ..)
  | free e how => exact h.congr (freeEntryStep_ptb ..)
  | releaseFailed en => exact releaseFailed_inOrder en h
  | outcome en how => exact onOutcome_inOrder en how h
  | report en how => exact h.congr (reportEnding_ptb ..)
  | entryLeft st => exact h.congr (onEntryLeft_ptb ..)
  | successor st => exact h.congr (promoteSuccessor_ptb ..)
  | lastEntry st => exact h.congr (afterLastEntry_ptb ..)
  | arbitrate => exact h.congr (arbitrate_ptb ..)
  | reroute => exact h
  | routeTry st => exact h.congr (routeTry_ptb ..)
  | applyMode st m => exact h.congr (applyMode_ptb ..)
  | takeUp st keep => exact h.congr (takeUp_ptb ..)
  | evalOp st granted => exact h.congr (evalOperation_ptb ..)
  | homing st granted => exact evalHoming_inOrder st granted h
  | unclamp st granted => exact enterUnclamp_inOrder st granted h
  | route st granted keep => exact h.congr (routeChoice_ptb ..)
  | reeval st granted => exact reevaluate_inOrder st granted h
  | settleOver st => exact settleOver_inOrder st h
  | holdEnded v byResume => exact h.congr rfl
  | holdEndedIdx st byResume => exact h.congr (holdEndedIdx_ptb ..)
  | arrived st => exact h.congr (onArrival_ptb ..)
  | admitted st => exact h.congr (onAdmission_ptb ..)
  | retryAdmission => exact retryAdmission_inOrder h
  | retire t => exact h.congr (retireBank_ptb ..)
  | judge it => exact h.congr (judgeItem_ptb ..)
  | note ev st p d => exact h.congr (notice_ptb ..)
  | flush => exact h.congr (flushMonitor_ptb ..)
  | deferPass => exact h.congr (deferPass_ptb ..)
  | close => exact h.congr (closeEvent_ptb ..)

theorem conclude_inOrder {x : Eff} {u : State} (h : PalletTable x.1) (hx : conclude x = .next u) : PalletTable u :=
  conclude_keeps (fun _ _ => perform_inOrder _) hx h

end
end Sys2Proof.Machine
end

section
namespace Sys2Proof.Machine

/-! ### The pallet table in order under the requests taken from the DIQ (R5) -/

section
variable {s : State}

theorem fromController_inOrder {m : Msg} {r : Eff} (h : PalletTable s) (hr : PalletTable r.1) :
    PalletTable (fromController m s r).1 := by
  unfold fromController; split <;> [exact h.congr (answerAction_ptb ..); exact hr]

theorem atWord_inOrder {m : Msg} {r : Nat → Eff} (h : PalletTable s) (hr : ∀ w, PalletTable (r w).1) :
    PalletTable (atWord m s r).1 := by
  unfold atWord
  split
  · exact h.congr (answerTable_ptb ..)
  · split
    · exact h.congr (answerTable_ptb ..)
    · exact hr _

/-- A request that leaves the pallet table. -/
theorem fromController_leaves {m : Msg} {r : Eff} (h : PalletTable s) (hr : r.1.ptb = s.ptb) :
    PalletTable (fromController m s r).1 := fromController_inOrder h (h.congr hr)

theorem atWord_leaves {m : Msg} {r : Nat → Eff} (h : PalletTable s) (hr : ∀ w, (r w).1.ptb = s.ptb) :
    PalletTable (atWord m s r).1 := atWord_inOrder h fun w => h.congr (hr w)

@[simp] theorem writeSays_ptb (m : Msg) (st : Status) (s : State) : (writeSays m st s).1.ptb = s.ptb := answerTable_ptb ..

@[simp] theorem writeDone_ptb (m : Msg) (v : Nat) (s : State) : (writeDone m v s).ptb = s.ptb := answerTable_ptb ..

@[simp] theorem reply_ptb (m : Msg) (st : Status) (v : Nat) (s : State) : (reply m st v s).1.ptb = s.ptb :=
  answerAction_ptb ..

@[simp] theorem clearLatch_ptb (s : State) : (clearLatch s).ptb = s.ptb := rfl

@[simp] theorem modCfg_ptb (st : Stn) (f : StationCfg → StationCfg) (s : State) : (modCfg st f s).ptb = s.ptb := rfl

@[simp] theorem recheckGeometry_ptb (s : State) : (recheckGeometry s).ptb = s.ptb := rfl

@[simp] theorem recheckInterlock_ptb (s : State) : (recheckInterlock s).ptb = s.ptb := rfl

@[simp] theorem recheckReaction_ptb (s : State) : (recheckReaction s).ptb = s.ptb := rfl

/-! #### Table requests -/

theorem readBody_inOrder (m : Msg) (h : PalletTable s) : PalletTable (readBody m s).1 :=
  atWord_leaves h fun w => by split <;> simp [only]

/-- R27: offset_max is no part of a record or a list. -/
theorem plainWriteBody_inOrder (m : Msg) (h : PalletTable s) : PalletTable (plainWriteBody m s).1 :=
  atWord_inOrder h fun _ => by
    split
    · refine PalletTable.congr ?_ (writeDone_ptb ..)
      exact ⟨h.tagged, h.oneRecord, h.oncePerList, h.listOfDestination, h.admission⟩
    · exact h.congr (writeSays_ptb ..)

theorem highWordBody_inOrder (m : Msg) (h : PalletTable s) : PalletTable (highWordBody m s).1 :=
  atWord_leaves h fun _ => by
    split
    · simp
    · simp only [only, highWordStored]
      split_ifs <;> simp

theorem recipeBody_inOrder (m : Msg) (h : PalletTable s) : PalletTable (recipeBody m s).1 :=
  atWord_leaves h fun _ => by dsimp only; split <;> simp [only]

theorem stationConfigBody_inOrder (m : Msg) (h : PalletTable s) : PalletTable (stationConfigBody m s).1 :=
  atWord_leaves h fun _ => by
    dsimp only
    repeat' split
    all_goals simp [only]

theorem windTolBody_inOrder (m : Msg) (h : PalletTable s) : PalletTable (windTolBody m s).1 :=
  atWord_leaves h fun _ => by
    dsimp only
    repeat' split
    all_goals simp [only]

theorem zoneBody_inOrder (m : Msg) (h : PalletTable s) : PalletTable (zoneBody m s).1 :=
  atWord_leaves h fun _ => by
    repeat' split
    all_goals simp

theorem capacityBody_inOrder (m : Msg) (h : PalletTable s) : PalletTable (capacityBody m s).1 :=
  atWord_leaves h fun _ => by split <;> simp

@[simp] theorem resetProcs_ptb (l : List Stn) (s : State) : (resetProcs l s).ptb = s.ptb :=
  foldl_keeps (f := fun s st => s.modProc st (fun _ => resetProcess)) (g := fun s => s.ptb) (fun _ _ => rfl) l s

theorem loadWrite_inOrder (m : Msg) (h : PalletTable s) : PalletTable (loadWrite m s).1 := by
  unfold loadWrite
  dsimp only
  split_ifs
  case neg =>
    have h' : PalletTable (writeDone m m.argB.toNat (resetProcs [s.stb.load, ⟨m.argB.toNat, by assumption⟩] s)) :=
      h.congr (by simp)
    exact h'.noAdmission.congr rfl
  all_goals exact h.congr (by simp [only])

theorem reworkWrite_inOrder (m : Msg) (h : PalletTable s) : PalletTable (reworkWrite m s).1 := by
  refine h.congr ?_
  unfold reworkWrite
  split
  · simp
  · dsimp only
    split_ifs <;> simp [only]

theorem designationBody_inOrder (m : Msg) (h : PalletTable s) : PalletTable (designationBody m s).1 :=
  atWord_inOrder h fun _ => by split <;> [exact loadWrite_inOrder m h; exact reworkWrite_inOrder m h]

theorem controllerBody_inOrder (m : Msg) (h : PalletTable s) : PalletTable (controllerBody m s).1 :=
  atWord_leaves h fun _ => by split <;> simp [only]

theorem summaryBody_inOrder (m : Msg) (h : PalletTable s) : PalletTable (summaryBody m s).1 :=
  atWord_leaves h fun _ => by simp [only]

theorem maskBody_inOrder (m : Msg) (h : PalletTable s) : PalletTable (maskBody m s).1 :=
  atWord_leaves h fun _ => by dsimp only; split <;> simp [only]

@[simp] theorem filterActive_ptb (z : Zone) (s : State) : (filterActive z s).1.ptb = s.ptb := by simp [filterActive, only]

@[simp] theorem filterInactive_ptb (z : Zone) (s : State) : (filterInactive z s).1.ptb = s.ptb := by
  unfold filterInactive; dsimp only; split <;> simp [only]

@[simp] theorem judgeFilter_ptb (z : Zone) (s : State) : (judgeFilter z s).1.ptb = s.ptb := by
  unfold judgeFilter; split_ifs <;> simp [only]

theorem filterBody_inOrder (m : Msg) (h : PalletTable s) : PalletTable (filterBody m s).1 :=
  atWord_leaves h fun _ => by simp

theorem exitModeBody_inOrder (m : Msg) (h : PalletTable s) : PalletTable (exitModeBody m s).1 :=
  atWord_leaves h fun _ => by dsimp only; split_ifs <;> simp [only]

theorem interlockBody_inOrder (m : Msg) (h : PalletTable s) : PalletTable (interlockBody m s).1 :=
  atWord_leaves h fun _ => by
    dsimp only
    repeat' split
    all_goals simp [only]

theorem reactionBody_inOrder (m : Msg) (h : PalletTable s) : PalletTable (reactionBody m s).1 :=
  atWord_leaves h fun _ => by
    dsimp only
    repeat' split
    all_goals simp [only]

theorem counterBody_inOrder (m : Msg) (h : PalletTable s) : PalletTable (counterBody m s).1 :=
  atWord_leaves h fun _ => by
    dsimp only
    repeat' split
    all_goals simp [only]

/-- R45: a written record keeps its tag and its state. -/
theorem writeRecord_tag (s : State) (r : Record) (w v : Nat) : (writeRecord s r w v).tag = r.tag := by
  unfold writeRecord; split_ifs <;> rfl

theorem writeRecord_listOf (s : State) (r : Record) (w v : Nat) : listOf (writeRecord s r w v) = listOf r := by
  unfold writeRecord; split_ifs <;> rfl

theorem recordBody_inOrder (m : Msg) (h : PalletTable s) : PalletTable (recordBody m s).1 :=
  atWord_inOrder h fun _ => by
    split
    · dsimp only
      split
      · exact h.congr (writeSays_ptb ..)
      next hi =>
        split
        · exact (h.setSlot_same (h.hasRecord hi) (writeRecord_tag ..) (writeRecord_listOf ..)).congr (writeDone_ptb ..)
        · exact h.congr (writeSays_ptb ..)
    · exact h.congr (writeSays_ptb ..)

/-! #### Actions -/

theorem cancelBody_inOrder (m : Msg) (h : PalletTable s) : PalletTable (cancelBody m s).1 := by
  refine fromController_leaves h ?_
  split
  · simp
  · split
    · simp
    · dsimp only
      repeat' split
      all_goals simp [duePass, beginCancel]

theorem modeBody_inOrder (m : Msg) (h : PalletTable s) : PalletTable (modeBody m s).1 := by
  refine fromController_leaves h ?_
  split
  · split_ifs <;> simp [only, setPending]
  · simp

/-- R44: a record that may be freed is not in TRANSIT. -/
theorem listOf_of_forgettable {r : Record} (h : forgettable s r = true) : listOf r = none := by
  refine listOf_eq_none.2 fun d dl hd => ?_
  simp [forgettable, hd] at h

theorem forgetBody_inOrder (m : Msg) (h : PalletTable s) : PalletTable (forgetBody m s).1 := by
  refine fromController_inOrder h ?_
  split
  · exact h.congr (reply_ptb ..)
  · split
    · exact h.congr (reply_ptb ..)
    · split
      · exact h.congr (reply_ptb ..)
      next hi =>
        split
        next hf =>
          exact freeRecord_inOrder _ (h.congr (answerAction_ptb s m .done 0)) (by simpa using hi) (listOf_of_forgettable hf)
        next => exact h.congr (reply_ptb ..)

theorem findBody_inOrder (m : Msg) (h : PalletTable s) : PalletTable (findBody m s).1 := by
  refine fromController_leaves h ?_
  split
  · simp
  · split <;> simp

theorem commitBody_inOrder (m : Msg) (h : PalletTable s) : PalletTable (commitBody m s).1 := by
  refine fromController_leaves h ?_
  dsimp only
  repeat' split
  all_goals simp [only, activate]

theorem discardBody_inOrder (m : Msg) (h : PalletTable s) : PalletTable (discardBody m s).1 := by
  refine fromController_leaves h ?_
  dsimp only
  split <;> simp [only]

theorem freezeBody_inOrder (m : Msg) (h : PalletTable s) : PalletTable (freezeBody m s).1 :=
  fromController_leaves h (by simp [only])

theorem trapSetBody_inOrder (m : Msg) (h : PalletTable s) : PalletTable (trapSetBody m s).1 := by
  refine fromController_leaves h ?_
  split <;> simp [only]

theorem trapAckBody_inOrder (m : Msg) (h : PalletTable s) : PalletTable (trapAckBody m s).1 := by
  refine fromController_leaves h ?_
  dsimp only
  repeat' split
  all_goals simp

@[simp] theorem clearFault_ptb (k : FaultKind) (s : State) : (clearFault k s).ptb = s.ptb := rfl

theorem faultAckBody_inOrder (m : Msg) (h : PalletTable s) : PalletTable (faultAckBody m s).1 := by
  refine fromController_leaves h ?_
  dsimp only
  split_ifs <;> simp [only]

theorem clearCountsBody_inOrder (m : Msg) (h : PalletTable s) : PalletTable (clearCountsBody m s).1 :=
  fromController_leaves h (by simp [only])

@[simp] theorem scanned_ptb (s : State) : (scanned s).ptb = s.ptb := rfl

@[simp] theorem scan_ptb (s : State) : (scan s).ptb = s.ptb := by unfold scan; dsimp only; split <;> simp

theorem recoverBody_inOrder (m : Msg) (h : PalletTable s) : PalletTable (recoverBody m s).1 := by
  refine fromController_leaves h ?_
  dsimp only
  repeat' split
  all_goals simp

theorem snapshotBody_inOrder (m : Msg) (h : PalletTable s) : PalletTable (snapshotBody m s).1 :=
  fromController_leaves h (by simp [only])

theorem clearCountersBody_inOrder (m : Msg) (h : PalletTable s) : PalletTable (clearCountersBody m s).1 :=
  fromController_leaves h (by simp [only])

theorem unknownBody_inOrder (m : Msg) (h : PalletTable s) : PalletTable (unknownBody m s).1 :=
  fromController_leaves h (reply_ptb ..)

theorem setTimeBody_inOrder (m : Msg) (h : PalletTable s) : PalletTable (setTimeBody m s).1 :=
  fromController_leaves h (by simp [only])

/-- R46: a soft reset empties the pallet table. -/
theorem softReset_inOrder (s : State) : PalletTable (softReset s) :=
  palletTable_of_empty (fun i => by simp [softReset, Ptb.soft]) (fun st => by simp [softReset, Ptb.soft]) rfl

theorem resetBody_inOrder (m : Msg) (h : PalletTable s) : PalletTable (resetBody m s).1 :=
  fromController_inOrder h ((softReset_inOrder s).congr (by simp [only]))

/-! #### Station requests -/

theorem holdBody_inOrder (m : Msg) (h : PalletTable s) : PalletTable (holdBody m s).1 := by
  refine h.congr ?_
  unfold holdBody; split <;> simp [only]

@[simp] theorem refuseStillHeld_ptb (m : Msg) (v : StnSet) (s : State) : (refuseStillHeld m v s).ptb = s.ptb :=
  foldl_keeps (g := fun s => s.ptb) (fun s _ => refuseHeld_ptb s ..) _ s

theorem resumeBody_inOrder (m : Msg) (h : PalletTable s) : PalletTable (resumeBody m s).1 := by
  refine h.congr ?_
  unfold resumeBody
  split_ifs <;> simp [only]

theorem jogReferBody_inOrder (m : Msg) (h : PalletTable s) : PalletTable (jogReferBody m s).1 := by
  refine h.congr ?_
  unfold jogReferBody
  repeat' split
  all_goals simp [only, forward]

theorem notAllowedBody_inOrder (m : Msg) (h : PalletTable s) : PalletTable (notAllowedBody m s).1 := by
  refine h.congr ?_
  unfold notAllowedBody; split_ifs <;> simp [only]

theorem forwardBody_inOrder (m : Msg) (h : PalletTable s) : PalletTable (forwardBody m s).1 := by
  refine h.congr ?_
  unfold forwardBody; split <;> simp [only, forward]

/-- R5: the taking of a message keeps the pallet table in order. -/
theorem bodyOf_inOrder {i : Instr} {body : Msg → State → Eff} (hb : bodyOf i = some body) (m : Msg) (h : PalletTable s) :
    PalletTable (body m s).1 := by
  cases i with
  | hold => cases hb; exact holdBody_inOrder m h
  | resume => cases hb; exact resumeBody_inOrder m h
  | clamp | cycle | release => cases hb; exact h.congr (requestBody_ptb ..)
  | jog | refer => cases hb; exact jogReferBody_inOrder m h
  | move | stop | abort => cases hb; exact notAllowedBody_inOrder m h
  | statusReq | downlaneForward => cases hb; exact forwardBody_inOrder m h
  | tblRead => cases hb; exact readBody_inOrder m h
  | tblWrite => cases hb; exact plainWriteBody_inOrder m h
  | wideHighWordWrite => cases hb; exact highWordBody_inOrder m h
  | recipeWrite => cases hb; exact recipeBody_inOrder m h
  | stationConfigWrite => cases hb; exact stationConfigBody_inOrder m h
  | windLimitToleranceWrite => cases hb; exact windTolBody_inOrder m h
  | zoneWrite => cases hb; exact zoneBody_inOrder m h
  | approachCapacityWrite => cases hb; exact capacityBody_inOrder m h
  | designationWrite => cases hb; exact designationBody_inOrder m h
  | controllerNodeWrite => cases hb; exact controllerBody_inOrder m h
  | eventSummaryWrite => cases hb; exact summaryBody_inOrder m h
  | maskWrite => cases hb; exact maskBody_inOrder m h
  | filterWrite => cases hb; exact filterBody_inOrder m h
  | exitModeWrite => cases hb; exact exitModeBody_inOrder m h
  | interlockWrite => cases hb; exact interlockBody_inOrder m h
  | reactionWrite => cases hb; exact reactionBody_inOrder m h
  | counterConfigWrite => cases hb; exact counterBody_inOrder m h
  | palletRecordWrite => cases hb; exact recordBody_inOrder m h
  | index => cases hb; exact h.congr (indexBody_ptb ..)
  | cancel => cases hb; exact cancelBody_inOrder m h
  | mode => cases hb; exact modeBody_inOrder m h
  | forget => cases hb; exact forgetBody_inOrder m h
  | find => cases hb; exact findBody_inOrder m h
  | commit => cases hb; exact commitBody_inOrder m h
  | discard => cases hb; exact discardBody_inOrder m h
  | freeze => cases hb; exact freezeBody_inOrder m h
  | trapSet => cases hb; exact trapSetBody_inOrder m h
  | trapAck => cases hb; exact trapAckBody_inOrder m h
  | faultAck => cases hb; exact faultAckBody_inOrder m h
  | clearCounts => cases hb; exact clearCountsBody_inOrder m h
  | recover => cases hb; exact recoverBody_inOrder m h
  | snapshot => cases hb; exact snapshotBody_inOrder m h
  | clearCounters => cases hb; exact clearCountersBody_inOrder m h
  | setTime => cases hb; exact setTimeBody_inOrder m h
  | reset => cases hb; exact resetBody_inOrder m h
  | unknownActionCode => cases hb; exact unknownBody_inOrder m h
  | _ => cases hb

end
end Sys2Proof.Machine
end

section
namespace Sys2Proof.Machine

/-! ### The pallet table in order under the commands -/

section
variable {s t : State}

theorem whenOut_inOrder {cond : Bool} {r : Unit → Eff} (h : PalletTable s) (hw : PalletTable (r ()).1)
    (he : whenOut s cond r = .next t) : PalletTable t := by
  rcases whenOut_cases s cond r with ⟨-, -, hr⟩ | hr
  · exact conclude_inOrder hw (hr.symm.trans he)
  · rw [hr] at he
    cases he
    exact h

/-- An event that leaves the pallet table to its tasks. -/
theorem whenOut_leaves {cond : Bool} {r : Unit → Eff} (h : PalletTable s) (hw : (r ()).1.ptb = s.ptb)
    (he : whenOut s cond r = .next t) : PalletTable t := whenOut_inOrder h (h.congr hw) he

theorem takeAs_inOrder {i : Instr} {body : Msg → State → Eff} (hb : bodyOf i = some body) (h : PalletTable s)
    (he : takeAs i body s = .next t) : PalletTable t := by
  rcases takeAs_takes_or_same i body s with ⟨d, -, hr⟩ | hr
  · exact conclude_inOrder (bodyOf_inOrder hb d.msg (s := removeDiq d s) (h.congr rfl)) (hr.symm.trans he)
  · rw [hr] at he
    cases he
    exact h

/-! #### The time -/

@[simp] theorem windUpdate_ptb (st : Stn) (p : Option Plan) (a : Angle) (s : State) : (windUpdate st p a s).ptb = s.ptb := by
  unfold windUpdate; dsimp only; split_ifs <;> simp

@[simp] theorem expireEntry_ptb (e : EntryNo) (en : Entry) (s : State) : (expireEntry e en s).1.ptb = s.ptb := by
  unfold expireEntry; dsimp only; split <;> simp [duePass]

@[simp] theorem escalate_ptb (k : FaultKind) (s : State) : (escalate k s).ptb = s.ptb := by simp [escalate, raised]

theorem transitDue_listOf {now : Time} {r : Record} {d : Stn} (h : transitDue now r = some d) : listOf r = some d := by
  unfold transitDue at h
  split at h
  next d' dl hr =>
    split at h <;> cases h
    exact listOf_eq_some.2 ⟨dl, hr⟩
  next => cases h

/-- The events of the time keep the pallet table in order (R31, R186). -/
theorem timedEvent_inOrder {f : State → Host.Outcome State Fault Refusal} (hf : f ∈ timedEvents) (h : PalletTable s)
    (he : f s = .next t) : PalletTable t := by
  simp only [timedEvents, List.append_assoc, List.mem_append, List.mem_cons, List.not_mem_nil, or_false, List.mem_map] at hf
  obtain (rfl | rfl | rfl | rfl) | ⟨i, -, rfl⟩ | ⟨i, -, rfl⟩ | ⟨i, -, rfl⟩ | ⟨i, -, rfl⟩ | ⟨i, -, rfl⟩ := hf
  · exact whenOut_leaves h (filterActive_ptb ..) he
  · exact whenOut_leaves h (filterInactive_ptb ..) he
  · exact whenOut_leaves h (filterActive_ptb ..) he
  · exact whenOut_leaves h (filterInactive_ptb ..) he
  · unfold execTransitExpiry at he
    split at he
    · cases he; exact h
    next r hi =>
      split at he
      · cases he; exact h
      next d hd => exact whenOut_inOrder h (transitExpired_inOrder h hi (transitDue_listOf hd)) he
  · exact whenOut_inOrder h (settleOver_inOrder i h) he
  · unfold execEntryDeadlineExpiry at he
    split at he
    · cases he; exact h
    · exact whenOut_leaves h (expireEntry_ptb ..) he
  · unfold execDeferExpiry at he
    split at he
    · cases he; exact h
    · exact whenOut_leaves h rfl he
  · exact whenOut_leaves h (escalate_ptb ..) he

theorem takeDue_inOrder (h : PalletTable s) (he : takeDue s = .next t) : PalletTable t :=
  takeDue_keeps (fun _ hf _ _ hs hr => timedEvent_inOrder hf hs hr) h he

theorem execTimeTick_inOrder (h : PalletTable s) (he : execTimeTick s = .next t) : PalletTable t := by
  unfold execTimeTick at he
  split at he
  · cases he; exact h
  · obtain ⟨u, hu, hc⟩ := follow_eq_next he
    have hu' : PalletTable u := takeDue_inOrder (s := advanceTime s) (h.congr rfl) hu
    exact conclude_inOrder (hu'.congr rfl) hc

theorem execSetTime_inOrder (h : PalletTable s) (he : execSetTime s = .next t) : PalletTable t := by
  obtain ⟨u, hu, hc⟩ := follow_eq_next he
  have := takeAs_inOrder (i := .setTime) rfl h hu
  split at hc
  · exact takeDue_inOrder this hc
  · cases hc; exact this

/-! #### Links and transmission -/

@[simp] theorem forgetSent_ptb (p : Port) (s : State) : (forgetSent p s).ptb = s.ptb := by cases p <;> rfl

@[simp] theorem discardMessage_ptb (p : Port) (s : State) : (discardMessage p s).ptb = s.ptb := by simp [discardMessage]

@[simp] theorem enterDiq_ptb (m : Msg) (s : State) : (enterDiq m s).ptb = s.ptb := rfl

@[simp] theorem enterUiq_ptb (m : Msg) (s : State) : (enterUiq m s).ptb = s.ptb := rfl

@[simp] theorem startTx_ptb (p : Port) (m : Msg) (s : State) : (startTx p m s).ptb = s.ptb := State.setPort_ptb ..

@[simp] theorem serveA_ptb (v : Served) (s : State) : (serveA v s).ptb = s.ptb := by
  unfold serveA
  repeat' split
  all_goals simp

@[simp] theorem enqueueAllOwed_ptb (s : State) : (enqueueAllOwed s).ptb = s.ptb :=
  foldl_keeps (g := fun s => s.ptb) (fun s st => by split <;> rfl) _ s

@[simp] theorem issueEntry_ptb (e : EntryNo) (s : State) : (issueEntry e s).ptb = s.ptb := by
  unfold issueEntry; split <;> rfl

@[simp] theorem noteReleased_ptb (e : Option EntryNo) (p : Option Tag) (s : State) : (noteReleased e p s).ptb = s.ptb := by
  unfold noteReleased; split <;> rfl

theorem transmitted_inOrder (m : Msg) (e : Option EntryNo) (h : PalletTable s) : PalletTable (transmitted m e s).1 := by
  unfold transmitted
  split
  · exact h
  · split_ifs
    · exact h.congr rfl
    · exact releaseTransmitted_inOrder _ _ (h.congr (noteReleased_ptb ..))
    · exact h.congr (clearReference_ptb ..)
    · exact h

theorem transmitHead_inOrder (d : DeqItem) (rest : List DeqItem) (h : PalletTable s) :
    PalletTable (transmitHead d rest s).1 := by
  unfold transmitHead
  dsimp only
  split
  · refine transmitted_inOrder _ _ ?_
    split <;> exact h.congr (by simp)
  · split <;> exact h.congr (by simp [only])

@[simp] theorem transmitStop_ptb (u : UgqItem) (rest : List UgqItem) (s : State) : (transmitStop u rest s).ptb = s.ptb := by
  unfold transmitStop; dsimp only; split <;> simp

/-! #### Reports -/

@[simp] theorem atUncommanded_ptb (st : Stn) (a : Angle) (s : State) : (atUncommanded st a s).ptb = s.ptb := by
  unfold atUncommanded; dsimp only; split_ifs <;> simp

@[simp] theorem applyAt_ptb (st : Stn) (m : Msg) (s : State) : (applyAt st m s).1.ptb = s.ptb := by
  unfold applyAt
  dsimp only
  repeat' split
  all_goals simp [only, atReferenced]

theorem applyTag_inOrder (st : Stn) (m : Msg) (h : PalletTable s) : PalletTable (applyTag st m s).1 := by
  unfold applyTag; split <;> [exact tagAtLoad_inOrder _ _ _ _ h; exact tagElsewhere_inOrder _ _ h]

@[simp] theorem applyClamped_ptb (st : Stn) (m : Msg) (s : State) : (applyClamped st m s).1.ptb = s.ptb := by
  unfold applyClamped; dsimp only; split <;> rfl

@[simp] theorem applyTool_ptb (st : Stn) (m : Msg) (s : State) : (applyTool st m s).1.ptb = s.ptb := by
  unfold applyTool; dsimp only; split <;> simp [only]

@[simp] theorem applyCycleEnd_ptb (st : Stn) (m : Msg) (s : State) : (applyCycleEnd st m s).1.ptb = s.ptb := by
  unfold applyCycleEnd
  repeat' split
  all_goals rfl

theorem applyGone_inOrder (st : Stn) (m : Msg) (h : PalletTable s) : PalletTable (applyGone st m s).1 :=
  (goneOccupant_inOrder st h).congr (onGone_ptb ..)

@[simp] theorem applyNodeFault_ptb (st : Stn) (m : Msg) (s : State) : (applyNodeFault st m s).1.ptb = s.ptb := occur_ptb ..

theorem reportAs_inOrder {kind : Byte} {apply : Stn → Msg → State → Eff} {m : Msg}
    (ha : ∀ st x, PalletTable x → PalletTable (apply st m x).1) (h : PalletTable s)
    (he : reportAs kind apply m s = .next t) : PalletTable t := by
  refine whenOut_inOrder h ?_ he
  split
  · split
    · exact ha _ _ (h.congr rfl)
    · exact h.congr rfl
  · exact h.congr (discardMessage_ptb ..)

theorem atReset_inOrder (cause : ResetCause) (straps : Node) (rawA rawB : Bool) (q : List Instr) :
    PalletTable (State.atReset cause straps rawA rawB q) :=
  palletTable_of_empty (fun i => by simp [State.atReset, resetPtb]) (fun st => by simp [State.atReset, resetPtb]) rfl

/-- R24, R28, R31, R41: every command keeps the pallet table in order. -/
theorem exec_inOrder (i : Instr) (h : PalletTable s) (he : exec i s = .next t) : PalletTable t := by
  by_cases hi : takesFromDiq i = true
  · by_cases hs : i = .setTime
    · subst hs
      exact execSetTime_inOrder h he
    · obtain ⟨body, hb⟩ := bodyOf_isSome hi
      rw [exec_of_bodyOf hb hs] at he
      exact takeAs_inOrder hb h he
  · cases i with
    | powerOnReset straps rawA rawB => cases he; exact atReset_inOrder ..
    | pinReset straps =>
      change execPinReset straps s = _ at he
      unfold execPinReset at he
      split at he <;> cases he
      · exact atReset_inOrder ..
      · exact h
    | linkUp p =>
      change execLinkUp p s = _ at he
      exact whenOut_leaves h (by simp [only]) he
    | linkDown p =>
      change execLinkDown p s = _ at he
      exact whenOut_leaves h (by simp) he
    | trapInputChange z =>
      change execTrapInputChange z s = _ at he
      unfold execTrapInputChange at he
      split at he
      · cases he; exact h.congr (State.setZone_ptb ..)
      · exact conclude_inOrder (h.congr (by simp)) he
    | trapFilterAssert z =>
      change execTrapFilterAssert z s = _ at he
      exact whenOut_leaves h (filterActive_ptb ..) he
    | trapFilterRelease z =>
      change execTrapFilterRelease z s = _ at he
      exact whenOut_leaves h (filterInactive_ptb ..) he
    | timeTick => exact execTimeTick_inOrder h he
    | integrityScan =>
      change execIntegrityScan s = _ at he
      exact whenOut_leaves h (by simp [only]) he
    | transitExpiry slot => exact timedEvent_inOrder (f := execTransitExpiry slot) (by simp [timedEvents]) h he
    | settleExpiry st => exact timedEvent_inOrder (f := execSettleExpiry st) (by simp [timedEvents, allStn, allEntries]) h he
    | entryDeadlineExpiry e =>
      exact timedEvent_inOrder (f := execEntryDeadlineExpiry e) (by simp [timedEvents, allStn, allEntries]) h he
    | deferExpiry e => exact timedEvent_inOrder (f := execDeferExpiry e) (by simp [timedEvents, allStn, allEntries]) h he
    | escalation k => exact timedEvent_inOrder (f := execEscalation k) (by simp [timedEvents]) h he
    | downlaneReceive m =>
      change execDownlaneReceive m s = _ at he
      exact whenOut_leaves h (by dsimp only [only]; split <;> simp) he
    | messageDiscarded p =>
      change execMessageDiscarded p s = _ at he
      exact whenOut_leaves h (discardMessage_ptb ..) he
    | tagReport m => exact reportAs_inOrder (fun st _ hx => applyTag_inOrder st m hx) h he
    | atReport m => exact reportAs_inOrder (fun st _ hx => hx.congr (applyAt_ptb st m _)) h he
    | clampedReport m => exact reportAs_inOrder (fun st _ hx => hx.congr (applyClamped_ptb st m _)) h he
    | toolReport m => exact reportAs_inOrder (fun st _ hx => hx.congr (applyTool_ptb st m _)) h he
    | cycleEndReport m => exact reportAs_inOrder (fun st _ hx => hx.congr (applyCycleEnd_ptb st m _)) h he
    | goneReport m => exact reportAs_inOrder (fun st _ hx => applyGone_inOrder st m hx) h he
    | nodeFaultReport m => exact reportAs_inOrder (fun st _ hx => hx.congr (applyNodeFault_ptb st m _)) h he
    | uplaneForward m =>
      change execUplaneForward m s = _ at he
      exact whenOut_leaves h (by dsimp only [only]; split <;> simp) he
    | portATransmit ready =>
      change execPortATransmit ready s = _ at he
      unfold execPortATransmit at he
      split at he
      · cases he; exact h
      · exact whenOut_leaves h (serveA_ptb ..) he
    | portBHold ready =>
      change execPortBHold ready s = _ at he
      exact whenOut_leaves h (by simp [only]) he
    | portBResume ready =>
      change execPortBResume ready s = _ at he
      exact whenOut_leaves h (by simp [only]) he
    | stopAbortTransmit ready =>
      change execStopAbortTransmit ready s = _ at he
      unfold execStopAbortTransmit at he
      split at he
      · cases he; exact h
      · exact whenOut_leaves h (transmitStop_ptb ..) he
    | deqTransmit ready =>
      change execDeqTransmit ready s = _ at he
      unfold execDeqTransmit at he
      split at he
      · cases he; exact h
      · exact whenOut_inOrder h (transmitHead_inOrder _ _ h) he
    | owedStatusReqEnqueue =>
      change execOwedStatusReqEnqueue s = _ at he
      unfold execOwedStatusReqEnqueue at he
      split at he
      · cases he; exact h
      · exact whenOut_leaves h rfl he
    | sendingEntryEnqueue =>
      change execSendingEntryEnqueue s = _ at he
      unfold execSendingEntryEnqueue at he
      split at he
      · cases he; exact h
      · exact whenOut_leaves h (enqueueCommand_ptb ..) he
    | keptRefusalDelivery =>
      change execKeptRefusalDelivery s = _ at he
      unfold execKeptRefusalDelivery at he
      split at he
      · cases he; exact h
      · exact whenOut_leaves h rfl he
    | ingressPlaceClaim p =>
      change execIngressPlaceClaim p s = _ at he
      exact whenOut_leaves h (State.setPort_ptb ..) he
    | transmissionEnd p =>
      change execTransmissionEnd p s = _ at he
      exact whenOut_leaves h (State.setPort_ptb ..) he
    | resetInputLow => cases he; exact h.congr rfl
    | _ => exact absurd rfl hi

end
end Sys2Proof.Machine

namespace Sys2Proof.Proofs
open Sys2Proof.Machine

/-- Settles O7: a step is a command, which keeps the pallet table in order, or a period of the clock, which leaves it. -/
theorem everyStepKeepsThePalletTable : Obligations.EveryStepKeepsThePalletTable := by
  intro s t h hs
  unfold step at hs
  split at hs
  next i rest _ => exact exec_inOrder (s := { s with pending := rest }) i (h.congr rfl) hs
  next =>
    cases hs
    unfold clockPeriod
    split
    · exact h
    · exact h.congr rfl

end Sys2Proof.Proofs
end

section
namespace Sys2Proof.Machine

/-! ### Management requests of the controller (R180) -/

section
variable {s : State} {m : Msg}

/-- R180: a table request of the controller to a word that exists. -/
theorem atWord_of_addressed {w : Nat} {r : Nat → Eff} (hc : m.src = s.mga.controller) (ha : addressed s m = some w) :
    atWord m s r = r w := by
  simp [atWord, hc, ha]

theorem fromController_of_controller {r : Eff} (hc : m.src = s.mga.controller) : fromController m s r = r := by
  simp [fromController, hc]

@[simp] theorem answerTable_ev (m : Msg) (st : Status) (v : Word) (s : State) : (answerTable m st v s).ev = s.ev := by
  simp [answerTable]

@[simp] theorem answerTable_stb (m : Msg) (st : Status) (v : Word) (s : State) : (answerTable m st v s).stb = s.stb := by
  simp [answerTable]

@[simp] theorem answerTable_ilk (m : Msg) (st : Status) (v : Word) (s : State) : (answerTable m st v s).ilk = s.ilk := by
  simp [answerTable]

@[simp] theorem answerTable_fcu (m : Msg) (st : Status) (v : Word) (s : State) : (answerTable m st v s).fcu = s.fcu := by
  simp [answerTable]

@[simp] theorem answerAction_stb (m : Msg) (st : Status) (v : Word) (s : State) : (answerAction m st v s).stb = s.stb := by
  simp [answerAction]

@[simp] theorem answerAction_rcs (m : Msg) (st : Status) (v : Word) (s : State) : (answerAction m st v s).rcs = s.rcs := by
  unfold answerAction postReply
  split_ifs <;> rfl

/-- R182: an answer to a table request reads nothing of the pallet table. -/
theorem answerTable_withPtb (m : Msg) (st : Status) (v : Word) (p : Ptb) (s : State) :
    answerTable m st v { s with ptb := p } = { answerTable m st v s with ptb := p } := by
  unfold answerTable postReply
  split_ifs <;> rfl

/-- R181, R182: an answer to a table request reads nothing of the latch. -/
theorem answerTable_withLatch (m : Msg) (st : Status) (v l : Word) (s : State) :
    answerTable m st v (s.modMga (fun g => { g with latch := l }))
      = { answerTable m st v s with mga := { s.mga with latch := l } } := by
  unfold answerTable postReply State.modMga
  split_ifs <;> rfl

/-- R182: the event of an answer to a table request without effect. -/
theorem conclude_tableAnswer {d : DiqItem} (hs : BetweenEvents s) (st : Status) (v : Nat) :
    conclude (only (answerTable d.msg st (BitVec.ofNat 16 v) (removeDiq d s))) = .next (tableAnswered d st v s) :=
  conclude_only_clear (by simp [removeDiq, hs])

end

section
variable {d : DiqItem} {s : State} {w : Nat} (hs : BetweenEvents s) (hc : FromController d s)
  (ha : addressed s d.msg = some w)
include hc ha

/-- A table request of the controller to a word that exists, taken: the part of its row. -/
theorem exec_atWord {i : Instr} {body : Msg → State → Eff} {r : Msg → State → Nat → Eff} (hb : bodyOf i = some body)
    (hi : i ≠ .setTime) (ht : Takes i d s) (hr : ∀ m x, body m x = atWord m x (r m x)) :
    exec i s = conclude (r d.msg (removeDiq d s) w) := by
  rw [exec_takes hb hi ht, hr, atWord_of_addressed (s := removeDiq d s) hc ha]

end

/-- An action of the controller, taken: the part of its row. -/
theorem exec_fromController {d : DiqItem} {s : State} {i : Instr} {body : Msg → State → Eff} {r : Msg → State → Eff}
    (hb : bodyOf i = some body) (hi : i ≠ .setTime) (ht : Takes i d s) (hc : FromController d s)
    (hr : ∀ m x, body m x = fromController m x (r m x)) : exec i s = conclude (r d.msg (removeDiq d s)) := by
  rw [exec_takes hb hi ht, hr, fromController_of_controller (s := removeDiq d s) hc]

theorem clampNat_zero (n v : Nat) : clampNat 0 n v = min n v := by
  unfold clampNat
  split_ifs <;> omega

end Sys2Proof.Machine
end

section
namespace Sys2Proof.Machine

/-! ### Records named by an action (R43, R44) -/

section
variable {s : State} {p : Tag} {i : Slot} {r : Record} {m : Msg}

/-- R24: the first slot that holds a record of the tag. -/
theorem slotOf_of_first (hi : s.ptb.slots.get i = some r) (ht : r.tag = p)
    (hf : ∀ j, j < i → ∀ q, s.ptb.slots.get j = some q → q.tag ≠ p) : slotOf s p = some i := by
  rw [slotOf, ← Fin.find?_eq_find?_finRange, Fin.find?_eq_some_iff]
  refine ⟨by simp [hi, ht], fun j hj => ?_⟩
  cases hq : s.ptb.slots.get j with
  | none => rfl
  | some q => simpa using hf j hj q hq

/-- R24: the lowest-numbered free slot. -/
theorem freeSlot_of_first (hi : s.ptb.slots.get i = none) (hf : ∀ j, j < i → s.ptb.slots.get j ≠ none) :
    freeSlot s = some i := by
  rw [freeSlot, ← Fin.find?_eq_find?_finRange, Fin.find?_eq_some_iff]
  exact ⟨by simp [hi], fun j hj => Option.isNone_eq_false_iff.2 (Option.isSome_iff_ne_none.2 (hf j hj))⟩

/-- R43: a tag fits in 12 bits, so that a record has the tag of argB exactly where their numbers are equal. -/
theorem tagOf_of_tag (h : p.toNat = m.argB.toNat) : tagOf? m = some p := by
  have hlt : m.argB.toNat < 4096 := h ▸ p.isLt
  rw [tagOf?, if_pos hlt]
  refine congrArg some (BitVec.eq_of_toNat_eq ?_)
  rw [BitVec.toNat_setWidth, h]
  omega

theorem toNat_of_tagOf (h : tagOf? m = some p) : p.toNat = m.argB.toNat := by
  unfold tagOf? at h
  split at h <;> cases h
  rw [BitVec.toNat_setWidth]
  omega

theorem namedSlot_of_first (hi : s.ptb.slots.get i = some r) (ht : r.tag.toNat = m.argB.toNat)
    (hf : ∀ j, j < i → ∀ q, s.ptb.slots.get j = some q → q.tag ≠ r.tag) : namedSlot s m = some i := by
  rw [namedSlot, tagOf_of_tag ht, Option.bind_some, slotOf_of_first hi rfl hf]

/-- R43: no slot is named where no record holds the tag. -/
theorem namedSlot_eq_none (h : ∀ i r, s.ptb.slots.get i = some r → r.tag.toNat ≠ m.argB.toNat) : namedSlot s m = none := by
  refine Option.eq_none_iff_forall_ne_some.2 fun i hi => ?_
  obtain ⟨p, hp, hs⟩ := Option.bind_eq_some_iff.1 hi
  obtain ⟨r, hr, rfl⟩ := slotOf_eq_some hs
  exact h i r hr (toNat_of_tagOf hp)

/-- Of the slots that hold a record of some tag there is a first. -/
theorem exists_first_slot (hi : s.ptb.slots.get i = some r) : ∃ j q, s.ptb.slots.get j = some q ∧ q.tag = r.tag
    ∧ ∀ k, k < j → ∀ x, s.ptb.slots.get k = some x → x.tag ≠ q.tag := by
  cases hs : slotOf s r.tag with
  | none => exact absurd rfl (slotOf_eq_none.1 hs i r hi)
  | some j =>
    obtain ⟨q, hq, ht⟩ := slotOf_eq_some hs
    rw [slotOf, ← Fin.find?_eq_find?_finRange, Fin.find?_eq_some_iff] at hs
    refine ⟨j, q, hq, ht, fun k hk x hx => ?_⟩
    simpa [hx, ht] using hs.2 k hk

theorem forgettable_iff : forgettable s r = true ↔ (∃ l, r.rstate = .lost l) ∨
    (∃ x, r.rstate = .present x ∧ (x = s.stb.load ∨ s.stb.rework = some x) ∧ (s.station x).mode = .manual) := by
  unfold forgettable
  split
  next l h => simp [h]
  next l h => simp [h, isMachining_eq_false]
  next d dl h => simp [h]

/-- R44: every station that has the tag as its tracked occupant has it as an unmanaged one. -/
theorem freeRecord_station (i : Slot) (p : Tag) (s : State) (x : Stn) : (freeRecord i p s).station x
    = if (s.station x).occupant = .tracked p then { s.station x with occupant := .unmanaged p } else s.station x := by
  simp only [freeRecord, State.station, Vector.get_eq_getElem, Vector.getElem_map]
  rfl

/-- R41: where no admission waits, a free slot is taken by none. -/
theorem retryAdmission_of_none (h : s.ptb.pendingAdm = none) : retryAdmission s = only s := by
  simp [retryAdmission, h]

/-- R59: where no bank is RETIRING, none retires. -/
theorem retireBank_of_none {t : Tag} (h : retiringBank s = none) : retireBank t s = s := by
  simp [retireBank, h]

/-- R41, R44, R59: after a record is freed, the retry of an admission and the retirement of a bank, here of none. -/
theorem conclude_forgotten {t : Tag} (hs : BetweenEvents s) (hadm : s.ptb.pendingAdm = none) (hret : retiringBank s = none) :
    conclude (s, [.retryAdmission, .retire t]) = .next s := by
  refine conclude_of_run (n := 4) ?_ (le_cascadeBound (by decide))
  simp only [List.cons_append, List.nil_append, runTasks_cons, perform, retryAdmission_of_none hadm,
    retireBank_of_none hret, only]
  exact (run_end 0 (by rw [hs]; rfl)).trans (by rw [closeEvent_clear hs])

end
end Sys2Proof.Machine

namespace Sys2Proof.Proofs
open Sys2Proof.Machine

/-- Settles O31: the body of FIND, case by case. -/
theorem findAnswersTheSlot : Obligations.FindAnswersTheSlot := by
  intro d s hs ht hc holds
  have hexec := exec_fromController (i := .find) rfl (by decide) ht hc (fun _ _ => rfl)
  refine ⟨fun h0 => ?_, fun i h0 hi hf => ?_, fun h0 hno => ?_⟩
  · rw [hexec, if_pos h0]
    exact conclude_answer hs .badArg 0
  · obtain ⟨r, hi, hr⟩ := hi
    have hn : namedSlot (removeDiq d s) d.msg = some i :=
      namedSlot_of_first (s := removeDiq d s) hi hr fun j hj q hq hqr => hf j hj ⟨q, hq, hqr ▸ hr⟩
    rw [hexec, if_neg h0, hn]
    exact conclude_answer hs .done i.val
  · have hn : namedSlot (removeDiq d s) d.msg = none :=
      namedSlot_eq_none (s := removeDiq d s) fun i r hi hr => hno i ⟨r, hi, hr⟩
    rw [hexec, if_neg h0, hn]
    exact conclude_answer hs .nothing 0

/-- Settles O41: the body of FORGET, case by case; after an allowed one no admission waits and no bank is RETIRING. -/
theorem forgetFreesTheRecord : Obligations.ForgetFreesTheRecord := by
  intro d s hs ht hc holds allowed
  have hexec := exec_fromController (i := .forget) rfl (by decide) ht hc (fun _ _ => rfl)
  have hnamed : ∀ i r, holds i r → namedSlot (removeDiq d s) d.msg = some i :=
    fun i r ⟨hi, hr, hf⟩ => namedSlot_of_first (s := removeDiq d s) hi hr hf
  have hget : ∀ i r, holds i r → (removeDiq d s).ptb.slots.get i = some r := fun i r h => h.1
  refine ⟨fun h0 => ?_, fun h0 hno => ?_, fun i r h0 hi hna => ?_, fun i r h0 hi hal hadm hret => ?_⟩
  · rw [hexec, if_pos h0]
    exact conclude_answer hs .badArg 0
  · have hn : namedSlot (removeDiq d s) d.msg = none := by
      refine namedSlot_eq_none (s := removeDiq d s) fun i r hi hr => ?_
      obtain ⟨j, q, hq, hqr, hf⟩ := exists_first_slot (s := s) hi
      exact hno j q ⟨hq, hqr ▸ hr, hf⟩
    rw [hexec, if_neg h0, hn]
    exact conclude_answer hs .nothing 0
  · have hf : ¬ forgettable (removeDiq d s) r = true := fun h => hna (forgettable_iff (s := removeDiq d s).1 h)
    simp only [hexec, if_neg h0, hnamed i r hi, hget i r hi, if_neg hf]
    exact conclude_answer hs .wrongMode 0
  · have hf : forgettable (removeDiq d s) r = true := forgettable_iff (s := removeDiq d s).2 hal
    have hev : (freeRecord i r.tag (answered d .done 0 s)).ev = clearWithin := by
      simpa [freeRecord, answered, removeDiq] using hs
    have hadm' : (freeRecord i r.tag (answered d .done 0 s)).ptb.pendingAdm = none := by simpa [freeRecord, answered] using hadm
    have hret' : retiringBank (freeRecord i r.tag (answered d .done 0 s)) = none := by
      have hrcs : (freeRecord i r.tag (answered d .done 0 s)).rcs = s.rcs := by
        simp [freeRecord, answered, State.setSlot, removeDiq]
      rwa [retiringBank, bankIn, hrcs]
    have hptb : (answered d .done 0 s).ptb = s.ptb := by simp [answered]
    have hstb : (answered d .done 0 s).stb = s.stb := by simp [answered, removeDiq]
    have hrun : exec .forget s = .next (freeRecord i r.tag (answered d .done 0 s)) := by
      rw [hexec, if_neg h0, hnamed i r hi]
      simp only [hget i r hi, if_pos hf]
      exact conclude_forgotten hev hadm' hret'
    refine ⟨_, hrun, ?_, fun x => ?_⟩
    · simp only [freeRecord, State.setSlot, hptb, hstb]
    · rw [freeRecord_station, State.station, hstb]
      rfl

end Sys2Proof.Proofs
end

section
namespace Sys2Proof.Machine

/-! ### Writes to a pallet record (R45) -/

theorem qualityBits_qualityOf (v : Nat) : qualityBits (qualityOf v) = v % 16 := by
  have hbit : ∀ i, bitN (v.testBit i) = v / 2 ^ i % 2 := fun i => by
    rw [Nat.testBit_eq_decide_div_mod_eq]
    rcases Nat.mod_two_eq_zero_or_one (v / 2 ^ i) with h | h <;> simp [h, bitN]
  simp only [qualityBits, qualityOf, hbit]
  omega

theorem incomplete_of_currentStep {s : State} {r : Record} {step : RouteStep} (h : currentStep s r = some step) :
    incomplete s r = true := by
  unfold currentStep at h
  split at h
  next rc hrc =>
    split at h
    next hlt => simpa [incomplete, routeLen, hrc] using hlt
    next => cases h
  next => cases h

section
variable {d : DiqItem} {s : State} {w : Nat} {i : Slot} (hs : BetweenEvents s) (ht : Takes .palletRecordWrite d s)
  (hc : FromController d s) (ha : addressed s d.msg = some w) (hi : addrEntry d.msg = i.val)
include hs ht hc ha hi

theorem palletRecordWrite_refused (h : ∀ r, s.ptb.slots.get i = some r → recordWritable s r = false) :
    exec .palletRecordWrite s = .next (tableAnswered d .wrongMode 0 s) := by
  have hlt : addrEntry d.msg < 48 := hi ▸ i.isLt
  have hslot : (⟨addrEntry d.msg, hlt⟩ : Slot) = i := Fin.ext hi
  rw [exec_atWord hc ha (i := .palletRecordWrite) rfl (by decide) ht (fun _ _ => rfl), dif_pos hlt, hslot]
  cases hr : s.ptb.slots.get i with
  | none =>
    have hr' : (removeDiq d s).ptb.slots.get i = none := hr
    simp only [hr']
    exact conclude_tableAnswer hs .wrongMode 0
  | some r =>
    have hr' : (removeDiq d s).ptb.slots.get i = some r := hr
    have hw : recordWritable (removeDiq d s) r = false := h r hr
    simp only [hr', hw, Bool.false_eq_true, if_false]
    exact conclude_tableAnswer hs .wrongMode 0

theorem palletRecordWrite_stored {r : Record} {st : Stn} {v : Nat} (hr : s.ptb.slots.get i = some r)
    (hp : r.rstate = .present st) (hm : (s.station st).mode = .manual)
    (hv : recordWord (writeRecord s r (addrWord d.msg) d.msg.argB.toNat) (addrWord d.msg) = some v) :
    exec .palletRecordWrite s = .next { tableAnswered d .done v s with
      ptb := { s.ptb with
        slots := upd s.ptb.slots i (fun _ => some (writeRecord s r (addrWord d.msg) d.msg.argB.toNat)) } } := by
  have hlt : addrEntry d.msg < 48 := hi ▸ i.isLt
  have hslot : (⟨addrEntry d.msg, hlt⟩ : Slot) = i := Fin.ext hi
  have hr' : (removeDiq d s).ptb.slots.get i = some r := hr
  have hw : recordWritable (removeDiq d s) r = true := by
    simp only [recordWritable, hp]
    exact beq_iff_eq.2 hm
  have hv' : recordWord (writeRecord (removeDiq d s) r (addrWord d.msg) d.msg.argB.toNat) (addrWord d.msg) = some v := hv
  rw [exec_atWord hc ha (i := .palletRecordWrite) rfl (by decide) ht (fun _ _ => rfl), dif_pos hlt, hslot]
  simp only [hr', if_pos hw, hv', Option.getD_some]
  refine (conclude_only_clear ?_).trans (congrArg _ (answerTable_withPtb ..))
  simpa [writeDone, removeDiq] using hs

end
end Sys2Proof.Machine

namespace Sys2Proof.Proofs
open Sys2Proof.Machine

/-- Settles O30: a refused write, and the stored field of each word. -/
theorem recordWritesAreClamped : Obligations.RecordWritesAreClamped := by
  intro d s w i hs ht hc ha hi k v put
  refine ⟨fun hn => ?_, fun r hr hp => ?_, fun r st hr hp hm => ?_⟩
  · exact palletRecordWrite_refused hs ht hc ha hi fun r hr => by rw [hn] at hr; cases hr
  · refine palletRecordWrite_refused hs ht hc ha hi fun q hq => ?_
    rw [hr] at hq
    cases hq
    unfold recordWritable
    split
    next l hl => simpa using hp l hl
    next => rfl
  · have hstored := fun v => palletRecordWrite_stored (v := v) hs ht hc ha hi hr hp hm
    refine ⟨fun hk => ?_, fun step hk hstep => ?_, fun hk hlen => ?_, fun hk => ?_⟩
    · have hq : writeRecord s r (addrWord d.msg) v = { r with routeCursor := min (routeLen s r) v, opCursor := 0 } := by
        rw [writeRecord, if_pos hk, clampNat_zero]
      have h := hstored (min (routeLen s r) v)
      rw [hq, show addrWord d.msg = 7 from hk] at h
      exact h rfl
    · have hk8 : addrWord d.msg = 8 := hk
      have hq : writeRecord s r (addrWord d.msg) v = { r with opCursor := min (step.count - 1) v } := by
        simp [writeRecord, hk8, incomplete_of_currentStep hstep, stepCount, hstep, clampNat_zero]
      have h := hstored (min (step.count - 1) v)
      rw [hq, hk8] at h
      exact h rfl
    · have hk8 : addrWord d.msg = 8 := hk
      have hin : incomplete s r = false := by simpa [incomplete] using hlen
      have hq : writeRecord s r (addrWord d.msg) v = { r with opCursor := 0 } := by simp [writeRecord, hk8, hin]
      have h := hstored 0
      rw [hq, hk8] at h
      exact h rfl
    · have hk9 : addrWord d.msg = 9 := hk
      have hq : writeRecord s r (addrWord d.msg) v = { r with quality := qualityOf v } := by simp [writeRecord, hk9]
      have h := hstored (v % 16)
      rw [hq, hk9] at h
      exact h (congrArg some (qualityBits_qualityOf v))

end Sys2Proof.Proofs
end

section
namespace Sys2Proof.Machine

/-! ### Writes to plain words and to high words (R27, R180, R181) -/

/-- R180: the three parts of an address make up argA. -/
theorem argA_of_address (m : Msg) : m.argA.toNat = 4096 * addrTable m + 128 * 0 + 32 * (addrEntry m) + addrWord m := by
  have := m.argA.isLt
  simp only [addrTable, addrEntry, addrWord]
  omega

theorem argA_eq_four {m : Msg} : m.argA = 4 ↔ addrTable m = 0 ∧ addrEntry m = 0 ∧ addrWord m = 4 := by
  have h := argA_of_address m
  constructor
  · intro h4
    simp [addrTable, addrEntry, addrWord, h4]
  · rintro ⟨ht, he, hw⟩
    refine BitVec.eq_of_toNat_eq ?_
    simpa [ht, he, hw] using h

section
variable {d : DiqItem} {s : State} {w : Nat} (hs : BetweenEvents s) (hc : FromController d s)
  (ha : addressed s d.msg = some w)

/-- R166, R181: the state after an accepted write to a high word, the check values as they stand then. -/
def highWordDone (d : DiqItem) (s : State) (c : Checks) : State :=
  { tableAnswered d .done d.msg.argB.toNat s with
    mga := { s.mga with latch := d.msg.argB }, fcu := { s.fcu with checks := c } }

variable (ht : Takes .wideHighWordWrite d s)
include hs hc ha ht

theorem wideHighWordWrite_refused {st : Status} (h : highWordCheck d.msg s = some st) :
    exec .wideHighWordWrite s = .next (tableAnswered d st 0 s) := by
  have h' : highWordCheck d.msg (removeDiq d s) = some st := h
  rw [exec_atWord hc ha (i := .wideHighWordWrite) rfl (by decide) ht (fun _ _ => rfl), h']
  exact conclude_tableAnswer hs st 0

omit hs in
theorem wideHighWordWrite_accepted (h : highWordCheck d.msg s = none) :
    exec .wideHighWordWrite s = conclude (only (highWordStored d.msg (highWordDone d s s.fcu.checks))) := by
  have h' : highWordCheck d.msg (removeDiq d s) = none := h
  have hdone : writeDone d.msg d.msg.argB.toNat ((removeDiq d s).modMga (fun g => { g with latch := d.msg.argB }))
      = highWordDone d s s.fcu.checks := by
    rw [writeDone, answerTable_withLatch]
    simp [highWordDone, tableAnswered, removeDiq]
  rw [exec_atWord hc ha (i := .wideHighWordWrite) rfl (by decide) ht (fun _ _ => rfl), h']
  simp only [hdone]

end

theorem highWordDone_ev (d : DiqItem) (s : State) (c : Checks) : (highWordDone d s c).ev = s.ev := by
  simp [highWordDone, tableAnswered, removeDiq]

/-- R166: the check values are computed over tables that the write leaves. -/
theorem highWordDone_recheckGeometry (d : DiqItem) (s : State) : recheckGeometry (highWordDone d s s.fcu.checks)
    = highWordDone d s { s.fcu.checks with geometry := geometryCheck s.stb.stn } := by
  have hb : (highWordDone d s s.fcu.checks).stb = s.stb := by simp [highWordDone, tableAnswered, removeDiq]
  have hv : geometryCheck (highWordDone d s s.fcu.checks).stb.stn = geometryCheck s.stb.stn := by rw [hb]
  unfold recheckGeometry
  rw [hv]
  rfl

theorem highWordDone_recheckInterlock (d : DiqItem) (s : State) : recheckInterlock (highWordDone d s s.fcu.checks)
    = highWordDone d s { s.fcu.checks with interlock := interlockCheck s.ilk.table } := by
  have hb : (highWordDone d s s.fcu.checks).ilk = s.ilk := by simp [highWordDone, tableAnswered, removeDiq]
  have hv : interlockCheck (highWordDone d s s.fcu.checks).ilk.table = interlockCheck s.ilk.table := by rw [hb]
  unfold recheckInterlock
  rw [hv]
  rfl

theorem highWordDone_recheckReaction (d : DiqItem) (s : State) : recheckReaction (highWordDone d s s.fcu.checks)
    = highWordDone d s { s.fcu.checks with reaction := reactionCheck s.fcu.reaction } := rfl

end Sys2Proof.Machine

namespace Sys2Proof.Proofs
open Sys2Proof.Machine

/-- Settles O21: the plain words, and the high words table by table. -/
theorem plainAndHighWordWrites : Obligations.PlainAndHighWordWrites := by
  unfold Obligations.PlainAndHighWordWrites
  refine ⟨fun d s w hs ht hc ha => ⟨fun h4 => ?_, fun h4 => ?_⟩, ?_⟩
  · rw [exec_atWord hc ha (i := .tblWrite) rfl (by decide) ht (fun _ _ => rfl), if_pos (argA_eq_four.1 h4)]
    simp only [clampNat_zero]
    refine (conclude_only_clear ?_).trans (congrArg _ (answerTable_withPtb ..))
    simpa [writeDone, removeDiq] using hs
  · rw [exec_atWord hc ha (i := .tblWrite) rfl (by decide) ht (fun _ _ => rfl), if_neg (argA_eq_four.not.1 h4)]
    exact conclude_tableAnswer hs .notAllowed 0
  · intro d s w hs ht hc ha stored
    have hrefused := fun st => wideHighWordWrite_refused (st := st) hs hc ha ht
    have haccepted := wideHighWordWrite_accepted hc ha ht
    have hclear : ∀ c, conclude (only (highWordDone d s c)) = .next (stored c) := fun c =>
      conclude_only_clear ((highWordDone_ev d s c).trans hs)
    refine ⟨fun st h1 h14 hst => ⟨fun hout => ?_, fun hout => ?_⟩, fun h1 h20 => ?_, fun h4 hf => ?_, fun h4 hf => ?_,
      fun h5 hk => ?_, fun h5 hk => ?_⟩
    · rw [haccepted (by simp [highWordCheck, h1, h14, hst, isOut, hout]), highWordStored, if_pos h1, if_pos h14,
        highWordDone_recheckGeometry, hclear]
    · exact hrefused .wrongMode (by simp [highWordCheck, h1, h14, hst, isOut, hout])
    · rw [haccepted (by simp [highWordCheck, h1, h20]), highWordStored, if_pos h1, if_neg (by omega), hclear]
    · have hpass : exec .wideHighWordWrite s
          = passEvent (highWordDone d s { s.fcu.checks with interlock := interlockCheck s.ilk.table }) := by
        rw [haccepted (by simp [highWordCheck, h4, hf]), highWordStored, if_neg (by omega), if_pos h4,
          highWordDone_recheckInterlock]
        rfl
      refine ⟨hpass, fun hd => hpass.trans ?_⟩
      have hd' : (highWordDone d s { s.fcu.checks with interlock := interlockCheck s.ilk.table }).ilk.deferred = [] := by
        simpa [highWordDone, tableAnswered, removeDiq] using hd
      have hev := (highWordDone_ev d s { s.fcu.checks with interlock := interlockCheck s.ilk.table }).trans hs
      exact conclude_of_run (run_end_duePass 0 hev hd') (le_cascadeBound (by decide))
    · exact hrefused .frozen (by simp [highWordCheck, h4, hf])
    · rw [haccepted (by simp [highWordCheck, h5, hk]), highWordStored, if_neg (by omega), if_neg (by omega),
        highWordDone_recheckReaction, hclear]
    · exact hrefused .notAllowed (by simp [highWordCheck, h5, hk])

end Sys2Proof.Proofs
end

section
namespace Sys2Proof.Machine

/-! ### Reports of the stations (R11, R12) -/

/-- R11, R143: the report is in the UIQ and a pass over the deferred list is due. -/
def reported (m : Msg) (s : State) : State := duePass (enterUiq m s)

/-- R143: the pass over the deferred list is over. -/
def passOver (s : State) : State := s.modEv (fun v => { v with passDue := false })

/-- R12: a report of the kind is applied at the station that it names. -/
theorem reportAs_applied {kind : Byte} {apply : Stn → Msg → State → Eff} {m : Msg} {st : Stn} {s : State}
    (h : ReportAt kind m st s) : reportAs kind apply m s = conclude (apply st m (reported m s)) := by
  obtain ⟨hr, hu, hc, hm, hk, hst, hsrc⟩ := h
  have hrep : reporter s m = some st := by simp [reporter, stn?_eq_some.2 hst, hsrc]
  unfold reportAs
  rw [whenOut_true hr (by simp [hu, hk])]
  simp only [hc, hm, hrep, Bool.and_self, if_true, reported]

theorem passOver_of_false {s : State} (h : s.ev.passDue = false) : passOver s = s := by
  unfold passOver State.modEv
  rw [← h]

/-- R143: an event without tasks of its own, whose pass finds the deferred list empty. -/
theorem conclude_only_passOver {s : State} (h : s.ilk.deferred = []) :
    conclude (only s) = .next (closeEvent (passOver s)) := by
  rw [conclude_only_pass h]
  split
  · rfl
  next hp => rw [passOver_of_false (by simpa using hp)]

/-- R143: the same, the pass being due by this event. -/
theorem conclude_only_duePass {s : State} (hp : s.ev.passDue = false) (h : s.ilk.deferred = []) :
    conclude (only (duePass s)) = .next (closeEvent s) := by
  rw [conclude_only_passOver (s := duePass s) h]
  exact congrArg (fun x => Host.Outcome.next (closeEvent x)) (passOver_of_false hp)

theorem enterUiq_passDue {m : Msg} {s : State} (hs : BetweenEvents s) : (enterUiq m s).ev.passDue = false := by
  rw [enterUiq, lmnEvent_ev_passDue]
  exact congrArg Within.passDue hs

/-! ### Occurrences (R159, R161) -/

/-- R159: a reaction at the level STATION_STOP holds the station for FAULT. -/
theorem occur_holds {k : FaultKind} {st : Stn} {p : Tag} {s : State}
    (h : ((occur k (some st) p s).faultRec k).level = .stationStop) :
    ((occur k (some st) p s).station st).holds = { (s.station st).holds with fault := true } := by
  have hst : (recordFault k (some st) p s).station st = s.station st := by simp only [State.station, recordFault_stb]
  rw [occur_stationStop h, changeHolds_station, hst, stopStation, if_pos rfl]

theorem HoldsOnly.pstate {n : Nat} {s t : State} (h : HoldsOnly n s t) (x : Stn) : (t.proc x).pstate = (s.proc x).pstate := by
  rcases h.proc x with hx | hx
  · rw [hx]
  · rw [hx, Process.holdSettle]
    split <;> rfl

theorem HoldsOnly.wait {n : Nat} {s t : State} (h : HoldsOnly n s t) (x : Stn) : (t.proc x).wait = (s.proc x).wait := by
  rcases h.proc x with hx | hx
  · rw [hx]
  · rw [hx, Process.holdSettle]
    split <;> rfl

theorem HoldsOnly.occupant {n : Nat} {s t : State} (h : HoldsOnly n s t) (x : Stn) :
    (t.station x).occupant = (s.station x).occupant := by
  obtain ⟨a, b, hx⟩ := h.station x
  rw [hx]

theorem HoldsOnly.tool {n : Nat} {s t : State} (h : HoldsOnly n s t) (x : Stn) : (t.station x).tool = (s.station x).tool := by
  obtain ⟨a, b, hx⟩ := h.station x
  rw [hx]

/-- R93: where no station waits for a route, the re-evaluation does nothing. -/
theorem reroute_of_nobody {s : State} (h : ∀ x, (s.proc x).wait ≠ .route) : reroute s = only s := by
  have hnil : routeWaiters s = [] := by
    refine List.eq_nil_iff_forall_not_mem.2 fun x hx => ?_
    rw [routeWaiters, mem_sortBy, List.mem_filter, beq_iff_eq] at hx
    exact h x hx.2
  rw [reroute, hnil]
  rfl

theorem entriesWhere_eq_nil {s : State} {p : Entry → Bool} (h : ∀ e en, s.entry? e = some en → p en = false) :
    entriesWhere s p = [] := by
  refine List.eq_nil_iff_forall_not_mem.2 fun e he => ?_
  obtain ⟨en, hen, hp⟩ := mem_entriesWhere.1 he
  exact absurd hp (by simp [h e en hen])

/-! ### The event of an occurrence (R143, R161) -/

/-- R161: the event of a fault occurrence alone, to its end. -/
def occurred (k : FaultKind) (st : Option Stn) (p : Tag) (s : State) : State := closeEvent (passOver (occur k st p s))

section
variable {k : FaultKind} {st : Option Stn} {p : Tag} {s : State}

theorem conclude_occur (h : s.ilk.deferred = []) : conclude (only (occur k st p s)) = .next (occurred k st p s) :=
  conclude_only_passOver (by rw [occur_ilk]; exact h)

theorem occurred_fcu : (occurred k st p s).fcu = (occur k st p s).fcu := closeEvent_fcu ..

theorem raises_occurred {r : State} (h : s.fcu = r.fcu) : Raises k st p r (occurred k st p s) :=
  ((raises_occur k st p s).from_fcu h).of_fcu occurred_fcu

theorem occurred_station (x : Stn) : (occurred k st p s).station x = (occur k st p s).station x := by
  simp only [State.station, occurred, closeEvent_stb]
  rfl

theorem occurred_pstates : (occurred k st p s).idx.procs.map (·.pstate) = s.idx.procs.map (·.pstate) := by
  have hidx : (occurred k st p s).idx = (occur k st p s).idx := closeEvent_idx ..
  refine vector_ext_get fun x => ?_
  rw [Vector.get_map, Vector.get_map, hidx]
  exact (holdsOnly_occur k st p s).pstate x

@[simp] theorem occurred_uiq : (occurred k st p s).chi.uiq = s.chi.uiq := (closeEvent_chi_uiq _).trans (occur_chi_uiq ..)
@[simp] theorem occurred_ptb : (occurred k st p s).ptb = s.ptb := (closeEvent_ptb _).trans (occur_ptb ..)
@[simp] theorem occurred_rcs : (occurred k st p s).rcs = s.rcs := (closeEvent_rcs _).trans (occur_rcs ..)
@[simp] theorem occurred_ilk : (occurred k st p s).ilk = s.ilk := (closeEvent_ilk _).trans (occur_ilk ..)

end

/-! ### CLAMPED (R73, R124) -/

theorem confirmedClamp_eq_none {s : State} {st : Stn} {p : Pattern} (h : ∀ e en, s.entry? e = some en → en.station = st →
    en.estate = .issued → en.params ≠ .clamp p) : confirmedClamp s st p = none := by
  rw [confirmedClamp, entriesWhere_eq_nil, List.head?_nil]
  intro e en hen
  have := h e en hen
  by_contra hc
  simp only [Bool.not_eq_false, Bool.and_eq_true, beq_iff_eq] at hc
  exact this hc.1.1 hc.1.2 hc.2

/-! ### TOOL (R72) -/

theorem atAStop_iff {s : State} {st : Stn} : atAStop s st = true ↔ FixtureAtAStop st s := by
  simp only [atAStop, Bool.and_eq_true, List.any_eq_true, List.mem_finRange, true_and]
  exact and_congr_right fun _ => exists_congr fun _ => decide_eq_true_iff

theorem inFlight_isSome {s : State} {st : Stn} {k : CmdKind} : (inFlight s st k).isSome = true ↔ ∃ e, ∃ en ∈ s.entry? e,
    en.station = st ∧ paramsKind en.params = k ∧ (en.estate = .issued ∨ en.estate = .cancelling) := by
  rw [inFlight, List.isSome_head?, ne_eq, List.eq_nil_iff_forall_not_mem]
  simp only [mem_entriesWhere, not_forall, not_not, Bool.and_eq_true, Bool.or_eq_true, beq_iff_eq, Option.mem_def, and_assoc]

/-- R72: a CLAMP entry of the station is ISSUED. -/
def ClampIssued (st : Stn) (s : State) : Prop :=
  ∃ e, ∃ en ∈ s.entry? e, en.station = st ∧ paramsKind en.params = .clamp ∧ en.estate = .issued

/-- The sensed and the commanded pattern of a station are both known and are so related. -/
def Patterns (f : Pattern → Pattern → Prop) (st : Stn) (s : State) : Prop :=
  ∃ q ∈ (s.station st).sensed, ∃ c ∈ (s.station st).commanded, f q c

section
variable {s : State} {st : Stn}

theorem clampIssued_iff : (!(entriesWhere s (fun en => en.station == st && en.estate == .issued
    && paramsKind en.params == .clamp)).isEmpty) = true ↔ ClampIssued st s := by
  rw [Bool.not_eq_true', List.isEmpty_eq_false_iff, ne_eq, List.eq_nil_iff_forall_not_mem]
  simp only [mem_entriesWhere, not_forall, not_not, Bool.and_eq_true, beq_iff_eq, and_assoc]
  exact exists_congr fun e => exists_congr fun en => and_congr_right fun _ => and_congr_right fun _ => and_comm

theorem openingUnconfirmed_eq_false (h : ¬ ClampIssued st s ∨ Patterns (fun q c => q &&& ~~~c = 0) st s) :
    openingUnconfirmed s st = false := by
  unfold openingUnconfirmed
  rcases h with h | ⟨q, hq, c, hc, h⟩
  · rw [Bool.eq_false_iff.2 (clampIssued_iff.not.2 h), Bool.false_and]
  · rw [Option.mem_def] at hq hc
    simp [hq, hc, h]

theorem openingUnconfirmed_eq_true (h : ClampIssued st s)
    (hp : (s.station st).sensed = none ∨ Patterns (fun q c => q &&& ~~~c ≠ 0) st s) : openingUnconfirmed s st = true := by
  unfold openingUnconfirmed
  rw [clampIssued_iff.2 h, Bool.true_and]
  rcases hp with hp | ⟨q, hq, c, hc, hp⟩
  · simp [hp]
  · rw [Option.mem_def] at hq hc
    simpa [hq, hc] using hp

theorem toolConflict_eq_false (hm : ¬ MoveInFlight st s)
    (hc : ¬ ClampIssued st s ∨ Patterns (fun q c => q &&& ~~~c = 0) st s) (ha : FixtureAtAStop st s) :
    toolConflict s st = false := by
  rw [toolConflict, openingUnconfirmed_eq_false hc, atAStop_iff.2 ha, Bool.eq_false_iff.2 (inFlight_isSome.not.2 hm)]
  rfl

theorem toolConflict_eq_true (h : MoveInFlight st s
    ∨ (ClampIssued st s ∧ ((s.station st).sensed = none ∨ Patterns (fun q c => q &&& ~~~c ≠ 0) st s))
    ∨ ¬ FixtureAtAStop st s) : toolConflict s st = true := by
  unfold toolConflict
  rcases h with h | ⟨hc, hp⟩ | h
  · simp [show (inFlight s st .move).isSome = true from inFlight_isSome.2 h]
  · simp [openingUnconfirmed_eq_true hc hp]
  · simp [Bool.eq_false_iff.2 (atAStop_iff.not.2 h)]

/-- R72: the conflict is judged with the new tool state in place, which none of its conditions reads. -/
theorem toolConflict_modTool (f : Station → Tool) :
    toolConflict (s.modStn st (fun r => { r with tool := f r })) st = toolConflict s st := by
  have hst : (s.modStn st (fun r => { r with tool := f r })).station st = { s.station st with tool := f (s.station st) } := by
    rw [State.modStn_station, if_pos rfl]
  simp only [toolConflict, openingUnconfirmed, atAStop, occTarget, occOffset, State.trackedOcc, Station.isAt, hst]
  rfl

/-- R72: no conflict, or none to be judged. -/
theorem applyTool_quiet {m : Msg} (h : m.argA ≠ 1 ∨ (s.station st).mode = .out ∨ toolConflict s st = false) :
    applyTool st m s = only (s.modStn st (fun r => { r with tool := toolOf m.argA })) := by
  have hmode : ((s.modStn st (fun r => { r with tool := toolOf m.argA })).station st).mode = (s.station st).mode := by
    rw [State.modStn_station, if_pos rfl]
  simp only [applyTool, toolConflict_modTool (fun _ => toolOf m.argA), hmode]
  refine if_neg ?_
  rintro ⟨h1, hm, hc⟩
  rcases h with h | h | h
  · exact h h1
  · exact hm h
  · rw [h] at hc
    cases hc

theorem applyTool_conflict {m : Msg} (h1 : m.argA = 1) (hm : (s.station st).mode ≠ .out) (hc : toolConflict s st = true) :
    applyTool st m s = only (occur fToolConflict (some st) (occPallet s st)
      (s.modStn st (fun r => { r with tool := .advanced }))) := by
  have hst : (s.modStn st (fun r => { r with tool := .advanced })).station st = { s.station st with tool := .advanced } := by
    rw [State.modStn_station, if_pos rfl]
  have hp : occPallet (s.modStn st (fun r => { r with tool := .advanced })) st = occPallet s st := by
    simp only [occPallet, State.trackedOcc, hst]
  have ht : toolOf m.argA = .advanced := by rw [h1]; rfl
  simp only [applyTool, ht, toolConflict_modTool (fun _ => .advanced), hp, hst]
  rw [if_pos ⟨h1, hm, hc⟩]

end

/-! ### GONE (R42, R94, R99) -/

theorem modRecord_frame (t : Tag) (f : Record → Record) (s : State) :
    modRecord t f s = { s with ptb := (modRecord t f s).ptb } := by
  unfold modRecord
  split <;> rfl

/-- R41: a GONE at the load station ends a pending admission. -/
def gonePtb (st : Stn) (s : State) : Ptb := if st = s.stb.load then { s.ptb with pendingAdm := none } else s.ptb

/-- R42: the station without its occupant. -/
def vacated (st : Stn) (s : State) : State := setOccupant st .nobody { s with ptb := gonePtb st s }

section
variable {s : State} {st : Stn}

theorem goneOccupant_eq (st : Stn) (s : State) : goneOccupant st s =
    match (s.station st).occupant with
    | .tracked t =>
      (match (vacated st s).record? t with
       | some r =>
         (match r.rstate with
          | .transit _ _ => modRecord t (fun q => { q with lastSeen := s.now }) (vacated st s)
          | .present l =>
            if l = st then notice .goneUnexpected (stnByte st) t 0
                (modRecord t (fun q => { q with rstate := .lost none, lastSeen := s.now }) (vacated st s))
            else vacated st s
          | .lost _ => vacated st s)
       | none => vacated st s)
    | _ => vacated st s := by
  have hv : setOccupant st .nobody (if st = s.stb.load then { s with ptb := { s.ptb with pendingAdm := none } } else s)
      = vacated st s := by
    unfold vacated gonePtb
    split <;> rfl
  simp only [goneOccupant, hv]
  rfl

theorem NoticesOnly.ofModRecord {s t : State} {p : Tag} {f : Record → Record} (h : NoticesOnly (modRecord p f s) t)
    (hp : t.ptb = (modRecord p f s).ptb) : NoticesOnly { s with ptb := t.ptb } t := by
  rw [hp, ← modRecord_frame]
  exact h

/-- R42: but for the pallet table, a GONE changes nothing more than its notice. -/
theorem noticesOnly_goneOccupant (st : Stn) (s : State) :
    NoticesOnly { vacated st s with ptb := (goneOccupant st s).ptb } (goneOccupant st s) := by
  rw [goneOccupant_eq]
  split
  · split
    · split
      · exact (NoticesOnly.refl _).ofModRecord rfl
      · split
        · exact (noticesOnly_notice ..).ofModRecord (notice_ptb ..)
        · exact .refl _
      · exact .refl _
    · exact .refl _
  · exact .refl _

theorem gonePtb_slots (st : Stn) (s : State) : (gonePtb st s).slots = s.ptb.slots := by
  unfold gonePtb
  split <;> rfl

theorem goneOccupant_untracked (h : (s.station st).occupant = .nobody ∨ ∃ g, (s.station st).occupant = .unmanaged g) :
    (goneOccupant st s).ptb = gonePtb st s := by
  rw [goneOccupant_eq]
  rcases h with h | ⟨g, h⟩ <;> rw [h] <;> rfl

section
variable {i : Slot} {r : Record} (ho : (s.station st).occupant = .tracked r.tag) (h : HasRecord r.tag i r s)
include ho h

omit ho in
theorem hasRecord_vacated (x : Stn) : HasRecord r.tag i r (vacated x s) := by
  have hslots : (vacated x s).ptb.slots = s.ptb.slots := gonePtb_slots x s
  rw [HasRecord, hslots]
  exact h

omit ho in
theorem modRecord_vacated (f : Record → Record) : (modRecord r.tag f (vacated st s)).ptb
    = { gonePtb st s with slots := upd s.ptb.slots i (fun _ => some (f r)) } := by
  rw [modRecord_of_hasRecord (hasRecord_vacated h st), ← gonePtb_slots st s]
  rfl

theorem goneOccupant_present (hp : r.rstate = .present st) : goneOccupant st s = notice .goneUnexpected (stnByte st) r.tag 0
    (modRecord r.tag (fun q => { q with rstate := .lost none, lastSeen := s.now }) (vacated st s)) := by
  rw [goneOccupant_eq, ho]
  simp only [record_of_hasRecord (hasRecord_vacated h st), hp, if_true]

theorem goneOccupant_transit {x : Stn} {dl : Time} (hp : r.rstate = .transit x dl) :
    goneOccupant st s = modRecord r.tag (fun q => { q with lastSeen := s.now }) (vacated st s) := by
  rw [goneOccupant_eq, ho]
  simp only [record_of_hasRecord (hasRecord_vacated h st), hp]

theorem goneOccupant_lost {l : Option Stn} (hp : r.rstate = .lost l) : goneOccupant st s = vacated st s := by
  rw [goneOccupant_eq, ho]
  simp only [record_of_hasRecord (hasRecord_vacated h st), hp]

end

/-- R94, R99: the process of a station that is not AUTO. -/
theorem onGone_notAuto (h : (s.station st).mode ≠ .auto) : onGone st s = { s with idx := (onGone st s).idx } := by
  have ha : ((s.station st).mode == .auto) = false := by simpa using h
  simp only [onGone, ha, Bool.false_and, Bool.false_eq_true, if_false, Bool.not_false, if_true]
  split <;> rfl

/-- R42: the event of a GONE that ends no entry, to its end. -/
def departed (st : Stn) (s : State) : State := closeEvent (passOver (onGone st (goneOccupant st s)))

section
variable (hm : (s.station st).mode ≠ .auto)
include hm

theorem onGone_goneOccupant : onGone st (goneOccupant st s)
    = { goneOccupant st s with idx := (onGone st (goneOccupant st s)).idx } := by
  refine onGone_notAuto ?_
  have hstb : (goneOccupant st s).stb = (vacated st s).stb := by rw [noticesOnly_goneOccupant st s]
  rw [State.station, hstb]
  change ((s.modStn st (fun r => { r with occupant := .nobody })).station st).mode ≠ .auto
  rw [State.modStn_station, if_pos rfl]
  exact hm

theorem conclude_departed (hd : s.ilk.deferred = []) :
    conclude (only (onGone st (goneOccupant st s))) = .next (departed st s) := by
  refine conclude_only_passOver ?_
  rw [onGone_goneOccupant hm, noticesOnly_goneOccupant st s]
  exact hd

theorem departed_ptb : (departed st s).ptb = (goneOccupant st s).ptb := by
  rw [departed, closeEvent_ptb, onGone_goneOccupant hm]
  rfl

/-- Of the other blocks a GONE changes the occupant alone. -/
theorem departed_frame : (departed st s).stb = { s.stb with stn := upd s.stb.stn st (fun r => { r with occupant := .nobody }) }
    ∧ (departed st s).chi.uiq = s.chi.uiq ∧ (departed st s).fcu = s.fcu ∧ (departed st s).mrt.entries = s.mrt.entries
    ∧ (departed st s).rcs = s.rcs := by
  simp only [departed, closeEvent_stb, closeEvent_chi_uiq, closeEvent_fcu, closeEvent_entries, closeEvent_rcs]
  rw [onGone_goneOccupant hm, noticesOnly_goneOccupant st s]
  exact ⟨rfl, rfl, rfl, rfl, rfl⟩

theorem departed_summary {n : Nat} (h : (goneOccupant st s).mga.summary.getLsbD n = true) :
    (departed st s).mga.summary.getLsbD n = true := by
  refine closeEvent_summary _ _ ?_
  rw [onGone_goneOccupant hm]
  exact h

end

theorem goneFrees_eq_nil (h : ∀ e en, s.entry? e = some en → en.station = st → paramsKind en.params ≠ .release) :
    goneFrees s st = [] := by
  have hnone : ∀ (p : Entry → Bool), (∀ en, p en = true → en.station = st ∧ paramsKind en.params = .release) →
      entriesWhere s p = [] := fun p hp => entriesWhere_eq_nil fun e en he => by
    by_contra hc
    obtain ⟨hst, hk⟩ := hp en (by simpa using hc)
    exact h e en he hst hk
  unfold goneFrees
  dsimp only
  rw [hnone _ fun en he => ?_, hnone _ fun en he => ?_, hnone _ fun en he => ?_]
  · rfl
  all_goals
    simp only [Bool.and_eq_true, beq_iff_eq] at he
    tauto

end

end Sys2Proof.Machine

namespace Sys2Proof.Proofs
open Sys2Proof.Machine

/-- Settles O56: each report is applied on the state with the report in the UIQ, and ends with a pass over an empty list. -/
theorem clampToolGoneAndNodeFaultReports : Obligations.ClampToolGoneAndNodeFaultReports := by
  refine ⟨fun m st s hs hr hd hno => ?_, fun m st s hs hr hd => ?_, fun m st s hs hr hd hm hrel => ?_, fun m st s hs hr hd => ?_⟩
  · rw [show exec (.clampedReport m) s = _ from reportAs_applied hr]
    have hnone : confirmedClamp ((reported m s).modStn st (fun r => { r with sensed := some (argPattern m) })) st (argPattern m)
        = none := confirmedClamp_eq_none (s := (reported m s).modStn st _) hno
    simp only [applyClamped, hnone]
    exact conclude_only_duePass (s := (enterUiq m s).modStn st (fun r => { r with sensed := some (argPattern m) }))
      (enterUiq_passDue hs) hd
  · have hexec : exec (.toolReport m) s = _ := reportAs_applied hr
    have hquiet : ∀ tool, toolOf m.argA = tool →
        (m.argA ≠ 1 ∨ (s.station st).mode = .out ∨ toolConflict s st = false) → exec (.toolReport m) s
          = .next (closeEvent ((enterUiq m s).modStn st (fun r => { r with tool := tool }))) := by
      rintro tool rfl h
      rw [hexec, applyTool_quiet (s := reported m s) h]
      exact conclude_only_duePass (s := (enterUiq m s).modStn st (fun r => { r with tool := toolOf m.argA }))
        (enterUiq_passDue hs) hd
    refine ⟨fun h => hquiet _ rfl (h.imp_right .inl), fun h1 hm hc ha => ?_, fun h1 hm hc => ?_⟩
    · exact hquiet _ (by rw [h1]; rfl) (.inr (.inr (toolConflict_eq_false hm hc ha)))
    · have hconf := applyTool_conflict (s := reported m s) h1 hm (toolConflict_eq_true hc)
      refine ⟨_, hexec.trans (by rw [hconf]; exact conclude_occur hd), ?_⟩
      obtain ⟨hpend, hcount, hlast, hpal, hothers⟩ := raises_occurred (k := fToolConflict) (st := some st)
        (p := occPallet s st) (r := s) (s := (reported m s).modStn st (fun r => { r with tool := .advanced })) rfl
      refine ⟨?_, hpend, hcount, hlast, hpal, hothers, occurred_uiq, occurred_ptb, occurred_rcs, occurred_pstates⟩
      rw [occurred_station, (holdsOnly_occur ..).tool, State.modStn_station, if_pos rfl]
  · intro ptb
    have hexec : exec (.goneReport m) s = _ := reportAs_applied hr
    have hfrees : goneFrees (reported m s) st = [] := goneFrees_eq_nil hrel
    obtain ⟨hstb, huiq, hfcu, hentries, hrcs⟩ := departed_frame (s := reported m s) hm
    have hptb := departed_ptb (s := reported m s) hm
    refine ⟨departed st (reported m s), ?_, hstb, fun h => ?_,
      fun g i r ho hi ht hu => ⟨fun hp => ⟨?_, ?_⟩, fun x dl hp => ?_, fun l hp => ?_⟩, huiq, hfcu, hentries, hrcs⟩
    · rw [hexec, applyGone, hfrees]
      exact conclude_departed (s := reported m s) hm hd
    · exact hptb.trans (goneOccupant_untracked (s := reported m s) h)
    · subst ht
      rw [hptb, goneOccupant_present (s := reported m s) ho ⟨hi, rfl, hu⟩ hp, notice_ptb]
      exact modRecord_vacated (s := reported m s) ⟨hi, rfl, hu⟩ _
    · subst ht
      refine departed_summary (s := reported m s) hm ?_
      rw [goneOccupant_present (s := reported m s) ho ⟨hi, rfl, hu⟩ hp, notice_summary, BitVec.getLsbD_or]
      exact Bool.or_true _
    · subst ht
      rw [hptb, goneOccupant_transit (s := reported m s) ho ⟨hi, rfl, hu⟩ hp]
      exact modRecord_vacated (s := reported m s) ⟨hi, rfl, hu⟩ _
    · subst ht
      rw [hptb, goneOccupant_lost (s := reported m s) ho ⟨hi, rfl, hu⟩ hp]
      rfl
  · have hexec : exec (.nodeFaultReport m) s = _ := reportAs_applied hr
    refine ⟨_, hexec.trans (conclude_occur hd), ?_⟩
    obtain ⟨hpend, hcount, hlast, hpal, hothers⟩ := raises_occurred (k := fNodeFault) (st := some st)
      (p := occPallet s st) (r := s) (s := reported m s) rfl
    refine ⟨hpend, hcount, hlast, hpal, hothers, fun hl => ?_, occurred_uiq, occurred_ptb, occurred_rcs, occurred_ilk⟩
    rw [occurred_station, occur_holds (by rwa [faultRec_of_fcu occurred_fcu] at hl)]
    rfl

end Sys2Proof.Proofs
end

section
namespace Sys2Proof.Machine

/-! ### A transit deadline that passes (R31) -/

section
variable {s : State} {i : Slot} {r : Record} {dest : Stn}

/-- R31: the record is LOST with its destination kept, out of the approach list, and PALLET_LOST has occurred. -/
def transitLost (i : Slot) (r : Record) (dest : Stn) (s : State) : State :=
  occur fPalletLost (some dest) r.tag (lostTo (some dest) i r (leaveList dest r.tag s))

theorem transitExpired_eq (h : HasRecord r.tag i r s) :
    transitExpired r dest s = (transitLost i r dest s, shorter s dest r.tag) := by
  have hl : HasRecord r.tag i r (leaveList dest r.tag s) := h
  rw [transitExpired, modRecord_of_hasRecord hl]
  rfl

theorem holdsOnly_transitLost : HoldsOnly 3 (lostTo (some dest) i r (leaveList dest r.tag s)) (transitLost i r dest s) :=
  holdsOnly_occur ..

/-- R28, R31: the list that is shorter is tried by no waiting station. -/
theorem conclude_transitLost (hs : BetweenEvents s) (h : HasRecord r.tag i r s) (hw : ∀ x, (s.proc x).wait ≠ .route) :
    conclude (transitExpired r dest s) = .next (closeEvent (transitLost i r dest s)) := by
  have hidle : reroute (transitLost i r dest s) = only (transitLost i r dest s) :=
    reroute_of_nobody fun x => by rw [holdsOnly_transitLost.wait]; exact hw x
  have hpass : (transitLost i r dest s).ev.passDue = false := by
    rw [transitLost, occur_ev_passDue]
    exact congrArg Within.passDue hs
  have htasks : ∀ t ∈ shorter s dest r.tag, perform t (transitLost i r dest s) = only (transitLost i r dest s) := by
    intro t ht
    unfold shorter at ht
    split at ht
    · rw [List.mem_singleton.1 ht]
      exact hidle
    · cases ht
  have hlen : (shorter s dest r.tag).length ≤ 1 := by
    unfold shorter
    split <;> simp
  rw [transitExpired_eq h]
  refine conclude_of_run (n := 0 + 2 + (shorter s dest r.tag).length) ?_ (le_cascadeBound (by omega))
  rw [runTasks_idle htasks]
  exact run_end 0 hpass

end

/-! ### Escalation (R163) -/

theorem summary_zoneAdd {z : Zone} {c : ZoneCauses} {s : State} {n : Nat} (h : s.mga.summary.getLsbD n = true) :
    (zoneAdd z c s).mga.summary.getLsbD n = true := by
  have hz : ∀ v, (s.setZone z v).mga = s.mga := fun v => by cases z <;> rfl
  unfold zoneAdd
  dsimp only
  split
  · rw [notice_summary, changeHolds_mga, hz, BitVec.getLsbD_or, h, Bool.true_or]
  · rw [hz]
    exact h

theorem summary_trapForFault {k : FaultKind} {z : Zone} {s : State} {n : Nat} (h : s.mga.summary.getLsbD n = true) :
    (trapForFault k z s).mga.summary.getLsbD n = true := by
  unfold trapForFault
  exact summary_zoneAdd h

/-- R183: a reaction clears no flag of the event summary. -/
theorem summary_react {k : FaultKind} {l : Level} {o : Option Stn} {s : State} {n : Nat}
    (h : s.mga.summary.getLsbD n = true) : (react k l o s).mga.summary.getLsbD n = true := by
  have hline : (lineTrap k s).mga.summary.getLsbD n = true := summary_trapForFault (summary_trapForFault h)
  unfold react
  split
  · exact h
  · rw [changeHolds_mga]
    exact h
  · exact summary_trapForFault h
  · exact hline
  · exact hline

theorem trapForFault_restricted (k : FaultKind) (z : Zone) (s : State) :
    (trapForFault k z s).fcu.restricted = s.fcu.restricted := by
  unfold trapForFault
  rw [zoneAdd_fcu]
  rfl

theorem trapForFault_zone (k : FaultKind) (z y : Zone) (s : State) : (trapForFault k z s).zone y
    = if y = z then { s.zone z with causes := { (s.zone z).causes with fault := true } } else s.zone y := by
  have hu : ∀ c : ZoneCauses, c.union { noCauses with fault := true } = { c with fault := true } := fun c => by
    simp [ZoneCauses.union, noCauses]
  have hz : ∀ f y, (s.modFaultRec k f).zone y = s.zone y := fun f y => by cases y <;> rfl
  unfold trapForFault
  rw [zoneAdd_zone, hu]
  simp only [hz]

/-- R159: a LINE_TRAP traps both zones for FAULT. -/
theorem lineTrap_causes (k : FaultKind) (z : Zone) (s : State) :
    ((lineTrap k s).zone z).causes = { (s.zone z).causes with fault := true } := by
  cases z <;> simp [lineTrap, trapForFault_zone]

theorem react_restrict (k : FaultKind) (o : Option Stn) (s : State) : react k .restrict o s = enterRestricted (lineTrap k s) := by
  cases o <;> rfl

theorem react_lineTrap (k : FaultKind) (o : Option Stn) (s : State) : react k .lineTrap o s = lineTrap k s := by
  cases o <;> rfl

theorem react_restricted {k : FaultKind} {l : Level} {o : Option Stn} {s : State} (h : l ≠ .restrict) :
    (react k l o s).fcu.restricted = s.fcu.restricted := by
  have hline : (lineTrap k s).fcu.restricted = s.fcu.restricted := by
    rw [lineTrap, trapForFault_restricted, trapForFault_restricted]
  unfold react
  split
  · rfl
  · rw [changeHolds_fcu]
  · exact trapForFault_restricted ..
  · exact absurd rfl h
  · exact hline

theorem react_causes {k : FaultKind} {l : Level} {o : Option Stn} {s : State} (h : l = .lineTrap ∨ l = .restrict) (z : Zone) :
    ((react k l o s).zone z).causes = { (s.zone z).causes with fault := true } := by
  rcases h with rfl | rfl
  · rw [react_lineTrap, lineTrap_causes]
  · rw [react_restrict, ← lineTrap_causes k z s]
    cases z <;> rfl

/-- R163: the record raised and told, before the reaction of its new level. -/
def raisedTold (k : FaultKind) (s : State) : State :=
  notice .escalated (stnByte? ((raised k s).faultRec k).lastStn) ((raised k s).faultRec k).lastPallet k.val (raised k s)

theorem escalate_eq (k : FaultKind) (s : State) :
    escalate k s = react k ((raised k s).faultRec k).level ((raised k s).faultRec k).lastStn (raisedTold k s) := rfl

theorem raised_self (k : FaultKind) (s : State) : (raised k s).faultRec k = { s.faultRec k with
    level := levelUp (s.faultRec k).level
    expiry := if levelUp (s.faultRec k).level = .restrict ∨ (s.fcu.reaction.get k).escalation = 0 then none
      else some (after s.now (s.fcu.reaction.get k).escalation) } := by
  rw [raised, State.modFaultRec_faultRec, if_pos rfl]

theorem raisedTold_faultRec (k j : FaultKind) (s : State) : (raisedTold k s).faultRec j = (raised k s).faultRec j :=
  faultRec_of_fcu (notice_fcu ..) j

/-- R163: the record of the kind, but for the zones that the reaction traps. -/
theorem escalate_record (k : FaultKind) (s : State) :
    ∃ z, (escalate k s).faultRec k = { (raised k s).faultRec k with zones := z } := by
  obtain ⟨z, hz⟩ := (listsZones_react k ((raised k s).faultRec k).level ((raised k s).faultRec k).lastStn (raisedTold k s)).1
  exact ⟨z, by rw [escalate_eq, hz, raisedTold_faultRec]⟩

theorem escalate_others {k j : FaultKind} (h : j ≠ k) (s : State) : (escalate k s).faultRec j = s.faultRec j := by
  rw [escalate_eq, (listsZones_react ..).2 j h, raisedTold_faultRec, raised, State.modFaultRec_faultRec, if_neg h]

theorem escalate_restricted (k : FaultKind) (s : State) : (escalate k s).fcu.restricted
    = if levelUp (s.faultRec k).level = .restrict then true else s.fcu.restricted := by
  rw [escalate_eq, raised_self]
  by_cases h : levelUp (s.faultRec k).level = .restrict
  · simp only [h, react_restrict, if_true]
    rfl
  · rw [react_restricted h, if_neg h, raisedTold, notice_fcu]
    rfl

theorem escalate_summary (k : FaultKind) (s : State) : (escalate k s).mga.summary.getLsbD 0 = true := by
  rw [escalate_eq]
  refine summary_react ?_
  rw [raisedTold, notice_summary, BitVec.getLsbD_or]
  exact Bool.or_true _

theorem escalate_causes {k : FaultKind} {s : State}
    (h : levelUp (s.faultRec k).level = .lineTrap ∨ levelUp (s.faultRec k).level = .restrict) (z : Zone) :
    ((escalate k s).zone z).causes = { (s.zone z).causes with fault := true } := by
  have hz : (raisedTold k s).zone z = s.zone z := zone_of_trp (notice_trp ..) z
  rw [escalate_eq, raised_self, react_causes h, hz]

theorem escalate_frame (k : FaultKind) (s : State) : (escalate k s).ptb = s.ptb ∧ (escalate k s).rcs = s.rcs
    ∧ (escalate k s).ilk = s.ilk ∧ (escalate k s).ev.passDue = s.ev.passDue := by
  simp only [escalate_eq, react_ptb, react_rcs, react_ilk, react_ev_passDue, raisedTold, notice_ptb, notice_rcs, notice_ilk,
    notice_ev_passDue]
  exact ⟨rfl, rfl, rfl, rfl⟩

end Sys2Proof.Machine

namespace Sys2Proof.Proofs
open Sys2Proof.Machine

/-- Settles O50: the event of a lost pallet, and that of a raised record. -/
theorem transitExpiryAndEscalation : Obligations.TransitExpiryAndEscalation := by
  unfold Obligations.TransitExpiryAndEscalation
  refine ⟨fun i r dest dl s hs hi ht hdl hw hu => ?_, ?_⟩
  · have hrec : HasRecord r.tag i r s := ⟨hi, rfl, hu⟩
    have hdue : transitDue s.now r = some dest := by
      simp only [transitDue, ht]
      exact if_pos (decide_eq_true hdl)
    have hexec : exec (.transitExpiry i) s = .next (closeEvent (transitLost i r dest s)) := by
      change execTransitExpiry i s = _
      simp only [execTransitExpiry, hi, hdue]
      rw [whenOut_true hs.2 rfl, conclude_transitLost hs.1 hrec hw]
    obtain ⟨hpend, hcount, hlast, hpal, hothers⟩ := (raises_occur fPalletLost (some dest) r.tag
      (lostTo (some dest) i r (leaveList dest r.tag s))).from_fcu (r := s) rfl |>.of_fcu (closeEvent_fcu _)
    refine ⟨_, hexec, ?_, hpend, hcount, hlast, hpal, hothers, fun x => ?_, ?_, ?_, fun e he => ?_⟩
    · rw [closeEvent_ptb, transitLost, occur_ptb]
      rfl
    · rw [State.station, closeEvent_stb]
      exact holdsOnly_transitLost.occupant x
    · rw [closeEvent_rcs, transitLost, occur_rcs]
      rfl
    · rw [closeEvent_ilk, transitLost, occur_ilk]
      rfl
    · rw [State.entry?, closeEvent_entries]
      exact holdsOnly_transitLost.free e he
  · intro k x s hs hp hx hdl r up esc
    have hexec : exec (.escalation k) s = .next (closeEvent (escalate k s)) := by
      change execEscalation k s = _
      rw [execEscalation]
      refine whenOut_close hs ?_ rfl (escalate_frame k s).2.2.2
      simp only [hp, hx, timePassed, Bool.true_and]
      exact decide_eq_true hdl
    obtain ⟨hptb, hrcs, hilk, -⟩ := escalate_frame k s
    obtain ⟨z, hz⟩ := escalate_record k s
    rw [raised_self, ← faultRec_of_fcu (closeEvent_fcu (escalate k s))] at hz
    refine ⟨_, hexec, ?_, ?_, ?_, ?_, ?_, ?_, fun j hj => ?_, fun hup => ?_, fun hup => ?_, fun hup z => ?_,
      closeEvent_summary _ _ (escalate_summary k s), (closeEvent_ptb _).trans hptb, (closeEvent_rcs _).trans hrcs,
      (closeEvent_ilk _).trans hilk⟩
    · rw [hz]
    · rw [hz]
      exact hp
    · rw [hz]
    · rw [hz]
    · rw [hz]
    · rw [hz]
      rfl
    · rw [faultRec_of_fcu (closeEvent_fcu _), escalate_others hj]
    · rw [closeEvent_fcu, escalate_restricted, if_pos hup]
    · rw [closeEvent_fcu, escalate_restricted, if_neg hup]
    · rw [zone_of_trp (closeEvent_trp _), escalate_causes hup]

end Sys2Proof.Proofs
end

section
namespace Sys2Proof.Machine

@[simp] theorem passOver_entries (s : State) : (passOver s).mrt.entries = s.mrt.entries := rfl

/-! ### A freeing without a fault, in any event (R130) -/

theorem noticesOnly_freedState {e : EntryNo} {q : Entry} {how : Ending} {x : State}
    (h : ∀ y, reportEnding q how y = only (notice .command (stnByte q.station) q.pallet
      (32 * cmdNo (paramsKind q.params) + endingCode how) y)) : NoticesOnly (withoutEntry e x) (freedState e q how x) := by
  rw [freedState, h]
  exact (noticesOnly_entryRemoved e q how x).trans (noticesOnly_notice ..)

/-- R130, R143: an event that frees one entry without a fault, while no command is deferred. -/
theorem conclude_free {e : EntryNo} {q : Entry} {how : Ending} {x : State} (he : x.entry? e = some q)
    (hl : LeavesAlone e q x) (hc : x.ev.diqClaim = false) (hf : endingFault q how = none) (ht : how ≠ .timeout)
    (hd : (freedState e q how x).ilk.deferred = []) :
    conclude (x, [.free e how]) = .next (closeEvent (passOver (freedState e q how x))) := by
  have hend := conclude_only_passOver hd
  have hlen := length_followTasks q
  rw [conclude_only_pass hd] at hend
  rw [← hend]
  refine conclude_of_run (n := 0 + 2 + (followTasks q).length + 2) ?_ (le_cascadeBound (by omega))
  exact (runTasks_free he hl hc hf ht _ _).trans (run_end_pass 0 hd)

/-! ### CYCLE_END (R125) -/

section
variable {s : State} {st : Stn} {e : EntryNo} {en : Entry}

/-- R125: the one entry of a station, a CYCLE that is ISSUED. -/
theorem inFlight_alone {k : CmdKind} (he : s.entry? e = some en) (hst : en.station = st) (hk : paramsKind en.params = k)
    (hes : en.estate = .issued) (hu : ∀ j q, s.entry? j = some q → q.station = st → j = e) : inFlight s st k = some e := by
  obtain ⟨j, hj⟩ := Option.isSome_iff_exists.1 (inFlight_isSome.2 ⟨e, en, he, hst, hk, .inl hes⟩)
  have hmem := List.mem_of_head? hj
  obtain ⟨q, hq, hp⟩ := mem_entriesWhere.1 hmem
  simp only [Bool.and_eq_true, beq_iff_eq] at hp
  rw [hj, hu j q hq hp.1.1]

theorem applyCycleEnd_issued {m : Msg} {p op : Word} {lim : Option Nat} (he : s.entry? e = some en) (hst : en.station = st)
    (hp : en.params = .cycle p op lim) (hes : en.estate = .issued) (hm : m.argA = op)
    (hu : ∀ j q, s.entry? j = some q → q.station = st → j = e) :
    applyCycleEnd st m s = (s, [.free e (.done (some (cycleResultOf m.argB)) false)]) := by
  have hk : paramsKind en.params = .cycle := by rw [hp]; rfl
  have hof : isCycleOf m.argA en = true := by simp [isCycleOf, hp, hm]
  simp only [applyCycleEnd, inFlight_alone he hst hk hes hu, he, hof, if_true, cycleEnding, hes]

end

/-! ### A freeing with a fault (R130) -/

/-- R130: the entry has left the table and its fault has occurred. -/
def faultFreed (k : FaultKind) (how : Ending) (e : EntryNo) (en : Entry) (x : State) : State :=
  occur k (some en.station) en.pallet (entryRemoved e en how x)

section
variable {k : FaultKind} {how : Ending} {e : EntryNo} {en : Entry} {x : State}

theorem holdsOnly_faultFreed : HoldsOnly 3 (entryRemoved e en how x) (faultFreed k how e en x) := holdsOnly_occur ..

theorem nothingFollows_faultFreed (hl : LeavesAlone e en x) (hc : x.ev.diqClaim = false) :
    NothingFollows en.station (faultFreed k how e en x) :=
  ((nothingFollows_withoutEntry hl hc).of_noticesOnly (noticesOnly_entryRemoved ..)
    (entryRemoved_diqClaim _ _ _ _ hc hl.2.2.2.2)).of_holdsOnly holdsOnly_faultFreed (occur_ev_diqClaim ..)

theorem faultFreed_gone : (faultFreed k how e en x).entry? e = none :=
  holdsOnly_faultFreed.free e ((entryRemoved_entry ..).trans (setEntry_entry_self ..))

theorem faultFreed_free {j : EntryNo} (h : x.entry? j = none) : (faultFreed k how e en x).entry? j = none := by
  by_cases hj : j = e
  · exact hj ▸ faultFreed_gone
  · exact holdsOnly_faultFreed.free j (((entryRemoved_entry ..).trans (setEntry_entry_ne hj)).trans h)

theorem raises_faultFreed : Raises k (some en.station) en.pallet x (faultFreed k how e en x) :=
  (raises_occur k (some en.station) en.pallet (entryRemoved e en how x)).from_fcu (by
    rw [noticesOnly_entryRemoved e en how x]
    rfl)

theorem faultFreed_frame : (faultFreed k how e en x).ptb = x.ptb ∧ (faultFreed k how e en x).rcs = x.rcs
    ∧ (faultFreed k how e en x).ilk = { x.ilk with deferred := x.ilk.deferred.filter (fun it => it.entry != e) }
    ∧ (faultFreed k how e en x).ev.passDue = x.ev.passDue
    ∧ (faultFreed k how e en x).mga.node = x.mga.node ∧ (faultFreed k how e en x).mga.controller = x.mga.controller := by
  have hn := noticesOnly_entryRemoved e en how x
  simp only [faultFreed, occur_ptb, occur_rcs, occur_ilk, occur_ev_passDue, occur_mga_node, occur_mga_controller,
    entryRemoved_passDue, entryRemoved_mga]
  rw [hn]
  exact ⟨rfl, rfl, rfl, trivial, trivial, trivial⟩

theorem faultFreed_occupant (y : Stn) : ((faultFreed k how e en x).station y).occupant = (x.station y).occupant := by
  rw [holdsOnly_faultFreed.occupant, noticesOnly_entryRemoved e en how x]
  rfl

theorem freeEntryStep_fault (he : x.entry? e = some en) (hf : endingFault en how = some k) :
    freeEntryStep e how x = (faultFreed k how e en x, freeTasks en how) := by
  rw [freeEntryStep_eq he, hf]
  rfl

end

/-! ### A deferral deadline that passes (R132, R145) -/

section
variable {e : EntryNo} {en : Entry} {s : State} {d : Nat}

/-- R132, R145: the entry freed with DEFER_TIMEOUT and refused. -/
def deferRefused (d : Nat) (e : EntryNo) (en : Entry) (s : State) : State :=
  refuseEntry en .deferTimeout d (faultFreed fDeferTimeout (.deferTimeout d) e en s)

theorem conclude_deferTimeout (hs : BetweenEvents s) (he : s.entry? e = some en) (hl : LeavesAlone e en s) :
    conclude (s, [.free e (.deferTimeout d)]) = .next (closeEvent (deferRefused d e en s)) := by
  have hpass : (deferRefused d e en s).ev.passDue = false := by
    rw [deferRefused, refuseEntry, lmnEvent_ev_passDue, postReply_ev, faultFreed_frame.2.2.2.1]
    exact congrArg Within.passDue hs
  have hlen := length_followTasks en
  refine conclude_of_run (n := 0 + 2 + (followTasks en).length + 1 + 1) ?_ (le_cascadeBound (by omega))
  change runTasks _ (.free e (.deferTimeout d) :: [.deferPass, .close]) s = _
  rw [runTasks_cons]
  change runTasks _ ((freeEntryStep e (.deferTimeout d) s).2 ++ _) (freeEntryStep e (.deferTimeout d) s).1 = _
  rw [freeEntryStep_fault he rfl]
  refine (runTasks_freeTasks hl.1 (by simp) (nothingFollows_faultFreed hl (congrArg Within.diqClaim hs)) _ _).trans ?_
  exact run_end 0 hpass

theorem deferRefused_frame : (deferRefused d e en s).rcs = s.rcs ∧ (deferRefused d e en s).fcu
      = (faultFreed fDeferTimeout (.deferTimeout d) e en s).fcu
    ∧ (deferRefused d e en s).ilk = { s.ilk with deferred := s.ilk.deferred.filter (fun it => it.entry != e) }
    ∧ ∀ j, (deferRefused d e en s).entry? j = (faultFreed fDeferTimeout (.deferTimeout d) e en s).entry? j := by
  obtain ⟨-, hrcs, hilk, -⟩ := faultFreed_frame (k := fDeferTimeout) (how := .deferTimeout d) (e := e) (en := en) (x := s)
  simp only [deferRefused, refuseEntry, lmnEvent_rcs, postReply_rcs, lmnEvent_fcu, postReply_fcu, lmnEvent_ilk, postReply_ilk,
    State.entry?, lmnEvent_mrt, postReply_entries]
  exact ⟨hrcs, trivial, hilk, fun _ => trivial⟩

/-- R132: the REFUSED of the entry waits for port A. -/
theorem deferRefused_told : mkMsg 0 s.mga.controller s.mga.node kRefused (stnByte en.station) en.pallet
    (BitVec.ofNat 16 (statusCode .deferTimeout)) (cmdCode (paramsKind en.params) ++ BitVec.ofNat 8 d)
      ∈ outgoing (deferRefused d e en s) := by
  obtain ⟨-, -, -, -, hnode, hctl⟩ := faultFreed_frame (k := fDeferTimeout) (how := .deferTimeout d) (e := e) (en := en) (x := s)
  have ho : ∀ m y, m ∈ outgoing (postReply m y) := fun m y => by
    rw [show outgoing (postReply m y) = _ from postReply_outgoing m y]
    exact List.mem_append_right _ List.mem_cons_self
  rw [deferRefused, refuseEntry, hnode, hctl]
  exact ho ..

end

/-! ### The wind of a MOVE that expires (R109) -/

/-- From `s` to `t` only a station's angle, wind and reference and what its loss stops can change: no entry, no record and no
pending mode, and nobody begins to wait. -/
structure StopsOnly (s t : State) : Prop where
  entries : t.mrt.entries = s.mrt.entries
  ptb : t.ptb = s.ptb
  rcs : t.rcs = s.rcs
  ilk : t.ilk = s.ilk
  fcu : t.fcu = s.fcu
  diqClaim : t.ev.diqClaim = s.ev.diqClaim
  pendingMode : ∀ x, (t.station x).pendingMode = (s.station x).pendingMode
  idle : ∀ x, ((s.proc x).wait = .nothing ∧ (s.proc x).due = none ∧ (s.proc x).replan = false) →
    (t.proc x).wait = .nothing ∧ (t.proc x).due = none ∧ (t.proc x).replan = false

theorem StopsOnly.refl (s : State) : StopsOnly s s := ⟨rfl, rfl, rfl, rfl, rfl, rfl, fun _ => rfl, fun _ h => h⟩

theorem StopsOnly.trans {s t u : State} (h : StopsOnly s t) (k : StopsOnly t u) : StopsOnly s u where
  entries := k.entries.trans h.entries
  ptb := k.ptb.trans h.ptb
  rcs := k.rcs.trans h.rcs
  ilk := k.ilk.trans h.ilk
  fcu := k.fcu.trans h.fcu
  diqClaim := k.diqClaim.trans h.diqClaim
  pendingMode x := (k.pendingMode x).trans (h.pendingMode x)
  idle x hx := k.idle x (h.idle x hx)

theorem StopsOnly.of_modStn (st : Stn) {f : Station → Station} (s : State) (h : ∀ r, (f r).pendingMode = r.pendingMode) :
    StopsOnly s (s.modStn st f) where
  entries := rfl
  ptb := rfl
  rcs := rfl
  ilk := rfl
  fcu := rfl
  diqClaim := rfl
  pendingMode x := by
    rw [State.modStn_station]
    split
    next hx => rw [h, hx]
    next => rfl
  idle _ hx := hx

theorem stopsOnly_enterStalled (st : Stn) (d : Nat) (s : State) : StopsOnly s (enterStalled st d s) := by
  unfold enterStalled
  exact {
    entries := notice_entries ..
    ptb := notice_ptb ..
    rcs := notice_rcs ..
    ilk := notice_ilk ..
    fcu := notice_fcu ..
    diqClaim := notice_ev_diqClaim ..
    pendingMode := fun x => by simp only [State.station, notice_stb]; rfl
    idle := fun x hx => by
      have hp : ∀ ev b p d y, (notice ev b p d y).proc x = y.proc x := fun ev b p d y => by simp only [State.proc, notice_idx]
      rw [hp, State.modProc_proc]
      split
      · exact ⟨rfl, rfl, rfl⟩
      · exact hx }

theorem stopsOnly_clearReference (st : Stn) (s : State) : StopsOnly s (clearReference st s) := by
  have hmod : StopsOnly s (s.modStn st (fun r => { r with referenced := false })) := .of_modStn st s fun _ => rfl
  unfold clearReference refLost
  split
  · split
    · exact hmod.trans (stopsOnly_enterStalled ..)
    · exact hmod
  · exact .refl s

theorem stopsOnly_windUpdate (st : Stn) (p : Option Plan) (a : Angle) (s : State) : StopsOnly s (windUpdate st p a s) := by
  have hmod : ∀ w, StopsOnly s (s.modStn st (fun r => { r with c := a, w := w })) := fun w => .of_modStn st s fun _ => rfl
  unfold windUpdate
  dsimp only
  split_ifs
  · exact (hmod _).trans (stopsOnly_clearReference ..)
  · exact hmod _

section
variable {s t : State} (h : StopsOnly s t) {e : EntryNo} {en : Entry}
include h

theorem StopsOnly.entry (j : EntryNo) : t.entry? j = s.entry? j := by simp only [State.entry?, h.entries]

theorem StopsOnly.leavesAlone (hl : LeavesAlone e en s) : LeavesAlone e en t := by
  obtain ⟨ho, hm, hi, hu, hf⟩ := hl
  refine ⟨ho, (h.pendingMode _).trans hm, fun y => h.idle y (hi y), fun j q hj => hu j q (h.entry j ▸ hj), ?_⟩
  obtain ⟨j, hj⟩ := freeEntry_isSome.1 hf
  exact freeEntry_isSome.2 ⟨j, (h.entry j).trans hj⟩

end

/-! ### An entry that expires (R109, R127) -/

/-- R109: the state before the freeing of an entry that expires. -/
def windUpdated (en : Entry) (s : State) : State :=
  if paramsKind en.params = .move then windUpdate en.station (planOf en) (s.station en.station).c s else s

theorem stopsOnly_windUpdated (en : Entry) (s : State) : StopsOnly s (windUpdated en s) := by
  unfold windUpdated
  split
  · exact stopsOnly_windUpdate ..
  · exact .refl s

/-- R127, R130: the expired entry has left the table and its timeout has occurred. -/
def timedOut (e : EntryNo) (en : Entry) (s : State) : State :=
  faultFreed (timeoutFault (paramsKind en.params)) .timeout e en (duePass (windUpdated en s))

/-- R32, R131: a released pallet is back and the freeing is told. -/
def timeoutTold (e : EntryNo) (en : Entry) (s : State) : State :=
  notice .command (stnByte en.station) en.pallet (32 * cmdNo (paramsKind en.params) + 9) (releaseFailed en (timedOut e en s)).1

theorem releaseFailed_of_other {en : Entry} (h : paramsKind en.params ≠ .release) (y : State) : releaseFailed en y = only y := by
  unfold releaseFailed
  split
  next hp _ => exact absurd (by rw [hp]; rfl) h
  next => rfl

/-- R32: a RELEASE handed back changes the pallet table alone. -/
theorem releaseFailed_frame (en : Entry) (y : State) :
    (releaseFailed en y).1 = { y with ptb := (releaseFailed en y).1.ptb } := by
  have hleave : ∀ (r : Record) y, leaveOld r y = { y with ptb := (leaveOld r y).ptb } := fun r y => by
    unfold leaveOld
    split <;> rfl
  unfold releaseFailed
  split
  · split
    · split
      · dsimp only
        rw [modRecord_frame, hleave]
      · rfl
    · rfl
  · rfl

theorem releaseFailed_tasks (en : Entry) (y : State) : (releaseFailed en y).2 = [] ∨ (releaseFailed en y).2 = [.reroute] := by
  have hshort : ∀ (s : State) d p, shorter s d p = [] ∨ shorter s d p = [.reroute] := fun s d p => by
    unfold shorter
    split <;> simp
  unfold releaseFailed
  split
  · split
    · split
      · dsimp only
        split
        · exact hshort ..
        · exact .inl rfl
      · exact .inl rfl
    · exact .inl rfl
  · exact .inl rfl

/-- R130, R32: the steps of a freeing by timeout, where nothing follows it. -/
theorem runTasks_timeout {en : Entry} {y : State} (ho : en.origin = .controller) (hy : NothingFollows en.station y)
    (rest : List Task) : ∃ k ≤ 10, ∀ n, runTasks (n + k) (freeTasks en .timeout ++ rest) y
      = runTasks n rest (notice .command (stnByte en.station) en.pallet (32 * cmdNo (paramsKind en.params) + 9)
          (releaseFailed en y).1) := by
  have hz : NothingFollows en.station (releaseFailed en y).1 := by
    rw [releaseFailed_frame]
    exact hy.congr rfl rfl rfl rfl
  have htold : ∀ n, runTasks (n + (followTasks en).length + 1) (.report en .timeout :: followTasks en ++ rest)
      (releaseFailed en y).1 = runTasks n rest (notice .command (stnByte en.station) en.pallet
        (32 * cmdNo (paramsKind en.params) + 9) (releaseFailed en y).1) := fun n => by
    rw [List.cons_append, runTasks_cons]
    exact runTasks_followTasks (hz.congr (notice_entries ..) (notice_stb ..) (notice_idx ..) (notice_ev_diqClaim ..)) _ _
  have hlen := length_followTasks en
  by_cases hk : paramsKind en.params = .release
  · have htasks : freeTasks en .timeout = .releaseFailed en :: .report en .timeout :: followTasks en := by
      simp [freeTasks, followTasks, ho, hk]
    have hidle : ∀ t ∈ (releaseFailed en y).2, perform t (releaseFailed en y).1 = only (releaseFailed en y).1 := fun t ht => by
      rcases releaseFailed_tasks en y with h | h <;> rw [h] at ht
      · cases ht
      · rw [List.mem_singleton.1 ht]
        exact reroute_idle hz
    have hlen2 : (releaseFailed en y).2.length ≤ 1 := by
      rcases releaseFailed_tasks en y with h | h <;> simp [h]
    refine ⟨(followTasks en).length + 1 + (releaseFailed en y).2.length + 1, by omega, fun n => ?_⟩
    have hn : n + ((followTasks en).length + 1 + (releaseFailed en y).2.length)
        = n + (followTasks en).length + 1 + (releaseFailed en y).2.length := by omega
    rw [htasks, ← htold n, List.cons_append, ← Nat.add_assoc, hn, runTasks_cons]
    exact runTasks_idle hidle _ _
  · have htasks : freeTasks en .timeout = .report en .timeout :: followTasks en := by
      simp [freeTasks, followTasks, ho, hk]
    have hsame : (releaseFailed en y).1 = y := by rw [releaseFailed_of_other hk]; rfl
    refine ⟨(followTasks en).length + 1, by omega, fun n => ?_⟩
    rw [htasks, ← htold n, hsame]
    rfl

section
variable {s : State} {e : EntryNo} {en : Entry}

theorem timedOut_frame : (timedOut e en s).ptb = s.ptb ∧ (timedOut e en s).rcs = s.rcs
    ∧ (timedOut e en s).ilk = { s.ilk with deferred := s.ilk.deferred.filter (fun it => it.entry != e) } := by
  obtain ⟨hptb, hrcs, hilk, -⟩ := faultFreed_frame (k := timeoutFault (paramsKind en.params)) (how := .timeout) (e := e)
    (en := en) (x := duePass (windUpdated en s))
  have hw := stopsOnly_windUpdated en s
  have hilk' : (duePass (windUpdated en s)).ilk = s.ilk := hw.ilk
  rw [hilk'] at hilk
  exact ⟨hptb.trans hw.ptb, hrcs.trans hw.rcs, hilk⟩

theorem timedOut_occupant (h : paramsKind en.params ≠ .move) (x : Stn) :
    ((timedOut e en s).station x).occupant = (s.station x).occupant := by
  rw [timedOut, faultFreed_occupant, windUpdated, if_neg h]
  rfl

theorem raises_timedOut :
    Raises (timeoutFault (paramsKind en.params)) (some en.station) en.pallet s (timedOut e en s) :=
  (raises_faultFreed (x := duePass (windUpdated en s))).from_fcu (stopsOnly_windUpdated en s).fcu

theorem conclude_timeout (hs : BetweenEvents s) (he : s.entry? e = some en) (hl : LeavesAlone e en s)
    (hd : s.ilk.deferred = []) : conclude (expireEntry e en s) = .next (closeEvent (passOver (timeoutTold e en s))) := by
  have hw := stopsOnly_windUpdated en s
  have hclaim : (duePass (windUpdated en s)).ev.diqClaim = false := hw.diqClaim.trans (congrArg Within.diqClaim hs)
  have hy : NothingFollows en.station (timedOut e en s) :=
    nothingFollows_faultFreed (x := duePass (windUpdated en s)) (hw.leavesAlone hl) hclaim
  have hdef : (timeoutTold e en s).ilk.deferred = [] := by
    rw [timeoutTold, notice_ilk, releaseFailed_frame]
    exact (congrArg Ilk.deferred timedOut_frame.2.2).trans (by rw [hd]; rfl)
  obtain ⟨k, hk, hrun⟩ := runTasks_timeout hl.1 hy [.deferPass, .close]
  have hend := conclude_only_passOver hdef
  rw [conclude_only_pass hdef] at hend
  rw [← hend]
  refine conclude_of_run (n := 0 + 2 + k + 1) ?_ (le_cascadeBound (by omega))
  change runTasks _ (.free e .timeout :: [.deferPass, .close]) (duePass (windUpdated en s)) = _
  rw [runTasks_cons]
  change runTasks _ ((freeEntryStep e .timeout (duePass (windUpdated en s))).2 ++ _)
    (freeEntryStep e .timeout (duePass (windUpdated en s))).1 = _
  rw [freeEntryStep_fault (x := duePass (windUpdated en s)) ((hw.entry e).trans he) rfl]
  exact (hrun 2).trans (run_end_pass 0 hdef)

/-- R32: the pallet table after the timeout is that of the RELEASE handed back. -/
theorem timeoutTold_ptb : (timeoutTold e en s).ptb = (releaseFailed en (timedOut e en s)).1.ptb := notice_ptb ..

theorem timeoutTold_frame : (timeoutTold e en s).mrt.entries = (timedOut e en s).mrt.entries
    ∧ (timeoutTold e en s).fcu = (timedOut e en s).fcu ∧ (timeoutTold e en s).rcs = s.rcs
    ∧ (timeoutTold e en s).ilk.table = s.ilk.table := by
  obtain ⟨-, hrcs, hilk⟩ := timedOut_frame (s := s) (e := e) (en := en)
  simp only [timeoutTold, notice_entries, notice_fcu, notice_rcs, notice_ilk]
  rw [releaseFailed_frame]
  refine ⟨rfl, rfl, hrcs, ?_⟩
  change (timedOut e en s).ilk.table = _
  rw [hilk]

theorem timeoutTold_summary : (timeoutTold e en s).mga.summary.getLsbD 3 = true := by
  rw [timeoutTold, notice_summary, BitVec.getLsbD_or]
  exact Bool.or_true _

end

/-! #### The pallet of a RELEASE that times out (R32) -/

section
variable {y : State} {en : Entry} {dest : Word} {i : Slot} {r : Record} (hp : en.params = .release dest)
  (hr : en.released = some r.tag) (h : HasRecord r.tag i r y)
include hp hr h

theorem releaseFailed_elsewhere (hn : ¬ ((y.station en.station).occupant = .tracked r.tag ∧ headedFor r dest = true)) :
    releaseFailed en y = only y := by
  simp only [releaseFailed, hp, hr, record_of_hasRecord h, if_neg hn]

theorem releaseFailed_back (ho : (y.station en.station).occupant = .tracked r.tag) (hd : headedFor r dest = true) :
    (releaseFailed en y).1.ptb = { (leaveOld r y).ptb with
      slots := upd y.ptb.slots i (fun _ => some { r with rstate := .present en.station }) } := by
  have hslots : (leaveOld r y).ptb.slots = y.ptb.slots := leaveOld_slots ..
  have hl : HasRecord r.tag i r (leaveOld r y) := by
    rw [HasRecord, hslots]
    exact h
  simp only [releaseFailed, hp, hr, record_of_hasRecord h, if_pos (And.intro ho hd)]
  rw [modRecord_of_hasRecord hl, ← hslots]
  rfl

end

theorem leaveOld_transit {r : Record} {x : Stn} {dl : Time} (hr : r.rstate = .transit x dl) (y : State) :
    leaveOld r y = leaveList x r.tag y := by
  simp [leaveOld, listOf, hr]

theorem leaveOld_lost {r : Record} {l : Option Stn} (hr : r.rstate = .lost l) (y : State) : leaveOld r y = y := by
  simp [leaveOld, listOf, hr]

theorem headedFor_transit {r : Record} {dest : Word} {x : Stn} {dl : Time} (hr : r.rstate = .transit x dl) :
    headedFor r dest = true ↔ dest.toNat = x.val := by
  simp only [headedFor, hr, beq_iff_eq]
  refine ⟨fun h => ?_, destStn?_eq_some⟩
  unfold destStn? at h
  split at h <;> cases h
  rfl

theorem headedFor_lost {r : Record} {dest : Word} {x : Stn} (hr : r.rstate = .lost (some x)) :
    headedFor r dest = true ↔ dest.toNat = x.val := by
  simp only [headedFor, hr, beq_iff_eq]
  refine ⟨fun h => ?_, fun h => (destStn?_eq_some h).symm⟩
  unfold destStn? at h
  split at h <;> cases h
  rfl

end Sys2Proof.Machine

namespace Sys2Proof.Proofs
open Sys2Proof.Machine

/-- Settles O52: an entry freed by its CYCLE_END, by its deadline, and by its deferral deadline. -/
theorem entriesEnd : Obligations.EntriesEnd := by
  unfold Obligations.EntriesEnd
  refine ⟨fun m st s e en p op lim hs hr hnob he hst hp hes ho hm hpend hu => ?_, ?_,
    fun s e en it hs he hdef hit hdl hes ho hfree hidle hpend hu => ?_⟩
  · obtain ⟨hd, hfree, hidle⟩ := hnob
    have hl : LeavesAlone e en (reported m s) := ⟨ho, hst ▸ hpend, hidle, hst ▸ hu, hfree⟩
    have hn := noticesOnly_freedState (e := e) (q := en) (how := .done (some (cycleResultOf m.argB)) false)
      (x := reported m s) fun _ => rfl
    have hdef : (freedState e en (.done (some (cycleResultOf m.argB)) false) (reported m s)).ilk.deferred = [] := by
      rw [hn]
      exact (congrArg (List.filter _) hd).trans rfl
    have hclaim : (reported m s).ev.diqClaim = false := by
      rw [reported]
      exact congrArg Within.diqClaim hs
    refine ⟨_, ((reportAs_applied hr).trans (congrArg conclude (applyCycleEnd_issued (s := reported m s) he hst hp hes hm hu))).trans
      (conclude_free (x := reported m s) he hl hclaim rfl (by simp) hdef), ?_, fun j hj => ?_, ?_,
      closeEvent_summary _ _ ?_, ?_, ?_, ?_, ?_, ?_⟩
    · rw [State.entry?, closeEvent_entries, passOver_entries, hn]
      exact setEntry_entry_self (reported m s) e none
    · rw [State.entry?, closeEvent_entries, passOver_entries, hn]
      exact setEntry_entry_ne (s := reported m s) hj
    · rw [closeEvent_chi_uiq]
      change (freedState e en _ _).chi.uiq = _
      rw [hn]
      rfl
    · change (notice .command _ _ _ _).mga.summary.getLsbD 3 = true
      rw [notice_summary, BitVec.getLsbD_or]
      exact Bool.or_true _
    all_goals
      simp only [closeEvent_fcu, closeEvent_stb, closeEvent_ptb, closeEvent_rcs, closeEvent_trp]
      unfold passOver State.modEv
      rw [hn]
      rfl
  · intro s e en x hs hnob he hes hdl hpass ho hpend hu k
    obtain ⟨hd, hfree, hidle⟩ := hnob
    have hl : LeavesAlone e en s := ⟨ho, hpend, hidle, hu, hfree⟩
    have hk : k = timeoutFault (paramsKind en.params) := by
      dsimp only [k]
      cases en.params <;> rfl
    have hdue : entryDue s.now en = true := by
      have ht : timePassed en.deadline s.now = true := by
        rw [hdl]
        exact decide_eq_true hpass
      rcases hes with h | h <;> simp [entryDue, h, ht]
    have hexec : exec (.entryDeadlineExpiry e) s = .next (closeEvent (passOver (timeoutTold e en s))) := by
      change execEntryDeadlineExpiry e s = _
      simp only [execEntryDeadlineExpiry, he]
      rw [whenOut_true hs.2 hdue, conclude_timeout hs.1 he hl hd]
    obtain ⟨hentries, hfcu, hrcs, htable⟩ := timeoutTold_frame (s := s) (e := e) (en := en)
    have hfcu' : (closeEvent (passOver (timeoutTold e en s))).fcu = (timedOut e en s).fcu := (closeEvent_fcu _).trans hfcu
    have hentry : ∀ j, (closeEvent (passOver (timeoutTold e en s))).entry? j = (timedOut e en s).entry? j := fun j => by
      rw [State.entry?, closeEvent_entries, passOver_entries, hentries]
      rfl
    have hptb : (closeEvent (passOver (timeoutTold e en s))).ptb = (releaseFailed en (timedOut e en s)).1.ptb :=
      (closeEvent_ptb _).trans timeoutTold_ptb
    have hptb' : (timedOut e en s).ptb = s.ptb := timedOut_frame.1
    obtain ⟨hpd, hcount, hlast, hpal, hothers⟩ := (raises_timedOut (e := e) (en := en) (s := s)).of_fcu hfcu'
    rw [← hk] at hpd hcount hlast hpal
    refine ⟨_, hexec, (hentry e).trans faultFreed_gone, fun j hj => (hentry j).trans (faultFreed_free ?_), hpd, hcount, hlast,
      hpal, fun j hj => hothers j (hk ▸ hj), closeEvent_summary _ _ timeoutTold_summary, (closeEvent_rcs _).trans hrcs, ?_,
      fun hother => ?_, fun dest g i r hdest hrel hrec => ?_⟩
    · exact ((stopsOnly_windUpdated en s).entry j).trans hj
    · rw [closeEvent_ilk]
      exact htable
    · rw [hptb, releaseFailed_of_other hother]
      exact hptb'
    · intro back here
      obtain ⟨hi, rfl, huniq⟩ := hrec
      have hrec' : HasRecord r.tag i r (timedOut e en s) := by
        rw [HasRecord, hptb']
        exact ⟨hi, rfl, huniq⟩
      have hocc : ((timedOut e en s).station en.station).occupant = .tracked r.tag ↔ here := by
        rw [timedOut_occupant (by rw [hdest]; exact CmdKind.noConfusion)]
      have hback := fun ho => releaseFailed_back hdest hrel hrec' (hocc.2 ho)
      have hstays : ¬ (here ∧ headedFor r dest = true) →
          (closeEvent (passOver (timeoutTold e en s))).ptb = s.ptb := fun hn => by
        rw [hptb, releaseFailed_elsewhere hdest hrel hrec' (by rwa [hocc])]
        exact hptb'
      refine ⟨fun y dl ho hy hd => ?_, fun y ho hy hd => ?_, fun hn => hstays ?_⟩
      · rw [hptb, hback ho ((headedFor_transit hy).2 hd), leaveOld_transit hy, hptb']
        rw [leaveList, State.modApproach, hptb']
      · rw [hptb, hback ho ((headedFor_lost hy).2 hd), leaveOld_lost hy, hptb']
      · rintro ⟨ho, hh⟩
        rcases hn with hn | ⟨y, hy⟩ | ⟨y, dl, hy, hd⟩ | ⟨y, hy, hd⟩
        · exact hn ho
        · simp [headedFor, hy] at hh
        · exact hd ((headedFor_transit hy).1 hh)
        · exact hd ((headedFor_lost hy).1 hh)
  · have hl : LeavesAlone e en s := ⟨ho, hpend, hidle, hu, hfree⟩
    have hdue : deferDue s e = some it := by
      have hp : passed it.deadline s.now = true := decide_eq_true hdl
      simp [deferDue, hdef, hit, hp]
    have hexec : exec (.deferExpiry e) s = .next (closeEvent (deferRefused it.deferring.val e en s)) := by
      change execDeferExpiry e s = _
      simp only [execDeferExpiry, hdue]
      rw [whenOut_true hs.2 rfl, conclude_deferTimeout hs.1 he hl]
    obtain ⟨hrcs, hfcu, hilk, hentries⟩ := deferRefused_frame (s := s) (e := e) (en := en) (d := it.deferring.val)
    have hentry : ∀ j, (closeEvent (deferRefused it.deferring.val e en s)).entry? j
        = (faultFreed fDeferTimeout (.deferTimeout it.deferring.val) e en s).entry? j := fun j => by
      rw [State.entry?, closeEvent_entries]
      exact hentries j
    obtain ⟨hpd, hcount, hlast, hpal, hothers⟩ := (raises_faultFreed (k := fDeferTimeout)
      (how := .deferTimeout it.deferring.val) (e := e) (en := en) (x := s)).of_fcu ((closeEvent_fcu _).trans hfcu)
    refine ⟨_, hexec, (hentry e).trans faultFreed_gone, ?_, fun j hj => (hentry j).trans (faultFreed_free hj), hpd, hcount,
      hlast, hpal, hothers, ⟨_, (closeEvent_outgoing _).subset deferRefused_told, rfl, rfl, ?_, rfl, rfl, rfl⟩,
      (closeEvent_rcs _).trans hrcs⟩
    · rw [closeEvent_ilk, hilk, hdef]
      simp [hit]
    · have := en.station.isLt
      simp [mkMsg, stnByte]
      omega

end Sys2Proof.Proofs
end

section
namespace Sys2Proof.Machine

/-! ### Events whose tasks do nothing -/

/-- An event whose tasks find nothing to do, and whose pass finds the deferred list empty. -/
theorem conclude_idle {y : State} {l : List Task} (h : ∀ t ∈ l, perform t y = only y) (hl : l.length ≤ 10)
    (hd : y.ilk.deferred = []) : conclude (y, l) = .next (closeEvent (passOver y)) := by
  have hend := conclude_only_passOver hd
  rw [conclude_only_pass hd] at hend
  rw [← hend]
  refine conclude_of_run (n := 0 + 2 + l.length) ?_ (le_cascadeBound (by omega))
  exact (runTasks_idle h _ _).trans (run_end_pass 0 hd)

theorem passOver_notice (ev : Event) (b : Byte) (p : Tag) (d : Nat) (y : State) :
    passOver (notice ev b p d y) = notice ev b p d (passOver y) := by
  unfold notice
  refine (apply_ite passOver _ _ _).trans (if_congr Iff.rfl rfl ?_)
  exact (apply_ite passOver _ _ _).trans (if_congr Iff.rfl rfl rfl)

/-- R183, R184: an event told by the last notice of its event. -/
theorem tells_passOver {ev : Event} {b : Byte} {p : Tag} {d : Nat} {s y : State} (hm : y.mga = s.mga)
    (hn : y.chi.nq = s.chi.nq) (hk : y.mrt.kept = s.mrt.kept) :
    Tells ev b p d s (closeEvent (passOver (notice ev b p d y))) := by
  rw [passOver_notice]
  exact tells_closeEvent_notice ev b p d hm hn hk

theorem onArrival_idle {st : Stn} {y : State} (h : (y.station st).mode ≠ .auto ∨ (y.proc st).pstate ≠ .empty) :
    onArrival st y = only y := by
  rw [onArrival, if_neg]
  rintro ⟨hm, hp⟩
  exact h.elim (· hm) (· hp)

theorem mem_shorter {t : Task} {s : State} {x : Stn} {p : Tag} (h : t ∈ shorter s x p) : t = .reroute := by
  unfold shorter at h
  split at h
  · exact List.mem_singleton.1 h
  · cases h

theorem shorter_length (s : State) (x : Stn) (p : Tag) : (shorter s x p).length ≤ 1 := by
  unfold shorter
  split <;> simp

/-! ### A station blocked by a TAG (R34, R99) -/

/-- R99, R161: the event of a station that is blocked and of the fault told with it. -/
def blockedBy (k : FaultKind) (st : Stn) (p : Tag) (x : State) : State := occurred k (some st) p (enterBlocked st x)

section
variable {k : FaultKind} {st : Stn} {p : Tag} {x : State}

theorem conclude_blockedBy (hd : x.ilk.deferred = []) :
    conclude (only (occur k (some st) p (enterBlocked st x))) = .next (blockedBy k st p x) :=
  conclude_occur (s := enterBlocked st x) hd

theorem blockedBy_ptb : (blockedBy k st p x).ptb = x.ptb := occurred_ptb
theorem blockedBy_rcs : (blockedBy k st p x).rcs = x.rcs := occurred_rcs
theorem blockedBy_uiq : (blockedBy k st p x).chi.uiq = x.chi.uiq := occurred_uiq

theorem blockedBy_raises {s : State} (h : x.fcu = s.fcu) : Raises k (some st) p s (blockedBy k st p x) :=
  raises_occurred (s := enterBlocked st x) h

theorem HoldsOnly.pallet {n : Nat} {s t : State} (h : HoldsOnly n s t) (y : Stn) : (t.proc y).pallet = (s.proc y).pallet := by
  rcases h.proc y with hx | hx
  · rw [hx]
  · rw [hx, Process.holdSettle]
    split <;> rfl

theorem enterBlocked_blocks (st : Stn) (x : State) : Blocks st (enterBlocked st x) := by
  unfold Blocks enterBlocked
  rw [State.modProc_proc, if_pos rfl]
  exact ⟨rfl, rfl⟩

theorem blockedBy_blocks : Blocks st (blockedBy k st p x) := by
  have hproc : (blockedBy k st p x).proc st = (occur k (some st) p (enterBlocked st x)).proc st := by
    rw [State.proc, blockedBy, occurred, closeEvent_idx]
    rfl
  have hh := holdsOnly_occur k (some st) p (enterBlocked st x)
  rw [Blocks, hproc, hh.pstate, hh.pallet]
  exact enterBlocked_blocks st x

theorem blockedBy_occupant (y : Stn) : ((blockedBy k st p x).station y).occupant = (x.station y).occupant := by
  rw [blockedBy, occurred_station, (holdsOnly_occur ..).occupant]
  rfl

end

/-! ### The occupant of a station (R33) -/

theorem occupiedBy_setOccupant (st : Stn) (o : Occupant) (s : State) : OccupiedBy st o s (setOccupant st o s) := by
  unfold OccupiedBy setOccupant
  refine ⟨?_, fun x hx => ?_⟩
  · rw [State.modStn_station, if_pos rfl]
  · rw [State.modStn_station, if_neg hx]

theorem OccupiedBy.congr {st : Stn} {o : Occupant} {s t u : State} (h : OccupiedBy st o s t)
    (hu : ∀ x, (u.station x).occupant = (t.station x).occupant) : OccupiedBy st o s u :=
  ⟨(hu st).trans h.1, fun x hx => (hu x).trans (h.2 x hx)⟩

theorem occupiedBy_self {st : Stn} {s t : State} (h : ∀ x, (t.station x).occupant = (s.station x).occupant) :
    OccupiedBy st (s.station st).occupant s t := ⟨h st, fun x _ => h x⟩

/-! ### A TAG that blocks the station (R34) -/

section
variable {k : FaultKind} {st : Stn} {p : Tag} {s : State}

/-- R34: a TAG at a station with another occupant. -/
theorem conclude_tagOccupied (hd : s.ilk.deferred = []) : conclude (only (tagOccupied st p s))
    = .next (blockedBy (if (s.record? p).isSome then fDuplicateTag else fStranger) st p s) := conclude_blockedBy hd

/-- R34: the tag becomes the unmanaged occupant and the station is blocked. -/
def rejected (k : FaultKind) (st : Stn) (p : Tag) (s : State) : State :=
  blockedBy k st p (setOccupant st (.unmanaged p) s)

theorem conclude_tagStranger (hd : s.ilk.deferred = []) : conclude (only (tagStranger st p s)) = .next (rejected fStranger st p s) :=
  conclude_blockedBy (x := setOccupant st (.unmanaged p) s) hd

theorem conclude_tagDuplicate (hd : s.ilk.deferred = []) :
    conclude (only (tagDuplicate st p s)) = .next (rejected fDuplicateTag st p s) :=
  conclude_blockedBy (x := setOccupant st (.unmanaged p) s) hd

theorem rejected_occupied : OccupiedBy st (.unmanaged p) s (rejected k st p s) :=
  (occupiedBy_setOccupant st (.unmanaged p) s).congr fun _ => blockedBy_occupant _

end

/-! ### A record that is PRESENT (R26, R33) -/

/-- R26, R33: the record `q` stands in slot `i`, the tag is the station's tracked occupant, and an ARRIVAL is counted. -/
def placed (st : Stn) (t : Tag) (i : Slot) (q : Record) (s : State) : State :=
  lmnEvent .arrival (some st) none (setOccupant st (.tracked t) (s.setSlot i (some q)))

/-- R26: the record seen now at the station. -/
def arrivedAt (st : Stn) (now : Time) (r : Record) : Record := { r with rstate := .present st, lastSeen := now }

section
variable {s : State} {st : Stn} {t : Tag} {i : Slot} {r : Record}

theorem modRecord_of_hasRecord_tag (h : HasRecord t i r s) (f : Record → Record) : modRecord t f s = s.setSlot i (some (f r)) := by
  obtain ⟨hi, rfl, hu⟩ := h
  exact modRecord_of_hasRecord ⟨hi, rfl, hu⟩ f

theorem becomePresent_eq (h : HasRecord t i r s) : becomePresent st t s = placed st t i (arrivedAt st s.mga.time r) s := by
  rw [becomePresent, modRecord_of_hasRecord_tag h]
  rfl

theorem placed_stb (ho : (s.station st).occupant = .tracked t) : (placed st t i r s).stb = s.stb := by
  have hfix : upd s.stb.stn st (fun x => { x with occupant := .tracked t }) = s.stb.stn := upd_of_fixed (by
    have ho' : (s.stb.stn.get st).occupant = .tracked t := ho
    rw [← ho'])
  exact congrArg (fun v => { s.stb with stn := v }) hfix

theorem record_isSome (h : ¬ NoRecord t s) : (s.record? t).isSome = true := by
  cases hs : slotOf s t with
  | none => exact absurd (slotOf_eq_none.1 hs) h
  | some j =>
    obtain ⟨q, hq, -⟩ := slotOf_eq_some hs
    rw [State.record?, hs, Option.bind_some, hq]
    rfl

theorem placed_occupied : OccupiedBy st (.tracked t) s (placed st t i r s) := occupiedBy_setOccupant ..

end

/-- What a TAG that blocks no station leaves, but for the pallet table and the occupant. -/
structure TagFrame (m : Msg) (s t : State) : Prop where
  uiq : t.chi.uiq = s.chi.uiq ++ [m]
  fcu : t.fcu = s.fcu
  entries : t.mrt.entries = s.mrt.entries
  idx : t.idx = s.idx
  rcs : t.rcs = s.rcs

section
variable {m : Msg} {s y : State}

theorem TagFrame.reported (m : Msg) (s : State) : TagFrame m s (reported m s) := ⟨rfl, rfl, rfl, rfl, rfl⟩

variable (h : TagFrame m s y)
include h

theorem TagFrame.setSlot (i : Slot) (q : Option Record) : TagFrame m s (y.setSlot i q) :=
  ⟨h.uiq, h.fcu, h.entries, h.idx, h.rcs⟩

theorem TagFrame.leaveList (st : Stn) (t : Tag) : TagFrame m s (leaveList st t y) := ⟨h.uiq, h.fcu, h.entries, h.idx, h.rcs⟩

theorem TagFrame.placed (st : Stn) (t : Tag) (i : Slot) (q : Record) : TagFrame m s (placed st t i q y) :=
  ⟨h.uiq, h.fcu, h.entries, h.idx, h.rcs⟩

theorem TagFrame.notice (ev : Event) (b : Byte) (t : Tag) (d : Nat) : TagFrame m s (notice ev b t d y) :=
  ⟨(notice_chi_uiq ..).trans h.uiq, (notice_fcu ..).trans h.fcu, (notice_entries ..).trans h.entries,
    (notice_idx ..).trans h.idx, (notice_rcs ..).trans h.rcs⟩

theorem TagFrame.closed : TagFrame m s (closeEvent (passOver y)) :=
  ⟨(closeEvent_chi_uiq _).trans h.uiq, (closeEvent_fcu _).trans h.fcu, (closeEvent_entries _).trans h.entries,
    (closeEvent_idx _).trans h.idx, (closeEvent_rcs _).trans h.rcs⟩

end

/-! ### The cases of a TAG away from the load station (R34 to R36) -/

section
variable {s : State} {st : Stn} {t : Tag} {i : Slot} {r : Record}

theorem tagElsewhere_reRead (ho : (s.station st).occupant = .tracked t) (h : HasRecord t i r s) :
    tagElsewhere st t s = tagReRead st t r s := by
  simp only [tagElsewhere, ho, if_true, record_of_hasRecord_tag h]

theorem tagElsewhere_unmanaged (ho : (s.station st).occupant = .unmanaged t) : tagElsewhere st t s = only s := by
  simp [tagElsewhere, ho]

theorem tagElsewhere_occupied (hn : (s.station st).occupant ≠ .nobody) (ht : (s.station st).occupant ≠ .tracked t)
    (hu : (s.station st).occupant ≠ .unmanaged t) : tagElsewhere st t s = only (tagOccupied st t s) := by
  rw [tagElsewhere, if_neg ht, if_neg hu, if_pos hn]

theorem not_occupant_of_nobody (ho : (s.station st).occupant = .nobody) :
    (s.station st).occupant ≠ .tracked t ∧ (s.station st).occupant ≠ .unmanaged t := by
  rw [ho]
  exact ⟨Occupant.noConfusion, Occupant.noConfusion⟩

theorem tagReRead_present (hp : r.rstate = .present st) :
    tagReRead st t r s = only (modRecord t (fun q => { q with lastSeen := s.now }) s) := by
  simp only [tagReRead, hp, if_true]

theorem tagReRead_unseen (hp : (∃ x dl, r.rstate = .transit x dl) ∨ ∃ x, r.rstate = .present x ∧ x ≠ st) :
    tagReRead st t r s = only s := by
  rcases hp with ⟨x, dl, hp⟩ | ⟨x, hp, hx⟩
  · simp only [tagReRead, hp]
  · simp only [tagReRead, hp, if_neg hx]

theorem tagReRead_lost {l : Option Stn} (hp : r.rstate = .lost l) :
    tagReRead st t r s = (notice .recovered (stnByte st) t 0 (becomePresent st t s), [.arrived st]) := by
  simp only [tagReRead, hp]

section
variable (ho : (s.station st).occupant = .nobody)
include ho

theorem tagElsewhere_stranger (h : t = 0 ∨ NoRecord t s) : tagElsewhere st t s = only (tagStranger st t s) := by
  have hnone : (if t = 0 then none else s.record? t) = none := by
    split
    · rfl
    next h0 => exact record_of_noRecord (h.resolve_left h0)
  obtain ⟨hne, hnu⟩ := not_occupant_of_nobody (t := t) ho
  rw [tagElsewhere, if_neg hne, if_neg hnu, if_neg (not_not_intro ho), hnone]

variable (h0 : t ≠ 0) (h : HasRecord t i r s)
include h0 h

theorem tagElsewhere_duplicate {x : Stn} (hp : r.rstate = .present x) : tagElsewhere st t s = only (tagDuplicate st t s) := by
  obtain ⟨hne, hnu⟩ := not_occupant_of_nobody (t := t) ho
  rw [tagElsewhere, if_neg hne, if_neg hnu, if_neg (not_not_intro ho), if_neg h0, record_of_hasRecord_tag h]
  simp only [hp]

theorem tagElsewhere_intended (hp : ∀ x, r.rstate ≠ .present x) (hi : intendedFor r st = true) :
    tagElsewhere st t s = ((arriveIntended st t r s).1, [.arrived st] ++ (arriveIntended st t r s).2) := by
  obtain ⟨hne, hnu⟩ := not_occupant_of_nobody (t := t) ho
  rw [tagElsewhere, if_neg hne, if_neg hnu, if_neg (not_not_intro ho), if_neg h0, record_of_hasRecord_tag h]
  dsimp only
  split
  next x hx => exact absurd hx (hp x)
  next => rw [if_pos hi]

theorem tagElsewhere_misrouted (hp : ∀ x, r.rstate ≠ .present x) (hi : intendedFor r st = false) : tagElsewhere st t s
    = if inCurrentGroup s r st then ((arriveMisrouted st t r s).1, [.arrived st] ++ (arriveMisrouted st t r s).2)
      else (enterBlocked st (arriveMisrouted st t r s).1, (arriveMisrouted st t r s).2) := by
  obtain ⟨hne, hnu⟩ := not_occupant_of_nobody (t := t) ho
  have hi' : ¬ intendedFor r st = true := by simp [hi]
  rw [tagElsewhere, if_neg hne, if_neg hnu, if_neg (not_not_intro ho), if_neg h0, record_of_hasRecord_tag h]
  dsimp only
  split
  next x hx => exact absurd hx (hp x)
  next => rw [if_neg hi']

end

/-! #### The arrival (R35, R36) -/

/-- R35: the state after an arrival as intended, before its notice. -/
theorem arriveIntended_transit {dl : Time} (h : HasRecord t i r s) (hp : r.rstate = .transit st dl) :
    arriveIntended st t r s = (if aheadOf (s.ptb.approach.get st) t = 0
        then placed st t i (arrivedAt st s.mga.time r) (leaveList st t s)
        else notice .overtake (stnByte st) t (aheadOf (s.ptb.approach.get st) t)
          (placed st t i (arrivedAt st s.mga.time r) (leaveList st t s)), shorter s st t) := by
  have hl : HasRecord t i r (leaveList st t s) := h
  simp only [arriveIntended, hp, becomePresent_eq hl]
  rfl

theorem arriveIntended_lost {l : Option Stn} (h : HasRecord t i r s) (hp : r.rstate = .lost l) : arriveIntended st t r s
    = only (notice .recovered (stnByte st) t 0 (placed st t i (arrivedAt st s.mga.time r) s)) := by
  simp only [arriveIntended, hp, becomePresent_eq h]

/-- R36: the record of a pallet that came to the wrong station. -/
def misroutedAt (st : Stn) (now : Time) (r : Record) : Record :=
  { arrivedAt st now r with quality := { r.quality with misrouted := true } }

theorem placed_setSlot (q p : Record) : (placed st t i q s).setSlot i (some p) = placed st t i p s :=
  congrArg (fun v => { placed st t i q s with ptb := { s.ptb with slots := v } })
    (upd_upd s.ptb.slots i (fun _ => some q) fun _ => some p)

theorem leaveOld_frame (r : Record) (s : State) : leaveOld r s = { s with ptb := (leaveOld r s).ptb } := by
  unfold leaveOld
  split <;> rfl

theorem arriveMisrouted_eq (h : HasRecord t i r s) : (arriveMisrouted st t r s).1
    = occur fMisrouted (some st) t (placed st t i (misroutedAt st s.mga.time r) (leaveOld r s)) := by
  have hmga : (leaveOld r s).mga = s.mga := by rw [leaveOld_frame]
  have hl : HasRecord t i r (leaveOld r s) := h.congr (leaveOld_slots ..)
  have hpl : HasRecord t i (arrivedAt st s.mga.time r) (placed st t i (arrivedAt st s.mga.time r) (leaveOld r s)) :=
    (hasRecord_setSlot (q := arrivedAt st s.mga.time r) hl h.2.1).congr rfl
  simp only [arriveMisrouted, becomePresent_eq hl, hmga, modRecord_of_hasRecord_tag hpl, placed_setSlot]
  rfl

theorem arriveMisrouted_tasks : ∀ k ∈ (arriveMisrouted st t r s).2, k = .reroute := by
  intro k hk
  unfold arriveMisrouted at hk
  dsimp only at hk
  split at hk
  · exact mem_shorter hk
  · cases hk

theorem arriveMisrouted_length : (arriveMisrouted st t r s).2.length ≤ 1 := by
  unfold arriveMisrouted
  dsimp only
  split
  · exact shorter_length ..
  · exact Nat.zero_le _

theorem intendedFor_transit {x : Stn} {dl : Time} (hp : r.rstate = .transit x dl) :
    intendedFor r st = decide (x = st) := by
  simp only [intendedFor, hp]
  exact Bool.eq_iff_iff.2 (by simp)

theorem intendedFor_lost {l : Option Stn} (hp : r.rstate = .lost l) : intendedFor r st = decide (l = some st) := by
  simp only [intendedFor, hp]
  exact Bool.eq_iff_iff.2 (by simp)

theorem inCurrentGroup_eq_true {step : RouteStep} (h : currentStep s r = some step) (hg : step.group.getLsbD st.val = true) :
    inCurrentGroup s r st = true := by
  simp only [inCurrentGroup, h]
  exact hg

theorem inCurrentGroup_eq_false (h : ∀ step, currentStep s r = some step → step.group.getLsbD st.val = false) :
    inCurrentGroup s r st = false := by
  unfold inCurrentGroup
  split
  next step hs => exact h step hs
  next => rfl

end

theorem exec_tagElsewhere {m : Msg} {st : Stn} {s : State} (hr : ReportAt kTag m st s) (hl : st ≠ s.stb.load) :
    exec (.tagReport m) s = conclude (tagElsewhere st m.pallet (reported m s)) :=
  (reportAs_applied hr).trans (congrArg conclude (if_neg hl))

/-! ### The events of a TAG away from the load station (R34 to R36) -/

section
variable {m : Msg} {st : Stn} {s : State} (hr : ReportAt kTag m st s) (hd : s.ilk.deferred = []) (hl : st ≠ s.stb.load)
  {i : Slot} {r : Record}
include hr hd hl

/-- R34: a TAG that changes no table. -/
theorem tagReport_quiet (h : tagElsewhere st m.pallet (reported m s) = only (reported m s)) :
    ∃ t, exec (.tagReport m) s = .next t ∧ t.ptb = s.ptb ∧ t.stb = s.stb ∧ TagFrame m s t :=
  ⟨_, (exec_tagElsewhere hr hl).trans ((congrArg conclude h).trans (conclude_only_passOver (s := reported m s) hd)),
    closeEvent_ptb _, closeEvent_stb _, (TagFrame.reported m s).closed⟩

theorem tagReport_reRead_present (ho : (s.station st).occupant = .tracked m.pallet) (h : HasRecord m.pallet i r s)
    (hp : r.rstate = .present st) : ∃ t, exec (.tagReport m) s = .next t
      ∧ t.ptb = { s.ptb with slots := upd s.ptb.slots i (fun _ => some { r with lastSeen := s.mga.time }) }
      ∧ t.stb = s.stb ∧ TagFrame m s t := by
  have hrun : exec (.tagReport m) s
      = .next (closeEvent (passOver ((reported m s).setSlot i (some { r with lastSeen := s.mga.time })))) := by
    rw [exec_tagElsewhere hr hl, tagElsewhere_reRead (s := reported m s) ho h, tagReRead_present hp,
      modRecord_of_hasRecord_tag (s := reported m s) h]
    exact conclude_only_passOver (s := (reported m s).setSlot i _) hd
  exact ⟨_, hrun, closeEvent_ptb _, closeEvent_stb _, ((TagFrame.reported m s).setSlot i _).closed⟩

theorem tagReport_reRead_lost {l : Option Stn} (ho : (s.station st).occupant = .tracked m.pallet)
    (h : HasRecord m.pallet i r s) (hp : r.rstate = .lost l) (hidle : (s.station st).mode ≠ .auto ∨ (s.proc st).pstate ≠ .empty) :
    ∃ t, exec (.tagReport m) s = .next t
      ∧ t.ptb = { s.ptb with slots := upd s.ptb.slots i (fun _ => some (arrivedAt st s.mga.time r)) }
      ∧ Tells .recovered (stnByte st) m.pallet 0 s t ∧ t.stb = s.stb ∧ TagFrame m s t := by
  have hrec : becomePresent st m.pallet (reported m s)
      = placed st m.pallet i (arrivedAt st s.mga.time r) (reported m s) := becomePresent_eq h
  have hstb : (placed st m.pallet i (arrivedAt st s.mga.time r) (reported m s)).stb = s.stb :=
    placed_stb (s := reported m s) ho
  have hrun : exec (.tagReport m) s = .next (closeEvent (passOver (notice .recovered (stnByte st) m.pallet 0
      (placed st m.pallet i (arrivedAt st s.mga.time r) (reported m s))))) := by
    rw [exec_tagElsewhere hr hl, tagElsewhere_reRead (s := reported m s) ho h, tagReRead_lost hp, hrec]
    refine conclude_idle (fun k hk => ?_) (by simp) ((notice_ilk ..).symm ▸ hd)
    rw [List.mem_singleton.1 hk]
    refine onArrival_idle ?_
    rw [State.station, State.proc, notice_stb, notice_idx, hstb]
    exact hidle
  refine ⟨_, hrun, ?_, tells_passOver rfl rfl rfl, ?_, (((TagFrame.reported m s).placed ..).notice ..).closed⟩
  · rw [closeEvent_ptb]
    exact notice_ptb ..
  · rw [closeEvent_stb]
    exact (notice_stb ..).trans hstb

theorem tagReport_occupied (hn : (s.station st).occupant ≠ .nobody) (ht : (s.station st).occupant ≠ .tracked m.pallet)
    (hu : (s.station st).occupant ≠ .unmanaged m.pallet) : exec (.tagReport m) s
      = .next (blockedBy (if (s.record? m.pallet).isSome then fDuplicateTag else fStranger) st m.pallet (reported m s)) :=
  (exec_tagElsewhere hr hl).trans ((congrArg conclude (tagElsewhere_occupied (s := reported m s) hn ht hu)).trans
    (conclude_tagOccupied (s := reported m s) hd))

theorem tagReport_stranger (ho : (s.station st).occupant = .nobody) (h : m.pallet = 0 ∨ NoRecord m.pallet s) :
    exec (.tagReport m) s = .next (rejected fStranger st m.pallet (reported m s)) :=
  (exec_tagElsewhere hr hl).trans ((congrArg conclude (tagElsewhere_stranger (s := reported m s) ho h)).trans
    (conclude_tagStranger (s := reported m s) hd))

theorem tagReport_duplicate {x : Stn} (ho : (s.station st).occupant = .nobody) (h0 : m.pallet ≠ 0)
    (h : HasRecord m.pallet i r s) (hp : r.rstate = .present x) :
    exec (.tagReport m) s = .next (rejected fDuplicateTag st m.pallet (reported m s)) :=
  (exec_tagElsewhere hr hl).trans ((congrArg conclude (tagElsewhere_duplicate (s := reported m s) ho h0 h hp)).trans
    (conclude_tagDuplicate (s := reported m s) hd))

end

/-- What a TAG leaves that blocks the station and raises the fault `k`. -/
structure TagBlocks (k : FaultKind) (m : Msg) (st : Stn) (o : Occupant) (s t : State) : Prop where
  ptb : t.ptb = s.ptb
  occupied : OccupiedBy st o s t
  blocks : Blocks st t
  raises : Raises k (some st) m.pallet s t
  uiq : t.chi.uiq = s.chi.uiq ++ [m]
  rcs : t.rcs = s.rcs

theorem tagBlocks_blockedBy (k : FaultKind) (m : Msg) (st : Stn) (s : State) :
    TagBlocks k m st (s.station st).occupant s (blockedBy k st m.pallet (reported m s)) :=
  ⟨blockedBy_ptb, occupiedBy_self fun _ => blockedBy_occupant _, blockedBy_blocks, blockedBy_raises rfl, blockedBy_uiq,
    blockedBy_rcs⟩

theorem tagBlocks_rejected (k : FaultKind) (m : Msg) (st : Stn) (s : State) :
    TagBlocks k m st (.unmanaged m.pallet) s (rejected k st m.pallet (reported m s)) where
  ptb := blockedBy_ptb (x := setOccupant st (.unmanaged m.pallet) (reported m s))
  occupied := rejected_occupied (s := reported m s)
  blocks := blockedBy_blocks (x := setOccupant st (.unmanaged m.pallet) (reported m s))
  raises := blockedBy_raises (x := setOccupant st (.unmanaged m.pallet) (reported m s)) rfl
  uiq := blockedBy_uiq (x := setOccupant st (.unmanaged m.pallet) (reported m s))
  rcs := blockedBy_rcs (x := setOccupant st (.unmanaged m.pallet) (reported m s))

/-! ### The events of an arrival (R35, R36) -/

theorem upd_eq_upd {α : Type} {n : Nat} {v : Vector α n} {i : Fin n} {f g : α → α} (h : f (v.get i) = g (v.get i)) :
    upd v i f = upd v i g := by
  refine vector_ext_get fun j => ?_
  rw [upd_get, upd_get, h]

theorem erase_middle {l : List Tag} {p : Tag} {front back : List Tag} (h : l = front ++ p :: back) (hf : p ∉ front) :
    l.erase p = front ++ back := by
  rw [h, List.erase_append_right _ hf, List.erase_cons_head]

theorem aheadOf_middle {l : List Tag} {p : Tag} {front back : List Tag} (h : l = front ++ p :: back) (hf : p ∉ front) :
    aheadOf l p = front.length := by
  have hne : ∀ x ∈ front, (x != p) = true := fun x hx => bne_iff_ne.2 (by rintro rfl; exact hf hx)
  rw [aheadOf, h, List.takeWhile_append_of_pos hne, List.takeWhile_cons_of_neg (by simp), List.append_nil]

theorem HoldsOnly.mode {n : Nat} {s t : State} (h : HoldsOnly n s t) (x : Stn) : (t.station x).mode = (s.station x).mode := by
  obtain ⟨a, b, hx⟩ := h.station x
  rw [hx]

theorem placed_mode (st : Stn) (t : Tag) (i : Slot) (q : Record) (s : State) (x : Stn) :
    ((placed st t i q s).station x).mode = (s.station x).mode := by
  change ((s.modStn st (fun r => { r with occupant := .tracked t })).station x).mode = _
  rw [State.modStn_station]
  split
  next hx => rw [hx]
  next => rfl

section
variable {y : State} {st : Stn} {l : List Task}

/-- R28, R84: after an arrival nobody is taken up and nobody waits for a shorter list. -/
theorem conclude_arrived (hd : y.ilk.deferred = []) (hi : (y.station st).mode ≠ .auto ∨ (y.proc st).pstate ≠ .empty)
    (hw : ∀ x, (y.proc x).wait ≠ .route) (hl : ∀ k ∈ l, k = .reroute) (hlen : l.length ≤ 1) :
    conclude (y, [.arrived st] ++ l) = .next (closeEvent (passOver y)) := by
  refine conclude_idle (fun k hk => ?_) (by simp; omega) hd
  rcases List.mem_append.1 hk with hk | hk
  · rw [List.mem_singleton.1 hk]
    exact onArrival_idle hi
  · rw [hl k hk]
    exact reroute_of_nobody hw

theorem conclude_rerouted (hd : y.ilk.deferred = []) (hw : ∀ x, (y.proc x).wait ≠ .route) (hl : ∀ k ∈ l, k = .reroute)
    (hlen : l.length ≤ 1) : conclude (y, l) = .next (closeEvent (passOver y)) :=
  conclude_idle (fun k hk => hl k hk ▸ reroute_of_nobody hw) (by omega) hd

end

/-- The state of a report's pallet that has arrived, out of a list. -/
def arrivedState (m : Msg) (st : Stn) (i : Slot) (r : Record) (s : State) : State :=
  placed st m.pallet i (arrivedAt st s.mga.time r) (leaveList st m.pallet (reported m s))

section
variable {m : Msg} {st : Stn} {s : State} (hr : ReportAt kTag m st s) (hn : NobodyWaits s) (hl : st ≠ s.stb.load)
  (hi : (s.station st).mode ≠ .auto ∨ (s.proc st).pstate ≠ .empty) (ho : (s.station st).occupant = .nobody)
  (h0 : m.pallet ≠ 0) {i : Slot} {r : Record} (h : HasRecord m.pallet i r s)

section
include hn
theorem not_route_of_nobodyWaits (x : Stn) : (s.proc x).wait ≠ .route := by
  obtain ⟨-, -, hw⟩ := hn
  rw [(hw x).1]
  exact Wait.noConfusion
end

/-- What an arrival as intended leaves, but for the pallet table. -/
structure Intended (m : Msg) (st : Stn) (s t : State) : Prop where
  stb : t.stb = { s.stb with stn := upd s.stb.stn st (fun x => { x with occupant := .tracked m.pallet }) }
  frame : TagFrame m s t

include hr hn hl hi ho h0 h

theorem tagReport_intended {dl : Time} {front back : List Tag} (hp : r.rstate = .transit st dl)
    (hf : s.ptb.approach.get st = front ++ m.pallet :: back) (hnf : m.pallet ∉ front) : ∃ t, exec (.tagReport m) s = .next t
      ∧ t.ptb = { s.ptb with
          slots := upd s.ptb.slots i (fun _ => some (arrivedAt st s.mga.time r))
          approach := upd s.ptb.approach st (fun _ => front ++ back) }
      ∧ Intended m st s t ∧ (front ≠ [] → Tells .overtake (stnByte st) m.pallet front.length s t) := by
  have hx := tagElsewhere_intended (s := reported m s) ho h0 h (fun x hx => by rw [hp] at hx; cases hx)
    (by rw [intendedFor_transit hp, decide_eq_true rfl])
  have hahead : aheadOf ((reported m s).ptb.approach.get st) m.pallet = front.length := aheadOf_middle hf hnf
  rw [arriveIntended_transit (s := reported m s) h hp, hahead] at hx
  have happ : upd s.ptb.approach st (fun l => l.erase m.pallet) = upd s.ptb.approach st (fun _ => front ++ back) :=
    upd_eq_upd (erase_middle hf hnf)
  have hptb : (arrivedState m st i r s).ptb = { s.ptb with
      slots := upd s.ptb.slots i (fun _ => some (arrivedAt st s.mga.time r))
      approach := upd s.ptb.approach st (fun _ => front ++ back) } :=
    congrArg (fun v => { s.ptb with slots := upd s.ptb.slots i (fun _ => some (arrivedAt st s.mga.time r)), approach := v })
      happ
  have hmode := placed_mode st m.pallet i (arrivedAt st s.mga.time r) (leaveList st m.pallet (reported m s)) st
  have hframe : TagFrame m s (arrivedState m st i r s) := ((TagFrame.reported m s).leaveList ..).placed ..
  have hrun : ∀ y, y.ilk.deferred = [] → y.stb = (arrivedState m st i r s).stb → y.idx = s.idx →
      conclude (y, [.arrived st] ++ shorter (reported m s) st m.pallet) = .next (closeEvent (passOver y)) := by
    intro y hd hb hidx
    refine conclude_arrived hd ?_ (fun x => ?_) (fun k hk => mem_shorter hk) (shorter_length ..)
    · rw [State.station, State.proc, hb, hidx]
      exact hi.imp_left fun hm => hmode.trans_ne hm
    · rw [State.proc, hidx]
      exact not_route_of_nobodyWaits hn x
  by_cases hfront : front = []
  · refine ⟨closeEvent (passOver (arrivedState m st i r s)), ?_, ?_, ⟨?_, ?_⟩, fun hne => absurd hfront hne⟩
    · rw [exec_tagElsewhere hr hl, hx, if_pos (by simp [hfront])]
      exact hrun _ hn.1 rfl rfl
    · exact (closeEvent_ptb _).trans hptb
    · exact closeEvent_stb _
    · exact hframe.closed
  · refine ⟨closeEvent (passOver (notice .overtake (stnByte st) m.pallet front.length (arrivedState m st i r s))), ?_, ?_,
      ⟨?_, ?_⟩, fun _ => tells_passOver rfl rfl rfl⟩
    · rw [exec_tagElsewhere hr hl, hx, if_neg (by simp [hfront])]
      exact hrun _ ((notice_ilk ..).symm ▸ hn.1) (notice_stb ..) (notice_idx ..)
    · exact (closeEvent_ptb _).trans ((notice_ptb ..).trans hptb)
    · exact (closeEvent_stb _).trans (notice_stb ..)
    · exact (hframe.notice ..).closed

theorem tagReport_recovered (hp : r.rstate = .lost (some st)) : ∃ t, exec (.tagReport m) s = .next t
      ∧ t.ptb = { s.ptb with
          slots := upd s.ptb.slots i (fun _ => some (arrivedAt st s.mga.time r))
          approach := upd s.ptb.approach st (fun _ => s.ptb.approach.get st) }
      ∧ Intended m st s t ∧ Tells .recovered (stnByte st) m.pallet 0 s t := by
  have hx := tagElsewhere_intended (s := reported m s) ho h0 h (fun x hx => by rw [hp] at hx; cases hx)
    (by rw [intendedFor_lost hp, decide_eq_true rfl])
  rw [arriveIntended_lost (s := reported m s) h hp] at hx
  have hmode := placed_mode st m.pallet i (arrivedAt st s.mga.time r) (reported m s) st
  have hsame : s.ptb.approach = upd s.ptb.approach st (fun _ => s.ptb.approach.get st) := (upd_of_fixed rfl).symm
  have hrun : exec (.tagReport m) s = .next (closeEvent (passOver (notice .recovered (stnByte st) m.pallet 0
      (placed st m.pallet i (arrivedAt st s.mga.time r) (reported m s))))) := by
    rw [exec_tagElsewhere hr hl, hx]
    refine conclude_arrived (l := []) (y := notice .recovered (stnByte st) m.pallet 0
      (placed st m.pallet i (arrivedAt st s.mga.time r) (reported m s))) ((notice_ilk ..).symm ▸ hn.1) ?_ (fun x => ?_)
      (fun k hk => nomatch hk) (Nat.zero_le _)
    · rw [State.station, State.proc, notice_stb, notice_idx]
      exact hi.imp_left fun hm => hmode.trans_ne hm
    · rw [State.proc, notice_idx]
      exact not_route_of_nobodyWaits hn x
  refine ⟨_, hrun, ?_, ⟨?_, ?_⟩, tells_passOver rfl rfl rfl⟩
  · rw [closeEvent_ptb, ← hsame]
    exact notice_ptb ..
  · exact (closeEvent_stb _).trans (notice_stb ..)
  · exact (((TagFrame.reported m s).placed ..).notice ..).closed

end

/-! #### At the wrong station (R36) -/

/-- R36: the record is PRESENT at the wrong station and MISROUTED has occurred. -/
def misroutedState (m : Msg) (st : Stn) (i : Slot) (r : Record) (s : State) : State :=
  occur fMisrouted (some st) m.pallet (placed st m.pallet i (misroutedAt st s.mga.time r) (leaveOld r (reported m s)))

section
variable {m : Msg} {st : Stn} {s : State} {i : Slot} {r : Record}

theorem holdsOnly_misroutedState : HoldsOnly 3
    (placed st m.pallet i (misroutedAt st s.mga.time r) (leaveOld r (reported m s))) (misroutedState m st i r s) :=
  holdsOnly_occur ..

/-- What an arrival at the wrong station leaves, blocked or not. -/
structure Misrouted (m : Msg) (st : Stn) (i : Slot) (r : Record) (s t : State) : Prop where
  slots : t.ptb.slots = upd s.ptb.slots i (fun _ => some (misroutedAt st s.mga.time r))
  approach : t.ptb.approach = (leaveOld r s).ptb.approach
  occupied : OccupiedBy st (.tracked m.pallet) s t
  raises : Raises 8 (some st) m.pallet s t
  uiq : t.chi.uiq = s.chi.uiq ++ [m]
  rcs : t.rcs = s.rcs

theorem leaveOld_reported_approach (m : Msg) (r : Record) (s : State) :
    (leaveOld r (reported m s)).ptb.approach = (leaveOld r s).ptb.approach := by
  unfold leaveOld
  split <;> rfl

theorem misrouted_misroutedState : Misrouted m st i r s (misroutedState m st i r s) where
  slots := by
    rw [misroutedState, occur_ptb]
    exact congrArg (fun v => upd v i (fun _ => some (misroutedAt st s.mga.time r))) (leaveOld_slots r (reported m s))
  approach := by
    rw [misroutedState, occur_ptb]
    exact leaveOld_reported_approach m r s
  occupied := by
    refine OccupiedBy.congr (t := placed st m.pallet i (misroutedAt st s.mga.time r) (leaveOld r (reported m s))) ?_
      holdsOnly_misroutedState.occupant
    have h := placed_occupied (s := leaveOld r (reported m s)) (st := st) (t := m.pallet) (i := i) (r := misroutedAt st s.mga.time r)
    rw [leaveOld_frame] at h ⊢
    exact h
  raises := raises_occur _ _ _ _ |>.from_fcu (by rw [leaveOld_frame]; rfl)
  uiq := by
    rw [misroutedState, occur_chi_uiq, leaveOld_frame]
    rfl
  rcs := by
    rw [misroutedState, occur_rcs, leaveOld_frame]
    rfl

theorem Misrouted.congr {t u : State} (h : Misrouted m st i r s t) (hp : u.ptb = t.ptb) (hb : u.stb = t.stb) (hf : u.fcu = t.fcu)
    (hq : u.chi.uiq = t.chi.uiq) (hc : u.rcs = t.rcs) : Misrouted m st i r s u where
  slots := hp ▸ h.slots
  approach := hp ▸ h.approach
  occupied := h.occupied.congr fun x => by rw [State.station, hb]; rfl
  raises := h.raises.of_fcu hf
  uiq := hq.trans h.uiq
  rcs := hc.trans h.rcs

theorem misrouted_proc (x : Stn) : ((misroutedState m st i r s).proc x).pstate = (s.proc x).pstate
    ∧ ((misroutedState m st i r s).proc x).pallet = (s.proc x).pallet
    ∧ ((misroutedState m st i r s).proc x).wait = (s.proc x).wait := by
  have hproc : (placed st m.pallet i (misroutedAt st s.mga.time r) (leaveOld r (reported m s))).proc x = s.proc x := by
    rw [leaveOld_frame]
    rfl
  rw [holdsOnly_misroutedState.pstate, holdsOnly_misroutedState.pallet, holdsOnly_misroutedState.wait, hproc]
  exact ⟨rfl, rfl, rfl⟩

theorem misroutedState_mode (x : Stn) : ((misroutedState m st i r s).station x).mode = (s.station x).mode := by
  rw [holdsOnly_misroutedState.mode, placed_mode, leaveOld_frame]
  rfl

theorem misroutedState_deferred (hd : s.ilk.deferred = []) : (misroutedState m st i r s).ilk.deferred = [] := by
  rw [misroutedState, occur_ilk, leaveOld_frame]
  exact hd

variable (hr : ReportAt kTag m st s) (hn : NobodyWaits s) (hl : st ≠ s.stb.load) (ho : (s.station st).occupant = .nobody)
  (h0 : m.pallet ≠ 0) (h : HasRecord m.pallet i r s) (hp : ∀ x, r.rstate ≠ .present x) (hf : intendedFor r st = false)
include hr hn hl ho h0 h hp hf

/-- R36: the pallet comes to a station of its current step's group. -/
theorem tagReport_misrouted_inGroup (hi : (s.station st).mode ≠ .auto ∨ (s.proc st).pstate ≠ .empty)
    (hg : inCurrentGroup s r st = true) :
    exec (.tagReport m) s = .next (closeEvent (passOver (misroutedState m st i r s))) := by
  have hg' : inCurrentGroup (reported m s) r st = true := hg
  have hx := tagElsewhere_misrouted (s := reported m s) ho h0 h hp hf
  rw [if_pos hg', arriveMisrouted_eq (s := reported m s) h] at hx
  rw [exec_tagElsewhere hr hl, hx]
  refine conclude_arrived (y := misroutedState m st i r s) (misroutedState_deferred hn.1) ?_ (fun x => ?_)
    arriveMisrouted_tasks arriveMisrouted_length
  · rw [misroutedState_mode, (misrouted_proc st).1]
    exact hi
  · rw [(misrouted_proc x).2.2]
    exact not_route_of_nobodyWaits hn x

theorem tagReport_misrouted_blocked (hg : inCurrentGroup s r st = false) :
    exec (.tagReport m) s = .next (closeEvent (passOver (enterBlocked st (misroutedState m st i r s)))) := by
  have hg' : ¬ inCurrentGroup (reported m s) r st = true := by
    have : inCurrentGroup (reported m s) r st = false := hg
    simp [this]
  have hx := tagElsewhere_misrouted (s := reported m s) ho h0 h hp hf
  rw [if_neg hg', arriveMisrouted_eq (s := reported m s) h] at hx
  rw [exec_tagElsewhere hr hl, hx]
  refine conclude_rerouted (y := enterBlocked st (misroutedState m st i r s)) (misroutedState_deferred hn.1) (fun x => ?_)
    arriveMisrouted_tasks arriveMisrouted_length
  rw [enterBlocked, State.modProc_proc]
  split
  · exact Wait.noConfusion
  · rw [(misrouted_proc x).2.2]
    exact not_route_of_nobodyWaits hn x

/-- R36: either way the pallet is PRESENT there, and outside its group the station is blocked. -/
theorem tagReport_misrouted (hi : (s.station st).mode ≠ .auto ∨ (s.proc st).pstate ≠ .empty) : ∃ t,
    exec (.tagReport m) s = .next t ∧ Misrouted m st i r s t
    ∧ (inCurrentGroup s r st = true → (t.proc st).pstate = (s.proc st).pstate ∧ (t.proc st).pallet = (s.proc st).pallet)
    ∧ (inCurrentGroup s r st = false → Blocks st t) := by
  have hm := misrouted_misroutedState (m := m) (st := st) (s := s) (i := i) (r := r)
  have hproc : ∀ y, (closeEvent (passOver y)).proc st = y.proc st := fun y => by
    rw [State.proc, closeEvent_idx]
    rfl
  by_cases hg : inCurrentGroup s r st = true
  · refine ⟨_, tagReport_misrouted_inGroup hr hn hl ho h0 h hp hf hi hg, hm.congr (closeEvent_ptb _) (closeEvent_stb _)
      (closeEvent_fcu _) (closeEvent_chi_uiq _) (closeEvent_rcs _), fun _ => ?_, fun hng => ?_⟩
    · rw [hproc]
      exact ⟨(misrouted_proc st).1, (misrouted_proc st).2.1⟩
    · rw [hng] at hg
      cases hg
  · refine ⟨_, tagReport_misrouted_blocked hr hn hl ho h0 h hp hf (by simpa using hg), hm.congr (closeEvent_ptb _)
      (closeEvent_stb _) (closeEvent_fcu _) (closeEvent_chi_uiq _) (closeEvent_rcs _), fun hg' => absurd hg' hg, fun _ => ?_⟩
    rw [Blocks, hproc]
    exact enterBlocked_blocks ..

end

end Sys2Proof.Machine
end

section
namespace Sys2Proof.Machine

/-! ### An event, task by task -/

/-- The tasks of an event and its pass end in the state `u`, in `n` steps. -/
def EndsIn (n : Nat) (y : State) (l : List Task) (u : State) : Prop := runTasks n (l ++ [.deferPass, .close]) y = some u

section
variable {n : Nat} {y z u : State} {l : List Task}

theorem EndsIn.step {k : Task} {ks : List Task} (hp : perform k y = (z, ks)) (h : EndsIn n z (ks ++ l) u) :
    EndsIn (n + 1) y (k :: l) u := by
  rw [EndsIn, List.cons_append, runTasks_cons, hp, ← List.append_assoc]
  exact h

theorem endsIn_idle (h : ∀ k ∈ l, perform k y = only y) (hd : y.ilk.deferred = []) :
    EndsIn (2 + l.length) y l (closeEvent (passOver y)) := by
  have hend := conclude_only_passOver hd
  rw [conclude_only_pass hd] at hend
  rw [EndsIn, ← Host.Outcome.next.inj hend, runTasks_idle h]
  exact run_end_pass 0 hd

theorem EndsIn.conclude (h : EndsIn n y l u) (hn : n ≤ 100) : conclude (y, l) = .next u :=
  conclude_of_run h (le_cascadeBound (by omega))

end

/-! ### A process taken up (R84) -/

/-- From `y` to `z` only the process of `st` changes: it has the pallet `t`, and it waits for nothing. -/
structure TakenUp (st : Stn) (t : Tag) (y z : State) : Prop where
  frame : z = { y with idx := z.idx }
  others : ∀ x, x ≠ st → z.proc x = y.proc x
  pallet : (z.proc st).pallet = some t
  nowait : (z.proc st).wait = .nothing

section
variable {st : Stn} {t : Tag} {y z : State}

theorem takenUp_modProc {f : Process → Process} (hp : (f (y.proc st)).pallet = some t) (hw : (f (y.proc st)).wait = .nothing) :
    TakenUp st t y (y.modProc st f) where
  frame := rfl
  others x hx := by rw [State.modProc_proc, if_neg hx]
  pallet := by rw [State.modProc_proc, if_pos rfl, hp]
  nowait := by rw [State.modProc_proc, if_pos rfl, hw]

theorem TakenUp.modProc (h : TakenUp st t y z) {f : Process → Process} (hp : (f (z.proc st)).pallet = (z.proc st).pallet)
    (hw : (f (z.proc st)).wait = .nothing) : TakenUp st t y (z.modProc st f) where
  frame := by rw [h.frame]; rfl
  others x hx := by rw [State.modProc_proc, if_neg hx]; exact h.others x hx
  pallet := by rw [State.modProc_proc, if_pos rfl, hp]; exact h.pallet
  nowait := by rw [State.modProc_proc, if_pos rfl, hw]

theorem TakenUp.idle (h : TakenUp st t y z) {x : Stn} (hx : (y.proc x).wait = .nothing) : (z.proc x).wait = .nothing := by
  by_cases hs : x = st
  · rw [hs]
    exact h.nowait
  · rw [h.others x hs]
    exact hx

end

/-- R84: the process with the station's occupant, before it is judged where it goes on. -/
def pickUp (st : Stn) (y : State) : State :=
  y.modProc st (fun p =>
    { p with
      pallet := y.trackedOcc st
      stepEnded := if y.trackedOcc st = p.pallet then p.stepEnded else false
      settleEnd := none, settleSucc := none, settleTaken := false, replan := false
      wait := .nothing, waitingSince := none, due := none })

section
variable {st : Stn} {t : Tag} {y : State}

theorem takenUp_pickUp (ho : (y.station st).occupant = .tracked t) : TakenUp st t y (pickUp st y) :=
  takenUp_modProc (by simp only [State.trackedOcc, ho]; rfl) rfl

theorem pickUp_stepEnded (h : (y.proc st).stepEnded = false) : ((pickUp st y).proc st).stepEnded = false := by
  rw [pickUp, State.modProc_proc, if_pos rfl]
  exact ite_eq_right_iff.2 fun _ => h

theorem onArrival_takesUp (hm : (y.station st).mode = .auto) (hp : (y.proc st).pstate = .empty) :
    onArrival st y = (y, [.takeUp st false]) := if_pos ⟨hm, hp⟩

theorem takeUp_unreferenced (hk : isMachining y st = true) (hr : (y.station st).referenced = false) :
    takeUp st false y = only (enterStalled st 2 (pickUp st y)) := by
  have hc : (isMachining (pickUp st y) st && !((pickUp st y).station st).referenced) = true := by
    have h1 : isMachining (pickUp st y) st = true := hk
    have h2 : ((pickUp st y).station st).referenced = false := hr
    rw [h1, h2]
    rfl
  exact if_pos hc

/-- R84, R86: the pallet continues in place. -/
theorem takeUp_continues {r : Record} {step : RouteStep} (hk : isMachining y st = true) (hr : (y.station st).referenced = true)
    (ho : (y.station st).occupant = .tracked t) (h : y.record? t = some r) (hp : r.rstate = .present st)
    (hq : r.quality.bad = false) (he : (y.proc st).stepEnded = false) (hs : currentStep y r = some step)
    (hg : step.group.getLsbD st.val = true) :
    takeUp st false y = ((pickUp st y).modProc st (fun p => p.stop .arrived), [.evalOp st false]) := by
  have hk' : isMachining (pickUp st y) st = true := hk
  have hr' : ((pickUp st y).station st).referenced = true := hr
  have ho' : ((pickUp st y).station st).occupant = .tracked t := ho
  have h' : (pickUp st y).record? t = some r := h
  have hinc : incomplete (pickUp st y) r = true := incomplete_of_currentStep (s := pickUp st y) hs
  have hgrp : inCurrentGroup (pickUp st y) r st = true := inCurrentGroup_eq_true (s := pickUp st y) hs hg
  unfold takeUp
  simp only [Bool.false_eq_true, if_false]
  rw [← pickUp, if_neg (by simp [hr']), ho']
  simp only [h', hp, hk', hinc, hq, pickUp_stepEnded he, hgrp, ne_eq, not_true_eq_false, if_true, if_false, Bool.not_false,
    Bool.and_self]

end

/-! ### A command of the dispatcher (R85) -/

section
variable {st : Stn} {t : Tag} {z : State} {e : EntryNo} {p : Params} {pt : DuePoint}

/-- R85: an entry of the dispatcher for the pallet, ready to be promoted. -/
def dispatched (st : Stn) (p : Params) (t : Tag) (now : Time) (es : EState) : Entry :=
  { station := st, params := p, origin := .dispatch, pallet := t, received := none, estate := es, cancelReq := false,
    acceptance := now, deadline := none, remaining := none, released := none }

/-- R85: the state with the entry in the table and the process waiting for its outcome. -/
def created (st : Stn) (e : EntryNo) (p : Params) (pt : DuePoint) (t : Tag) (z : State) : State :=
  insertEntry e (dispatched st p t z.mga.time .ready) (z.modProc st (fun q => q.stop (createdState p pt)))

theorem planEntry_of_other {s : State} {en : Entry} (h : paramsKind en.params ≠ .move) : planEntry s en = en := by
  unfold planEntry
  split
  next hp => exact absurd (by rw [hp]; rfl) h
  next => rfl

theorem entryContended_eq_false (hc : z.ev.diqClaim = false) (hw : ∀ x, (z.proc x).wait = .nothing) :
    entryContended z = false := by
  have hnil : entryWaiters z = [] := by
    unfold entryWaiters
    split
    · rfl
    · refine List.eq_nil_iff_forall_not_mem.2 fun x hx => ?_
      rw [mem_sortBy, List.mem_filter, waitsEntry, hw x] at hx
      exact absurd hx.2 (by decide)
  rw [entryContended, hnil, hc]
  rfl

/-- R85 case 4: nobody waits for an entry and one is free. -/
theorem makeDue_creates (hpal : (z.proc st).pallet = some t) (hm : (z.station st).pendingMode = none)
    (hn : hasEntry z st = false) (hr : z.fcu.restricted = false) (hf : freeEntry z = some e) (hc : entryContended z = false)
    (hk : paramsKind p ≠ .move) : makeDue st p pt false false z = (created st e p pt t z, [.promote e]) := by
  have hplan : planEntry z (newEntry z st p .dispatch t none .ready) = dispatched st p t z.mga.time .ready :=
    planEntry_of_other hk
  unfold makeDue
  dsimp only
  rw [hm, if_neg (by simp), hn, if_neg (by simp), hr, if_neg (by simp), hf, hc]
  simp only [Bool.not_false, Bool.or_true, if_true, createDispatch, hpal, Option.getD_some, hplan]
  rfl

theorem created_entries : (created st e p pt t z).mrt.entries
    = upd z.mrt.entries e (fun _ => some (dispatched st p t z.mga.time .ready)) := rfl

theorem created_entry : (created st e p pt t z).entry? e = some (dispatched st p t z.mga.time .ready) :=
  insertEntry_entry ..

theorem created_proc (x : Stn) : (created st e p pt t z).proc x
    = if x = st then (z.proc st).stop (createdState p pt) else z.proc x :=
  State.modProc_proc z st x fun q => q.stop (createdState p pt)

theorem created_idle {x : Stn} (h : (z.proc x).wait = .nothing) : ((created st e p pt t z).proc x).wait = .nothing := by
  rw [created_proc]
  split
  · rfl
  · exact h

/-- R86: the first test of the operation progression finds the clamps not as the operation needs them. -/
theorem evalOperation_clamps {r : Record} {step : RouteStep} {op : Operation} {granted : Bool}
    (hr : processRecord z st = some r) (hs : currentStep z r = some step) (hop : step.op? r.opCursor = some op)
    (hc : (z.station st).sensed ≠ some op.pattern) : evalOperation st granted z
      = makeDue st (.clamp op.pattern) .operation granted false
        (z.modProc st (fun p => { p with wait := .nothing, waitingSince := none, due := none })) := by
  have hproc : processRecord (z.modProc st (fun p => { p with wait := .nothing, waitingSince := none, due := none })) st
      = some r := by
    have hpal : ((z.modProc st (fun p => { p with wait := .nothing, waitingSince := none, due := none })).proc st).pallet
        = (z.proc st).pallet := by rw [State.modProc_proc, if_pos rfl]
    rw [processRecord, hpal]
    exact hr
  have hsame : samePattern (z.station st).sensed (some op.pattern) = false := by
    unfold samePattern
    split
    next a b ha hb =>
      cases hb
      exact beq_eq_false_iff_ne.2 fun hab => hc (hab ▸ ha)
    next => rfl
  have hstep : currentStep (z.modProc st (fun p => { p with wait := .nothing, waitingSince := none, due := none })) r
      = some step := hs
  have hsame' : samePattern ((z.modProc st (fun p => { p with wait := .nothing, waitingSince := none, due := none })).station
      st).sensed (some op.pattern) = false := hsame
  unfold evalOperation
  dsimp only
  rw [hproc]
  simp only [hstep, Option.bind_some, hop, hsame', Bool.false_and, Bool.not_false, if_true]

end

/-! ### A pallet that arrives at an AUTO station (R84 to R86) -/

section
variable {m : Msg} {st : Stn} {s : State} {i : Slot} {r : Record}

theorem arrivedState_station_self :
    (arrivedState m st i r s).station st = { s.station st with occupant := .tracked m.pallet } := by
  change ((s.modStn st (fun x => { x with occupant := .tracked m.pallet })).station st) = _
  rw [State.modStn_station, if_pos rfl]

theorem arrivedState_occupied : OccupiedBy st (.tracked m.pallet) s (arrivedState m st i r s) :=
  placed_occupied (s := leaveList st m.pallet (reported m s))

theorem record_arrivedState (h : HasRecord m.pallet i r s) :
    (arrivedState m st i r s).record? m.pallet = some (arrivedAt st s.mga.time r) :=
  record_of_hasRecord_tag (i := i) ((hasRecord_setSlot (q := arrivedAt st s.mga.time r) h h.2.1).congr rfl)

/-- R35, R84: the head of an approach list arrives at an AUTO station that has no process. -/
theorem tagReport_takesUp {dl : Time} {rest : List Tag} (hr : ReportAt kTag m st s) (hk : isMachining s st = true)
    (ho : (s.station st).occupant = .nobody) (h0 : m.pallet ≠ 0) (h : HasRecord m.pallet i r s) (hp : r.rstate = .transit st dl)
    (hf : s.ptb.approach.get st = m.pallet :: rest) : exec (.tagReport m) s
      = conclude (arrivedState m st i r s, [.arrived st] ++ shorter (reported m s) st m.pallet) := by
  have hl : st ≠ s.stb.load := (isMachining_eq_true.1 hk).1
  have hx := tagElsewhere_intended (s := reported m s) ho h0 h (fun x hx => by rw [hp] at hx; cases hx)
    (by rw [intendedFor_transit hp, decide_eq_true rfl])
  have hahead : aheadOf ((reported m s).ptb.approach.get st) m.pallet = 0 :=
    aheadOf_middle (front := []) (back := rest) hf List.not_mem_nil
  rw [arriveIntended_transit (s := reported m s) h hp, if_pos hahead] at hx
  rw [exec_tagElsewhere hr hl, hx]
  rfl

end

/-- R95: a station STALLED on its pallet, told. -/
theorem enterStalled_eq {st : Stn} {t : Tag} {y : State} (hp : (y.proc st).pallet = some t) (d : Nat) : enterStalled st d y
    = notice .stalled (stnByte st) t d (y.modProc st (fun p => p.stop .stalled)) := by
  have hpal : ((y.modProc st (fun p => p.stop .stalled)).proc st).pallet = some t := by
    rw [State.modProc_proc, if_pos rfl]
    exact hp
  rw [enterStalled, hpal]
  rfl

section
variable {m : Msg} {st : Stn} {s : State} (hr : ReportAt kTag m st s) (hn : NobodyWaits s) (hk : isMachining s st = true)
  (hm : (s.station st).mode = .auto) (hps : (s.proc st).pstate = .empty) (ho : (s.station st).occupant = .nobody)
  (h0 : m.pallet ≠ 0) {i : Slot} {r : Record} {dl : Time} {rest : List Tag} (h : HasRecord m.pallet i r s)
  (hp : r.rstate = .transit st dl) (hf : s.ptb.approach.get st = m.pallet :: rest)
include hr hn hk hm hps ho h0 h hp hf

/-- R84: a station without a reference is STALLED. -/
theorem tagReport_stalls (href : (s.station st).referenced = false) : ∃ t, exec (.tagReport m) s = .next t
    ∧ (t.proc st).pstate = .stalled ∧ (t.proc st).pallet = some m.pallet ∧ t.mrt.entries = s.mrt.entries
    ∧ OccupiedBy st (.tracked m.pallet) s t ∧ Tells .stalled (stnByte st) m.pallet 2 s t := by
  have hst := arrivedState_station_self (m := m) (st := st) (i := i) (r := r) (s := s)
  have hpick : TakenUp st m.pallet (arrivedState m st i r s) (pickUp st (arrivedState m st i r s)) :=
    takenUp_pickUp (by rw [hst])
  have hnot : ∀ x, ((notice .stalled (stnByte st) m.pallet 2
      ((pickUp st (arrivedState m st i r s)).modProc st (fun p => p.stop .stalled))).proc x)
      = (((pickUp st (arrivedState m st i r s)).modProc st (fun p => p.stop .stalled)).proc x) := fun x => by
    rw [State.proc, notice_idx]
    rfl
  have hstop : TakenUp st m.pallet (arrivedState m st i r s)
      ((pickUp st (arrivedState m st i r s)).modProc st (fun p => p.stop .stalled)) := hpick.modProc rfl rfl
  have hrun : exec (.tagReport m) s = .next (closeEvent (passOver (notice .stalled (stnByte st) m.pallet 2
      ((pickUp st (arrivedState m st i r s)).modProc st (fun p => p.stop .stalled))))) := by
    rw [tagReport_takesUp hr hk ho h0 h hp hf]
    have hstall := takeUp_unreferenced (y := arrivedState m st i r s) (st := st) hk (by rw [hst]; exact href)
    rw [enterStalled_eq hpick.pallet] at hstall
    refine EndsIn.conclude ((EndsIn.step (onArrival_takesUp (by rw [hst]; exact hm) hps) (EndsIn.step hstall
      (endsIn_idle (fun k hk => ?_) ((notice_ilk ..).symm ▸ hn.1))))) ?_
    · rw [mem_shorter hk]
      refine reroute_of_nobody fun x => ?_
      rw [hnot, hstop.idle (hn.2.2 x).1]
      exact Wait.noConfusion
    · have := shorter_length (reported m s) st m.pallet
      change 2 + (shorter (reported m s) st m.pallet).length + 1 + 1 ≤ 100
      omega
  have hproc : ∀ x, (closeEvent (passOver (notice .stalled (stnByte st) m.pallet 2
      ((pickUp st (arrivedState m st i r s)).modProc st (fun p => p.stop .stalled))))).proc x
      = (((pickUp st (arrivedState m st i r s)).modProc st (fun p => p.stop .stalled)).proc x) := fun x => by
    rw [← hnot, State.proc, closeEvent_idx]
    rfl
  refine ⟨_, hrun, ?_, ?_, ?_, ?_, tells_passOver rfl rfl rfl⟩
  · rw [hproc, State.modProc_proc, if_pos rfl]
    rfl
  · rw [hproc, hstop.pallet]
  · exact (closeEvent_entries _).trans (notice_entries ..)
  · refine (arrivedState_occupied (m := m) (st := st) (i := i) (r := r) (s := s)).congr fun x => ?_
    rw [State.station, closeEvent_stb]
    exact congrArg (fun b : Stb => (b.stn.get x).occupant) (notice_stb ..)

end

/-! ### What the end of an event leaves as it is -/

section
variable {y : State}

theorem told_entries : (closeEvent (passOver y)).mrt.entries = y.mrt.entries := closeEvent_entries _

theorem told_deq : (closeEvent (passOver y)).chi.deq = y.chi.deq := closeEvent_chi_deq _

theorem told_proc (x : Stn) : (closeEvent (passOver y)).proc x = y.proc x := by
  rw [State.proc, closeEvent_idx]
  rfl

end

/-! ### The CLAMP of an operation (R86, R120) -/

section
variable {s : State} {e : EntryNo} {en : Entry}

theorem planSatisfied_of_other (h : paramsKind en.params ≠ .move) : planSatisfied en = false := by
  unfold planSatisfied
  split
  next hp => exact absurd (by rw [hp]; rfl) h
  next => rfl

/-- R120, R141: a command that is no MOVE passes its checks and enters the DEQ. -/
theorem promote_sends (he : s.entry? e = some en) (hr : en.estate = .ready) (hh : s.held en.station = false)
    (hk : paramsKind en.params ≠ .move) (hv : verdict s en.station (judgedOf en.params) = .pass) (hw : sendingWaiters s = [])
    (hl : s.chi.deq.length < 16) : promote e s = only (sentState e en s) := by
  have hplan : planEntry s en = en := planEntry_of_other hk
  have hne : en.estate ≠ .sending := by rw [hr]; decide
  have hsend := startSending_room (s := planned e en s) planned_entry
    (sendingWaiters_setEntry hw (by rw [hplan]; exact hne)) hl
  have hput : sentState e en (planned e en s) = sentState e en s := by
    simp only [sentState, planned, State.setEntry, upd_upd]
    rfl
  rw [promote_verdict he hr hh (by rw [hplan]; exact planSatisfied_of_other hk), hv, promoteBy, hsend, hplan, hput]

end

theorem sentState_deferred (e : EntryNo) (q : Entry) (s : State) : (sentState e q s).ilk.deferred = s.ilk.deferred := rfl

theorem sentState_entries (e : EntryNo) (q : Entry) (s : State) :
    (sentState e q s).mrt.entries = upd s.mrt.entries e (fun _ => some { q with estate := .sending }) := rfl

theorem sentState_deq (e : EntryNo) (q : Entry) (s : State) :
    (sentState e q s).chi.deq = s.chi.deq ++ [{ msg := commandMsg s q, entry := some e }] := rfl

theorem sentState_proc (e : EntryNo) (q : Entry) (s : State) (x : Stn) : (sentState e q s).proc x = s.proc x := rfl

/-- R135: the check of a CLAMP reads its station's sensed pattern and tool and a MOVE under way. -/
theorem kindCheck_clamp_congr {s t : State} {st : Stn} (hs : (t.station st).sensed = (s.station st).sensed)
    (ht : (t.station st).tool = (s.station st).tool) (hu : underWay t st .move = underWay s st .move) (p : Pattern) :
    kindCheck t st (.clamp p) = kindCheck s st (.clamp p) := by
  simp only [kindCheck, hs, ht, hu]

theorem underWay_of_noEntry {s : State} {st : Stn} (h : hasEntry s st = false) (k : CmdKind) : underWay s st k = false :=
  Bool.eq_false_iff.2 fun hu => by
    obtain ⟨j, q, hq, hst, -, -⟩ := underWay_iff.1 hu
    exact hasEntry_eq_false.1 h j q hq hst

/-- R134: an entry that waits for its promotion has no command under way. -/
theorem underWay_created {st : Stn} {t : Tag} {z : State} {e : EntryNo} {p : Params} {pt : DuePoint} (h : hasEntry z st = false)
    (k : CmdKind) : underWay (created st e p pt t z) st k = false :=
  Bool.eq_false_iff.2 fun hu => by
    obtain ⟨j, q, hq, hst, -, hes⟩ := underWay_iff.1 hu
    by_cases hj : j = e
    · rw [hj, created_entry] at hq
      cases hq
      simp [dispatched] at hes
    · refine hasEntry_eq_false.1 h j q ?_ hst
      rw [← hq, State.entry?, State.entry?, created_entries, upd_get, if_neg hj]

/-- R84, R86: the process ARRIVED on its pallet, about to make its first command. -/
def atFirstTest (m : Msg) (st : Stn) (i : Slot) (r : Record) (s : State) : State :=
  ((pickUp st (arrivedState m st i r s)).modProc st (fun p => p.stop .arrived)).modProc st
    (fun p => { p with wait := .nothing, waitingSince := none, due := none })

section
variable {m : Msg} {st : Stn} {s : State} {i : Slot} {r : Record} {e : EntryNo} {p : Pattern}

theorem takenUp_atFirstTest : TakenUp st m.pallet (arrivedState m st i r s) (atFirstTest m st i r s) :=
  ((takenUp_pickUp (by rw [arrivedState_station_self])).modProc rfl rfl).modProc rfl rfl

theorem atFirstTest_station_self :
    (atFirstTest m st i r s).station st = { s.station st with occupant := .tracked m.pallet } := arrivedState_station_self

/-- R85: the CLAMP of the arrived pallet's first operation is in the table, about to be promoted. -/
def clampMade (m : Msg) (st : Stn) (i : Slot) (r : Record) (e : EntryNo) (p : Pattern) (s : State) : State :=
  created st e (.clamp p) .operation m.pallet (atFirstTest m st i r s)

theorem clampMade_entry :
    (clampMade m st i r e p s).entry? e = some (dispatched st (.clamp p) m.pallet s.mga.time .ready) := created_entry

theorem clampMade_entries : (clampMade m st i r e p s).mrt.entries
    = upd s.mrt.entries e (fun _ => some (dispatched st (.clamp p) m.pallet s.mga.time .ready)) := rfl

theorem clampMade_station_self :
    (clampMade m st i r e p s).station st = { s.station st with occupant := .tracked m.pallet } := atFirstTest_station_self

theorem clampMade_idle (hn : NobodyWaits s) (x : Stn) : ((clampMade m st i r e p s).proc x).wait = .nothing :=
  created_idle (takenUp_atFirstTest.idle (hn.2.2 x).1)

theorem clampMade_pstate : ((clampMade m st i r e p s).proc st).pstate = .clamping := by
  rw [clampMade, created_proc, if_pos rfl]
  rfl

theorem clampMade_pallet : ((clampMade m st i r e p s).proc st).pallet = some m.pallet := by
  rw [clampMade, created_proc, if_pos rfl]
  exact takenUp_atFirstTest.pallet

theorem clampMade_deq : (clampMade m st i r e p s).chi.deq = s.chi.deq := rfl

theorem clampMade_sendingWaiters (hw : sendingWaiters s = []) : sendingWaiters (clampMade m st i r e p s) = [] :=
  sendingWaiters_setEntry (s := atFirstTest m st i r s) (q := dispatched st (.clamp p) m.pallet s.mga.time .ready) hw
    EState.noConfusion

theorem clampMade_deferred : (clampMade m st i r e p s).ilk.deferred = s.ilk.deferred := rfl

theorem clampMade_verdict (hh : hardCheck s st (.clamp p) = none) (hi : ∀ n, (s.ilk.table.get n).valid = false)
    (hno : hasEntry s st = false) : verdict (clampMade m st i r e p s) st (.clamp p) = .pass := by
  have hk := kindCheck_clamp_congr (s := s) (t := clampMade m st i r e p s) (st := st) (by rw [clampMade_station_self])
    (by rw [clampMade_station_self])
    ((underWay_created (z := atFirstTest m st i r s) hno .move).trans (underWay_of_noEntry hno _).symm) p
  exact verdict_pass hi (hk.trans (hardCheck_eq_none hh).1)

theorem commandMsg_clampMade {es : EState} {t : Tag} : commandMsg (clampMade m st i r e p s) (dispatched st (.clamp p) t s.mga.time es)
    = commandMsg s (dispatched st (.clamp p) t s.mga.time es) := by
  have hb : ((clampMade m st i r e p s).station st).cfg = (s.station st).cfg := by rw [clampMade_station_self]
  simp only [commandMsg, dispatched, hb]
  rfl

end

section
variable {m : Msg} {st : Stn} {s : State} (hs : BetweenEvents s) (hr : ReportAt kTag m st s) (hn : NobodyWaits s)
  (hk : isMachining s st = true)
  (hm : (s.station st).mode = .auto) (hps : (s.proc st).pstate = .empty) (ho : (s.station st).occupant = .nobody)
  (h0 : m.pallet ≠ 0) {i : Slot} {r : Record} {dl : Time} {rest : List Tag} (h : HasRecord m.pallet i r s)
  (hp : r.rstate = .transit st dl) (hf : s.ptb.approach.get st = m.pallet :: rest)
  {step : RouteStep} {op : Operation} {e : EntryNo} (href : (s.station st).referenced = true)
  (hse : (s.proc st).stepEnded = false) (hrej : r.quality.rejected = false) (hab : r.quality.aborted = false)
  (hcur : currentStep s r = some step) (hg : step.group.getLsbD st.val = true) (hop : step.op? r.opCursor = some op)
  (hsen : (s.station st).sensed ≠ some op.pattern) (hpm : (s.station st).pendingMode = none)
  (hno : hasEntry s st = false) (hres : s.fcu.restricted = false) (hfree : freeEntry s = some e)
include hs hr hn hk hm hps ho h0 h hp hf href hse hrej hab hcur hg hop hsen hpm hno hres hfree

/-- R84 to R86: the arrival makes the CLAMP of its operation, and its promotion ends the event. -/
theorem tagReport_clamps {u : State} (hpr : promote e (clampMade m st i r e op.pattern s) = only u)
    (hdef : u.ilk.deferred = []) (hw : ∀ x, (u.proc x).wait = .nothing) :
    exec (.tagReport m) s = .next (closeEvent (passOver u)) := by
  have hst := arrivedState_station_self (m := m) (st := st) (i := i) (r := r) (s := s)
  have hst' := atFirstTest_station_self (m := m) (st := st) (i := i) (r := r) (s := s)
  have htake := takeUp_continues (y := arrivedState m st i r s) (st := st) (t := m.pallet) (r := arrivedAt st s.mga.time r)
    (step := step) hk (by rw [hst]; exact href) (by rw [hst]) (record_arrivedState h) rfl
    (by simp [Quality.bad, arrivedAt, hrej, hab]) hse hcur hg
  have hpick : TakenUp st m.pallet (arrivedState m st i r s)
      ((pickUp st (arrivedState m st i r s)).modProc st (fun p => p.stop .arrived)) :=
    (takenUp_pickUp (by rw [hst])).modProc rfl rfl
  have hproc : processRecord ((pickUp st (arrivedState m st i r s)).modProc st (fun p => p.stop .arrived)) st
      = some (arrivedAt st s.mga.time r) := by
    rw [processRecord, hpick.pallet]
    exact record_arrivedState h
  have heval := evalOperation_clamps (granted := false) hproc (step := step) (op := op) hcur hop
    (by change ((arrivedState m st i r s).station st).sensed ≠ _; rw [hst]; exact hsen)
  have hmake := makeDue_creates (z := atFirstTest m st i r s) (st := st) (t := m.pallet) (e := e) (p := .clamp op.pattern)
    (pt := .operation) takenUp_atFirstTest.pallet (by rw [hst']; exact hpm) hno hres hfree
    (entryContended_eq_false (congrArg Within.diqClaim hs) fun x => takenUp_atFirstTest.idle (hn.2.2 x).1)
    (fun hc => CmdKind.noConfusion hc)
  rw [tagReport_takesUp hr hk ho h0 h hp hf]
  refine EndsIn.conclude (EndsIn.step (onArrival_takesUp (by rw [hst]; exact hm) hps) (EndsIn.step htake
    (EndsIn.step (heval.trans hmake) (EndsIn.step hpr (endsIn_idle (fun k hk => ?_) hdef))))) ?_
  · rw [mem_shorter hk]
    refine reroute_of_nobody fun x => ?_
    rw [hw x]
    exact Wait.noConfusion
  · have := shorter_length (reported m s) st m.pallet
    change 2 + (shorter (reported m s) st m.pallet).length + 1 + 1 + 1 + 1 ≤ 100
    omega

/-- R120: at a held station the CLAMP waits. -/
theorem tagReport_clampWaits (hh : s.held st = true) : exec (.tagReport m) s
    = .next (closeEvent (passOver (clampMade m st i r e op.pattern s))) := by
  have hheld : (clampMade m st i r e op.pattern s).held st = true := by
    rw [State.held, clampMade_station_self]
    exact hh
  exact tagReport_clamps hs hr hn hk hm hps ho h0 h hp hf href hse hrej hab hcur hg hop hsen hpm hno hres hfree
    (promote_held clampMade_entry hheld) hn.1 (clampMade_idle hn)

/-- R120: the CLAMP passes its checks and enters the DEQ. -/
theorem tagReport_clampSent (hh : hardCheck s st (.clamp op.pattern) = none) (hi : ∀ n, (s.ilk.table.get n).valid = false)
    (hw : sendingWaiters s = []) (hl : s.chi.deq.length < 16) : exec (.tagReport m) s
    = .next (closeEvent (passOver (sentState e (dispatched st (.clamp op.pattern) m.pallet s.mga.time .ready)
        (clampMade m st i r e op.pattern s)))) := by
  have hheld : (clampMade m st i r e op.pattern s).held st = false := by
    rw [State.held, clampMade_station_self]
    exact (hardCheck_eq_none hh).2
  refine tagReport_clamps hs hr hn hk hm hps ho h0 h hp hf href hse hrej hab hcur hg hop hsen hpm hno hres hfree
    (promote_sends clampMade_entry rfl hheld (fun hc => CmdKind.noConfusion hc) (clampMade_verdict hh hi hno)
      (clampMade_sendingWaiters hw) (by rw [clampMade_deq]; exact hl)) ?_ fun x => ?_
  · rw [sentState_deferred, clampMade_deferred]
    exact hn.1
  · rw [sentState_proc]
    exact clampMade_idle hn x

end

end Sys2Proof.Machine

namespace Sys2Proof.Proofs
open Sys2Proof.Machine

/-- Settles O53, case by case along the block's table of what stands at the station and what the record says. -/
theorem tagArrivals : Obligations.TagArrivals := by
  unfold Obligations.TagArrivals
  refine ⟨?_, ?_, ?_⟩
  · intro m st s _ hr hd hl p seen calm
    have hcalm : ∀ {t}, t.stb = s.stb → TagFrame m s t → calm t := fun hb h => ⟨h.uiq, hb, h.fcu, h.entries, h.idx, h.rcs⟩
    refine ⟨fun i r ho h => ⟨fun hp => ?_, fun hp => ?_, fun l hp hidle => ?_⟩, fun ho => ?_, fun hn ht hu => ?_,
      fun ho h => ?_, fun i r x ho h0 h hp => ?_⟩
    · obtain ⟨t, hrun, hptb, hstb, hframe⟩ := tagReport_reRead_present hr hd hl ho h hp
      exact ⟨t, hrun, hptb, hcalm hstb hframe⟩
    · obtain ⟨t, hrun, hptb, hstb, hframe⟩ := tagReport_quiet hr hd hl
        ((tagElsewhere_reRead (s := reported m s) ho h).trans (tagReRead_unseen hp))
      exact ⟨t, hrun, hptb, hcalm hstb hframe⟩
    · obtain ⟨t, hrun, hptb, htold, hstb, hframe⟩ := tagReport_reRead_lost hr hd hl ho h hp hidle
      exact ⟨t, hrun, hptb, htold, hcalm hstb hframe⟩
    · obtain ⟨t, hrun, hptb, hstb, hframe⟩ := tagReport_quiet hr hd hl (tagElsewhere_unmanaged (s := reported m s) ho)
      exact ⟨t, hrun, hptb, hcalm hstb hframe⟩
    · have hb := fun k => tagBlocks_blockedBy k m st s
      have hrun := tagReport_occupied hr hd hl hn ht hu
      refine ⟨_, hrun, (hb _).ptb, (hb _).occupied, (hb _).blocks, fun hno => ?_, fun hno => ?_, (hb _).uiq, (hb _).rcs⟩
      · rw [record_of_noRecord hno]
        exact (hb fStranger).raises
      · rw [if_pos (record_isSome hno)]
        exact (hb fDuplicateTag).raises
    · have hb := tagBlocks_rejected fStranger m st s
      exact ⟨_, tagReport_stranger hr hd hl ho h, hb.ptb, hb.occupied, hb.blocks, hb.raises, hb.uiq, hb.rcs⟩
    · have hb := tagBlocks_rejected fDuplicateTag m st s
      exact ⟨_, tagReport_duplicate hr hd hl ho h0 h hp, hb.ptb, hb.occupied, hb.blocks, hb.raises, hb.uiq, hb.rcs⟩
  · intro m st s _ hr hn hl hi ho h0 i r h arrived intended
    have hint : ∀ {t : State} {l : List Tag}, t.ptb = { s.ptb with
        slots := upd s.ptb.slots i (fun _ => some (arrivedAt st s.mga.time r))
        approach := upd s.ptb.approach st (fun _ => l) } → Intended m st s t → intended l t := fun hptb h =>
      ⟨hptb, h.stb, h.frame.uiq, h.frame.fcu, h.frame.entries, h.frame.idx, h.frame.rcs⟩
    refine ⟨fun dl front back hp hf hnf => ?_, fun hp => ?_, fun hp => ?_⟩
    · obtain ⟨t, hrun, hptb, hst, htold⟩ := tagReport_intended hr hn hl hi ho h0 h hp hf hnf
      exact ⟨t, hrun, hint hptb hst, htold⟩
    · obtain ⟨t, hrun, hptb, hst, htold⟩ := tagReport_recovered hr hn hl hi ho h0 h hp
      exact ⟨t, hrun, hint hptb hst, htold⟩
    · have hnp : ∀ x, r.rstate ≠ .present x := fun x hx => by
        rcases hp with ⟨y, dl, hp, -⟩ | ⟨l, hp, -⟩ <;> rw [hx] at hp <;> cases hp
      have hf : intendedFor r st = false := by
        rcases hp with ⟨y, dl, hp, hne⟩ | ⟨l, hp, hne⟩
        · rw [intendedFor_transit hp, decide_eq_false hne]
        · rw [intendedFor_lost hp, decide_eq_false hne]
      obtain ⟨t, hrun, ht, hgroup, hblock⟩ := tagReport_misrouted hr hn hl ho h0 h hnp hf hi
      exact ⟨t, hrun, ht.slots, fun x dl hx => ht.approach.trans (by rw [leaveOld_transit hx, h.2.1]; rfl),
        fun l hx => ht.approach.trans (by rw [leaveOld_lost hx]), ht.occupied, ht.raises,
        fun ⟨step, hs, hg⟩ => hgroup (inCurrentGroup_eq_true hs hg), fun hg => hblock (inCurrentGroup_eq_false hg),
        ht.uiq, ht.rcs⟩
  · intro m st s hs hr hn hk hm hps ho h0 i r dl rest h hp hf
    refine ⟨fun href => tagReport_stalls hr hn hk hm hps ho h0 h hp hf href,
      fun step op e href hse hrej hab hcur hg hop hsen hpm hno hres hfree => ⟨fun hh => ?_, fun hh hi hw hl => ?_⟩⟩
    · exact ⟨_, tagReport_clampWaits hs hr hn hk hm hps ho h0 h hp hf href hse hrej hab hcur hg hop hsen hpm hno hres hfree hh,
        told_entries.trans clampMade_entries, told_deq.trans clampMade_deq,
        (congrArg Process.pstate (told_proc _)).trans clampMade_pstate,
        (congrArg Process.pallet (told_proc _)).trans clampMade_pallet⟩
    · refine ⟨_, tagReport_clampSent hs hr hn hk hm hps ho h0 h hp hf href hse hrej hab hcur hg hop hsen hpm hno hres hfree hh hi
        hw hl, told_entries.trans ?_, told_deq.trans ?_, ?_, ?_⟩
      · rw [sentState_entries, clampMade_entries, upd_upd]
        rfl
      · rw [sentState_deq, clampMade_deq, commandMsg_clampMade]
        rfl
      · rw [told_proc, sentState_proc]
        exact clampMade_pstate
      · rw [told_proc, sentState_proc]
        exact clampMade_pallet

end Sys2Proof.Proofs
end


section
namespace Sys2Proof.Machine

/-! ### The cases of a TAG at the load station (R37) -/

/-- R40, R41: no admission is pending. -/
def noneAwaited (s : State) : State := { s with ptb := { s.ptb with pendingAdm := none } }

section
variable {s x z : State} {st : Stn} {t : Tag} {v : Fin 8} {raw : Int} {i : Slot} {r : Record} {l : List Task}

theorem inTransit_of_noRecord (h : NoRecord t s) : inTransit s t = false := by
  rw [inTransit, record_of_noRecord h]

theorem inTransit_of_hasRecord (h : HasRecord t i r s) : inTransit s t = (listOf r).isSome := by
  rw [inTransit, record_of_hasRecord_tag h]

theorem presentElsewhere_of_noRecord (h : NoRecord t s) : presentElsewhere s t st = false := by
  rw [presentElsewhere, record_of_noRecord h]

theorem presentElsewhere_of_present {y : Stn} (h : HasRecord t i r s) (hp : r.rstate = .present y) :
    presentElsewhere s t st = (y != st) := by
  rw [presentElsewhere, record_of_hasRecord_tag h]
  simp only [hp]

theorem presentElsewhere_of_absent (h : HasRecord t i r s) (hp : ∀ y, r.rstate ≠ .present y) :
    presentElsewhere s t st = false := by
  rw [presentElsewhere, record_of_hasRecord_tag h]
  dsimp only
  split
  next y hy => exact absurd hy (hp y)
  next => rfl

theorem presentAt_of_hasRecord (h : HasRecord t i r s) : presentAt s t st = (r.rstate == .present st) := by
  rw [presentAt, record_of_hasRecord_tag h]

theorem listOf_of_present {y : Stn} (hp : r.rstate = .present y) : listOf r = none := by simp only [listOf, hp]

theorem tagAtLoad_departing (ho : (s.station st).occupant = .tracked t) (hin : inTransit s t = true) :
    tagAtLoad st t v raw s = only s := if_pos ⟨ho, hin⟩

theorem tagAtLoad_occupied (hn : (s.station st).occupant ≠ .nobody) (ht : (s.station st).occupant ≠ .tracked t)
    (hu : (s.station st).occupant ≠ .unmanaged t) : tagAtLoad st t v raw s = only (tagOccupied st t s) := by
  rw [tagAtLoad, if_neg (fun hc => ht hc.1), if_pos ⟨hn, ht, hu⟩]

/-- R37: nobody else stands at the load station, and the tag's own pallet is not on its way out. -/
structure Reads (st : Stn) (t : Tag) (s : State) : Prop where
  ours : (s.station st).occupant = .nobody ∨ (s.station st).occupant = .tracked t ∨ (s.station st).occupant = .unmanaged t
  stays : (s.station st).occupant = .tracked t → inTransit s t = false

section
variable (h : Reads st t s)
include h

theorem Reads.notDeparting : ¬ ((s.station st).occupant = .tracked t ∧ inTransit s t = true) := by
  rintro ⟨ho, hin⟩
  rw [h.stays ho] at hin
  cases hin

theorem Reads.notOther :
    ¬ ((s.station st).occupant ≠ .nobody ∧ (s.station st).occupant ≠ .tracked t ∧ (s.station st).occupant ≠ .unmanaged t) := by
  rintro ⟨hn, ht, hu⟩
  exact h.ours.elim hn (·.elim ht hu)

theorem tagAtLoad_stranger (h0 : t = 0) : tagAtLoad st t v raw s = only (tagStranger st t s) := by
  rw [tagAtLoad, if_neg h.notDeparting, if_neg h.notOther, if_pos h0]

variable (h0 : t ≠ 0)
include h0

theorem tagAtLoad_duplicate (he : presentElsewhere s t st = true) : tagAtLoad st t v raw s = only (tagDuplicate st t s) := by
  rw [tagAtLoad, if_neg h.notDeparting, if_neg h.notOther, if_neg h0, if_pos he]

variable (he : presentElsewhere s t st = false) (ha : arrivalPart st t s = (x, l))
include he ha

theorem tagAtLoad_ends (hb : admissionPart st t v raw (presentAt s t st) x = only z) : tagAtLoad st t v raw s = (z, l) := by
  rw [tagAtLoad, if_neg h.notDeparting, if_neg h.notOther, if_neg h0, if_neg (by simp [he])]
  simp only [ha, hb, only, List.filter_nil, List.nil_append, List.append_nil]

theorem tagAtLoad_admits (hb : admissionPart st t v raw (presentAt s t st) x = (z, [.admitted st])) :
    tagAtLoad st t v raw s = (z, .admitted st :: l) := by
  rw [tagAtLoad, if_neg h.notDeparting, if_neg h.notOther, if_neg h0, if_neg (by simp [he])]
  simp [ha, hb]

theorem tagAtLoad_restarts {p : Tag} (hb : admissionPart st t v raw (presentAt s t st) x = (z, [.admitted st, .retire p])) :
    tagAtLoad st t v raw s = (z, .admitted st :: (l ++ [.retire p])) := by
  rw [tagAtLoad, if_neg h.notDeparting, if_neg h.notOther, if_neg h0, if_neg (by simp [he])]
  simp [ha, hb]

end

/-! #### The arrival part (R38) -/

theorem arrivalPart_of_noRecord (h : NoRecord t s) : arrivalPart st t s = only s := by
  rw [arrivalPart, record_of_noRecord h]

theorem arrivalPart_present (h : HasRecord t i r s) (hp : r.rstate = .present st) :
    arrivalPart st t s = only (s.setSlot i (some { r with lastSeen := s.mga.time })) := by
  rw [arrivalPart, record_of_hasRecord_tag h]
  simp only [hp, if_true, modRecord_of_hasRecord_tag h]
  rfl

theorem arrivalPart_absent (h : HasRecord t i r s) (hp : ∀ y, r.rstate ≠ .present y) :
    arrivalPart st t s = if intendedFor r st then arriveIntended st t r s else arriveMisrouted st t r s := by
  rw [arrivalPart, record_of_hasRecord_tag h]
  dsimp only
  split
  next y hy => exact absurd hy (hp y)
  next => rfl

/-! #### The admission part (R39 to R41) -/

section
variable {wasHere : Bool} {g : Nat}

theorem admissionPart_admits (h : NoRecord t s) (hf : freeSlot s = some i) (hg : definedRecipe s v = some g) :
    admissionPart st t v raw wasHere s = admitPallet st i t v raw g (noneAwaited s) := by
  have hs : slotOf (noneAwaited s) t = none := slotOf_of_noRecord (s := noneAwaited s) h
  have hf' : freeSlot (noneAwaited s) = some i := hf
  have hg' : definedRecipe (noneAwaited s) v = some g := hg
  unfold admissionPart
  rw [← noneAwaited]
  simp only [hs, hf', hg']

theorem admissionPart_undefined_new (h : NoRecord t s) (hf : freeSlot s = some i) (hg : definedRecipe s v = none) :
    admissionPart st t v raw wasHere s = only (variantUndefined st t (noneAwaited s)) := by
  have hs : slotOf (noneAwaited s) t = none := slotOf_of_noRecord (s := noneAwaited s) h
  have hf' : freeSlot (noneAwaited s) = some i := hf
  have hg' : definedRecipe (noneAwaited s) v = none := hg
  unfold admissionPart
  rw [← noneAwaited]
  simp only [hs, hf', hg']

/-- R41: the admission waits for a free slot. -/
def awaiting (t : Tag) (v : Fin 8) (raw : Int) (s : State) : State :=
  { s with ptb := { s.ptb with pendingAdm := some { tag := t, variant := v, raw := raw } } }

theorem admissionPart_full (h : NoRecord t s) (hf : freeSlot s = none) : admissionPart st t v raw wasHere s
    = only (occur fPtbFull (some st) t (enterBlocked st (setOccupant st (.unmanaged t) (awaiting t v raw s)))) := by
  have hs : slotOf (noneAwaited s) t = none := slotOf_of_noRecord (s := noneAwaited s) h
  have hf' : freeSlot (noneAwaited s) = none := hf
  unfold admissionPart
  rw [← noneAwaited]
  simp only [hs, hf']
  rfl

theorem slotOf_of_hasRecord_tag (h : HasRecord t i r s) : slotOf s t = some i := by
  obtain ⟨hi, rfl, hu⟩ := h
  exact slotOf_of_hasRecord ⟨hi, rfl, hu⟩

theorem admissionPart_restart (h : HasRecord t i r s) (hg : definedRecipe s v = some g) :
    admissionPart st t v raw wasHere s = restart st i r wasHere v raw g (noneAwaited s) := by
  have hs : slotOf (noneAwaited s) t = some i := slotOf_of_hasRecord_tag (s := noneAwaited s) h
  have hi : (noneAwaited s).ptb.slots.get i = some r := h.1
  have hg' : definedRecipe (noneAwaited s) v = some g := hg
  unfold admissionPart
  rw [← noneAwaited]
  simp only [hs, hi, hg']

theorem admissionPart_undefined_held (h : HasRecord t i r s) (hg : definedRecipe s v = none) :
    admissionPart st t v raw wasHere s = only (variantUndefined st t (noneAwaited s)) := by
  have hs : slotOf (noneAwaited s) t = some i := slotOf_of_hasRecord_tag (s := noneAwaited s) h
  have hi : (noneAwaited s).ptb.slots.get i = some r := h.1
  have hg' : definedRecipe (noneAwaited s) v = none := hg
  unfold admissionPart
  rw [← noneAwaited]
  simp only [hs, hi, hg']

theorem variantUndefined_new (h : NoRecord t s) : variantUndefined st t s
    = occur fVariantUndefined (some st) t (enterBlocked st (setOccupant st (.unmanaged t) s)) := by
  rw [variantUndefined, record_of_noRecord h]
  rfl

theorem variantUndefined_held (h : HasRecord t i r s) :
    variantUndefined st t s = occur fVariantUndefined (some st) t (enterBlocked st s) := by
  rw [variantUndefined, record_of_hasRecord_tag h]
  rfl

end

/-! #### The recipe and the values of the record (R27, R39) -/

theorem definedRecipe_eq_some {b : Fin 2} {g : Nat} (hb : activeBank s = some b) (hg : (s.rcs.banks.get b).generation = some g)
    (hl : 0 < ((s.rcs.banks.get b).recipes.get v).len) : definedRecipe s v = some g := by
  simp only [definedRecipe, hb, hl, if_true, hg]

theorem definedRecipe_eq_none (h : ∀ b, activeBank s = some b → ((s.rcs.banks.get b).recipes.get v).len = 0) :
    definedRecipe s v = none := by
  unfold definedRecipe
  split
  · rfl
  next b hb => exact if_neg (by simp [h b hb])

theorem limitOffset_fst : (limitOffset s raw).1 = max (-(s.ptb.offsetMax : Int)) (min (s.ptb.offsetMax : Int) raw) := by
  unfold limitOffset
  dsimp only
  split
  · dsimp only
    omega
  · split <;> dsimp only <;> omega

theorem limitOffset_snd : (limitOffset s raw).2 = decide ((limitOffset s raw).1 ≠ raw) := by
  unfold limitOffset
  dsimp only
  split
  · exact (decide_eq_true (by dsimp only; omega)).symm
  · split
    · exact (decide_eq_true (by dsimp only; omega)).symm
    · simp

end

/-! ### The events at the load station without an admission (R37, R40, R41) -/

theorem exec_tagAtLoad {m : Msg} {st : Stn} {s : State} (hr : ReportAt kTag m st s) (hl : st = s.stb.load) :
    exec (.tagReport m) s = conclude (tagAtLoad st m.pallet (tagVariant m) (rawOffset m) (reported m s)) :=
  (reportAs_applied hr).trans (congrArg conclude (if_pos hl))

/-- R26, R38: the record of the load station's own pallet, seen now. -/
def seenAgain (m : Msg) (i : Slot) (r : Record) (s : State) : State :=
  (reported m s).setSlot i (some { r with lastSeen := s.mga.time })

section
variable {m : Msg} {st : Stn} {s : State} {i : Slot} {r : Record} (h : HasRecord m.pallet i r s)
include h

theorem hasRecord_seenAgain : HasRecord m.pallet i { r with lastSeen := s.mga.time } (seenAgain m i r s) :=
  hasRecord_setSlot (s := reported m s) h h.2.1

theorem arrivalPart_seenAgain (hp : r.rstate = .present st) :
    arrivalPart st m.pallet (reported m s) = only (seenAgain m i r s) := arrivalPart_present (s := reported m s) h hp

end

section
variable {m : Msg} {st : Stn} {s : State} (hr : ReportAt kTag m st s) (hd : s.ilk.deferred = []) (hl : st = s.stb.load)
  {i : Slot} {r : Record}
include hr hd hl

theorem loadTag_departing {x : Stn} {dl : Time} (ho : (s.station st).occupant = .tracked m.pallet)
    (h : HasRecord m.pallet i r s) (hp : r.rstate = .transit x dl) : ∃ t, exec (.tagReport m) s = .next t
      ∧ t.ptb = s.ptb ∧ t.stb = s.stb ∧ TagFrame m s t := by
  have hin : inTransit (reported m s) m.pallet = true := by
    rw [inTransit_of_hasRecord (s := reported m s) h, listOf, hp]
    rfl
  exact ⟨_, (exec_tagAtLoad hr hl).trans ((congrArg conclude (tagAtLoad_departing (s := reported m s) ho hin)).trans
    (conclude_only_passOver (s := reported m s) hd)), closeEvent_ptb _, closeEvent_stb _, (TagFrame.reported m s).closed⟩

theorem loadTag_occupied (hn : (s.station st).occupant ≠ .nobody) (ht : (s.station st).occupant ≠ .tracked m.pallet)
    (hu : (s.station st).occupant ≠ .unmanaged m.pallet) : exec (.tagReport m) s
      = .next (blockedBy (if (s.record? m.pallet).isSome then fDuplicateTag else fStranger) st m.pallet (reported m s)) :=
  (exec_tagAtLoad hr hl).trans ((congrArg conclude (tagAtLoad_occupied (s := reported m s) hn ht hu)).trans
    (conclude_tagOccupied (s := reported m s) hd))

variable (ha : Reads st m.pallet (reported m s))
include ha

theorem loadTag_stranger (h0 : m.pallet = 0) : exec (.tagReport m) s = .next (rejected fStranger st m.pallet (reported m s)) :=
  (exec_tagAtLoad hr hl).trans ((congrArg conclude (tagAtLoad_stranger ha h0)).trans
    (conclude_tagStranger (s := reported m s) hd))

variable (h0 : m.pallet ≠ 0)
include h0

theorem loadTag_duplicate {x : Stn} (h : HasRecord m.pallet i r s) (hp : r.rstate = .present x) (hx : x ≠ st) :
    exec (.tagReport m) s = .next (rejected fDuplicateTag st m.pallet (reported m s)) := by
  have he : presentElsewhere (reported m s) m.pallet st = true := by
    rw [presentElsewhere_of_present (s := reported m s) h hp]
    exact bne_iff_ne.2 hx
  exact (exec_tagAtLoad hr hl).trans ((congrArg conclude (tagAtLoad_duplicate ha h0 he)).trans
    (conclude_tagDuplicate (s := reported m s) hd))

theorem loadTag_full (h : NoRecord m.pallet s) (hf : freeSlot s = none) : exec (.tagReport m) s
    = .next (rejected fPtbFull st m.pallet (awaiting m.pallet (tagVariant m) (rawOffset m) (reported m s))) := by
  rw [exec_tagAtLoad hr hl, tagAtLoad_ends ha h0 (presentElsewhere_of_noRecord (s := reported m s) h)
    (arrivalPart_of_noRecord (s := reported m s) h) (admissionPart_full (s := reported m s) h hf)]
  exact conclude_blockedBy (x := setOccupant st (.unmanaged m.pallet)
    (awaiting m.pallet (tagVariant m) (rawOffset m) (reported m s))) hd

theorem loadTag_undefined_new (h : NoRecord m.pallet s) (hf : freeSlot s = some i) (hg : definedRecipe s (tagVariant m) = none) :
    exec (.tagReport m) s = .next (rejected fVariantUndefined st m.pallet (noneAwaited (reported m s))) := by
  rw [exec_tagAtLoad hr hl, tagAtLoad_ends ha h0 (presentElsewhere_of_noRecord (s := reported m s) h)
    (arrivalPart_of_noRecord (s := reported m s) h) (admissionPart_undefined_new (s := reported m s) h hf hg),
    variantUndefined_new (s := noneAwaited (reported m s)) h]
  exact conclude_blockedBy (x := setOccupant st (.unmanaged m.pallet) (noneAwaited (reported m s))) hd

/-- R38, R40: the pallet that is here is read again, and its variant has no recipe any more. -/
theorem loadTag_undefined_held (h : HasRecord m.pallet i r s) (hp : r.rstate = .present st)
    (hg : definedRecipe s (tagVariant m) = none) : exec (.tagReport m) s
      = .next (blockedBy fVariantUndefined st m.pallet (noneAwaited (seenAgain m i r s))) := by
  have he : presentElsewhere (reported m s) m.pallet st = false := by
    rw [presentElsewhere_of_present (s := reported m s) h hp]
    exact bne_self_eq_false st
  rw [exec_tagAtLoad hr hl, tagAtLoad_ends ha h0 he (arrivalPart_seenAgain h hp)
    (admissionPart_undefined_held (hasRecord_seenAgain h) hg),
    variantUndefined_held (s := noneAwaited (seenAgain m i r s)) (hasRecord_seenAgain h)]
  exact conclude_blockedBy (x := noneAwaited (seenAgain m i r s)) hd

end

/-! ### An admission or restart at the load station that is not AUTO (R39, R101) -/

/-- R101: a blocked process is given up by an admission. -/
def unblocked (st : Stn) (y : State) : State :=
  if (y.proc st).pstate = .blocked then y.modProc st (fun p => p.giveUp .empty) else y

section
variable {st : Stn} {y : State}

theorem onAdmission_unblocks (h : (y.station st).mode ≠ .auto) : onAdmission st y = only (unblocked st y) := by
  rw [onAdmission, if_neg h]
  exact (apply_ite only _ _ _).symm

theorem unblocked_frame : unblocked st y = { y with idx := (unblocked st y).idx } := by
  unfold unblocked
  split <;> rfl

theorem unblocked_not_route (h : ∀ x, (y.proc x).wait ≠ .route) (x : Stn) : ((unblocked st y).proc x).wait ≠ .route := by
  unfold unblocked
  split
  · rw [State.modProc_proc]
    split
    · exact Wait.noConfusion
    · exact h x
  · exact h x

end

theorem EndsIn.skip {n : Nat} {y u : State} {l ks : List Task} (h : ∀ k ∈ ks, perform k y = only y) (hl : EndsIn n y l u) :
    EndsIn (n + ks.length) y (ks ++ l) u := by
  rw [EndsIn, List.append_assoc, runTasks_idle h]
  exact hl

section
variable {m : Msg} {st : Stn} {s : State}

/-- R39: the record that the TAG of the load station admits, in slot `i`. -/
def admitted (m : Msg) (st : Stn) (i : Slot) (g : Nat) (s : State) : State :=
  placed st m.pallet i (freshRecord s st m.pallet (tagVariant m) (rawOffset m) g) (noneAwaited (reported m s))

variable (hr : ReportAt kTag m st s) (hl : st = s.stb.load) (ha : Reads st m.pallet (reported m s)) (h0 : m.pallet ≠ 0)
  {i : Slot} {g : Nat} (h : NoRecord m.pallet s) (hf : freeSlot s = some i) (hg : definedRecipe s (tagVariant m) = some g)
include hr hl ha h0 h hf hg

theorem loadTag_admits : exec (.tagReport m) s = conclude (admitted m st i g s, [.admitted st]) := by
  rw [exec_tagAtLoad hr hl, tagAtLoad_admits ha h0 (presentElsewhere_of_noRecord (s := reported m s) h)
    (arrivalPart_of_noRecord (s := reported m s) h)
    (by rw [admissionPart_admits (s := reported m s) h hf hg, admitPallet])]
  rfl

theorem loadTag_admitted (hd : s.ilk.deferred = []) (hm : (s.station st).mode ≠ .auto) :
    exec (.tagReport m) s = .next (closeEvent (passOver (unblocked st (admitted m st i g s)))) := by
  have hmode : ((admitted m st i g s).station st).mode ≠ .auto := by
    rw [admitted, placed_mode]
    exact hm
  have hdef : (unblocked st (admitted m st i g s)).ilk.deferred = [] := by
    rw [unblocked_frame]
    exact hd
  rw [loadTag_admits hr hl ha h0 h hf hg]
  exact EndsIn.conclude (EndsIn.step (onAdmission_unblocks hmode) (endsIn_idle (fun k hk => nomatch hk) hdef)) (by decide)

end

/-! ### The journey of a record starts again (R39, R59) -/

/-- What the end of a restart leaves: the tables of the pallets and stations, the fault records, and the banks where none is
RETIRING. -/
structure KeepsTables (z u : State) : Prop where
  ptb : u.ptb = z.ptb
  stb : u.stb = z.stb
  records : u.fcu.records = z.fcu.records
  uiq : u.chi.uiq = z.chi.uiq
  rcs : retiringBank z = none → u.rcs = z.rcs
  summary : ∀ n, z.mga.summary.getLsbD n = true → u.mga.summary.getLsbD n = true

section
variable {z u w : State}

theorem KeepsTables.trans (h : KeepsTables z u) (k : KeepsTables u w) : KeepsTables z w where
  ptb := k.ptb.trans h.ptb
  stb := k.stb.trans h.stb
  records := k.records.trans h.records
  uiq := k.uiq.trans h.uiq
  rcs hz := by
    have hu : retiringBank u = none := by rw [retiringBank, bankIn, h.rcs hz]; exact hz
    exact (k.rcs hu).trans (h.rcs hz)
  summary n hn := k.summary n (h.summary n hn)

theorem summary_notice {ev : Event} {b : Byte} {p : Tag} {d n : Nat} (h : z.mga.summary.getLsbD n = true) :
    (notice ev b p d z).mga.summary.getLsbD n = true := by
  rw [notice_summary, BitVec.getLsbD_or, h]
  rfl

theorem keepsTables_notice (ev : Event) (b : Byte) (p : Tag) (d : Nat) (z : State) : KeepsTables z (notice ev b p d z) :=
  ⟨notice_ptb .., notice_stb .., congrArg Fcu.records (notice_fcu ..), notice_chi_uiq .., fun _ => notice_rcs ..,
    fun _ => summary_notice⟩

theorem keepsTables_closed (z : State) : KeepsTables z (closeEvent (passOver z)) :=
  ⟨closeEvent_ptb _, closeEvent_stb _, congrArg Fcu.records (closeEvent_fcu _), closeEvent_chi_uiq _, fun _ => closeEvent_rcs _,
    fun n => closeEvent_summary (passOver z) n⟩

theorem keepsTables_unblocked (st : Stn) (z : State) : KeepsTables z (unblocked st z) := by
  rw [unblocked_frame]
  exact ⟨rfl, rfl, rfl, rfl, fun _ => rfl, fun _ h => h⟩

/-- R59: a RETIRING bank without carriers is EMPTY, its check value dropped. -/
def bankDropped (b : Fin 2) (z : State) : State :=
  { z with
    rcs := { z.rcs with banks := upd z.rcs.banks b (fun k => { k with bstate := .empty, generation := none }) }
    fcu := { z.fcu with checks := { z.fcu.checks with retiring := none } } }

theorem retireBank_cases (p : Tag) (z : State) : retireBank p z = z
    ∨ ∃ b, retiringBank z = some b ∧ retireBank p z = notice .bankRetired 255 p b.val (bankDropped b z) := by
  unfold retireBank
  split
  · exact Or.inl rfl
  next b hb =>
    split
    · exact Or.inr ⟨b, hb, rfl⟩
    · exact Or.inl rfl

theorem KeepsTables.refl (z : State) : KeepsTables z z := ⟨rfl, rfl, rfl, rfl, fun _ => rfl, fun _ h => h⟩

theorem keepsTables_retireBank (p : Tag) (z : State) : KeepsTables z (retireBank p z) := by
  rcases retireBank_cases p z with hz | ⟨b, hb, hz⟩
  · rw [hz]
    exact KeepsTables.refl z
  · have hdrop : KeepsTables z (bankDropped b z) :=
      ⟨rfl, rfl, rfl, rfl, fun hn => absurd (hn.symm.trans hb) (by simp), fun _ h => h⟩
    rw [hz]
    exact hdrop.trans (keepsTables_notice ..)

theorem retireBank_deferred (p : Tag) (z : State) : (retireBank p z).ilk.deferred = z.ilk.deferred := by
  rcases retireBank_cases p z with hz | ⟨b, -, hz⟩
  · rw [hz]
  · rw [hz, notice_ilk]
    rfl

/-- R39, R59: the tasks of a restart at a station that is not AUTO, while nobody waits for a route. -/
theorem conclude_restart {st : Stn} {p : Tag} {l : List Task} (hm : (z.station st).mode ≠ .auto)
    (hw : ∀ x, (z.proc x).wait ≠ .route) (hd : z.ilk.deferred = []) (hl : ∀ k ∈ l, k = .reroute) (hlen : l.length ≤ 1) :
    conclude (z, .admitted st :: (l ++ [.retire p])) = .next (closeEvent (passOver (retireBank p (unblocked st z)))) := by
  have hdef : (retireBank p (unblocked st z)).ilk.deferred = [] := by
    rw [retireBank_deferred, unblocked_frame]
    exact hd
  have hend : EndsIn 2 (retireBank p (unblocked st z)) [] (closeEvent (passOver (retireBank p (unblocked st z)))) :=
    endsIn_idle (l := []) (fun k hk => nomatch hk) hdef
  have hretire : EndsIn 3 (unblocked st z) [.retire p] (closeEvent (passOver (retireBank p (unblocked st z)))) :=
    EndsIn.step rfl hend
  have hskip : EndsIn (3 + l.length) (unblocked st z) (l ++ [.retire p]) (closeEvent (passOver (retireBank p (unblocked st z)))) :=
    EndsIn.skip (ks := l) (fun k hk => hl k hk ▸ reroute_of_nobody (unblocked_not_route hw)) hretire
  exact EndsIn.conclude (EndsIn.step (onAdmission_unblocks hm) hskip) (by omega)

end

/-- What the arrival part of a TAG leaves: the record `q`, in its slot and out of its list. -/
structure Returned (m : Msg) (st : Stn) (i : Slot) (r q : Record) (s y : State) : Prop where
  record : HasRecord m.pallet i q y
  cursor : q.routeCursor = r.routeCursor
  recipe : recipeOf y q = recipeOf s r
  slots : y.ptb.slots = upd s.ptb.slots i (fun _ => some q)
  approach : y.ptb.approach = (leaveOld r s).ptb.approach
  limit : y.ptb.offsetMax = s.ptb.offsetMax
  time : y.mga.time = s.mga.time
  others : ∀ x, x ≠ st → (y.station x).occupant = (s.station x).occupant
  mode : (y.station st).mode = (s.station st).mode
  wait : ∀ x, (y.proc x).wait ≠ .route
  deferred : y.ilk.deferred = []
  rcs : y.rcs = s.rcs
  uiq : y.chi.uiq = s.chi.uiq ++ [m]

/-- R39: the record that the restart gives the pallet, in its slot. -/
def rejoined (m : Msg) (st : Stn) (i : Slot) (g : Nat) (s y : State) : State :=
  placed st m.pallet i (freshRecord s st m.pallet (tagVariant m) (rawOffset m) g) (noneAwaited y)

/-- R39: the end of a journey whose route was incomplete is told. -/
def restartTold (m : Msg) (st : Stn) (i : Slot) (g : Nat) (q : Record) (wasHere : Bool) (s y : State) : State :=
  if incomplete y q && !wasHere then notice .palletIncomplete (stnByte st) m.pallet q.routeCursor (rejoined m st i g s y)
  else rejoined m st i g s y

section
variable {m : Msg} {st : Stn} {i : Slot} {r q : Record} {s y : State} {g : Nat} {wasHere : Bool}

theorem keepsTables_restartTold : KeepsTables (rejoined m st i g s y) (restartTold m st i g q wasHere s y) := by
  unfold restartTold
  split
  · exact keepsTables_notice ..
  · exact KeepsTables.refl _

theorem restartTold_idx : (restartTold m st i g q wasHere s y).idx = y.idx := by
  unfold restartTold
  split
  · exact notice_idx ..
  · rfl

theorem restartTold_deferred : (restartTold m st i g q wasHere s y).ilk.deferred = y.ilk.deferred := by
  unfold restartTold
  split
  · exact congrArg Ilk.deferred (notice_ilk ..)
  · rfl

variable (h : Returned m st i r q s y)
include h

theorem Returned.restart : restart st i q wasHere (tagVariant m) (rawOffset m) g (noneAwaited y)
    = (restartTold m st i g q wasHere s y, [.admitted st, .retire m.pallet]) := by
  have hfresh : freshRecord (noneAwaited y) st m.pallet (tagVariant m) (rawOffset m) g
      = freshRecord s st m.pallet (tagVariant m) (rawOffset m) g := by
    have hlim : limitOffset (noneAwaited y) (rawOffset m) = limitOffset s (rawOffset m) := by
      unfold limitOffset
      have : (noneAwaited y).ptb.offsetMax = s.ptb.offsetMax := h.limit
      rw [this]
    have hnow : (noneAwaited y).now = s.now := h.time
    simp only [freshRecord, hlim, hnow]
  rw [Machine.restart, h.record.2.1, hfresh]
  rfl

theorem Returned.incomplete : incomplete y q = incomplete s r := by
  have hlen : routeLen y q = routeLen s r := by rw [routeLen, routeLen, h.recipe]
  rw [Machine.incomplete, Machine.incomplete, hlen, h.cursor]

theorem Returned.rejoined_slots : (rejoined m st i g s y).ptb.slots
    = upd s.ptb.slots i (fun _ => some (freshRecord s st m.pallet (tagVariant m) (rawOffset m) g)) := by
  change upd y.ptb.slots i (fun _ => some (freshRecord s st m.pallet (tagVariant m) (rawOffset m) g)) = _
  rw [h.slots, upd_upd]

theorem Returned.rejoined_occupied : OccupiedBy st (.tracked m.pallet) s (rejoined m st i g s y) :=
  have ho := placed_occupied (st := st) (t := m.pallet) (i := i) (s := noneAwaited y)
    (r := freshRecord s st m.pallet (tagVariant m) (rawOffset m) g)
  ⟨ho.1, fun x hx => (ho.2 x hx).trans (h.others x hx)⟩

variable {l : List Task} (hr : ReportAt kTag m st s) (hl : st = s.stb.load) (ha : Reads st m.pallet (reported m s))
  (h0 : m.pallet ≠ 0) (he : presentElsewhere (reported m s) m.pallet st = false)
  (hx : arrivalPart st m.pallet (reported m s) = (y, l)) (hre : ∀ k ∈ l, k = .reroute) (hlen : l.length ≤ 1)
  (hg : definedRecipe s (tagVariant m) = some g) (hm : (s.station st).mode ≠ .auto)
include hr hl ha h0 he hx hre hlen hg hm

theorem Returned.run : exec (.tagReport m) s = .next (closeEvent (passOver (retireBank m.pallet (unblocked st
    (restartTold m st i g q (presentAt (reported m s) m.pallet st) s y))))) := by
  have hg' : definedRecipe y (tagVariant m) = some g := by
    rw [definedRecipe, activeBank, bankIn, h.rcs]
    exact hg
  have hmode : ((restartTold m st i g q (presentAt (reported m s) m.pallet st) s y).station st).mode ≠ .auto := by
    rw [State.station, keepsTables_restartTold.stb]
    change ((rejoined m st i g s y).station st).mode ≠ .auto
    rw [rejoined, placed_mode]
    exact h.mode.trans_ne hm
  rw [exec_tagAtLoad hr hl, tagAtLoad_restarts ha h0 he hx ((admissionPart_restart h.record hg').trans h.restart)]
  refine conclude_restart hmode (fun x => ?_) (restartTold_deferred.trans h.deferred) hre hlen
  rw [State.proc, restartTold_idx]
  exact h.wait x

/-- What a restart leaves, whatever way the pallet came. -/
structure Restarted (m : Msg) (st : Stn) (i : Slot) (g : Nat) (r : Record) (s y t : State) : Prop where
  slots : t.ptb.slots = upd s.ptb.slots i (fun _ => some (freshRecord s st m.pallet (tagVariant m) (rawOffset m) g))
  pendingAdm : t.ptb.pendingAdm = none
  approach : t.ptb.approach = (leaveOld r s).ptb.approach
  occupied : OccupiedBy st (.tracked m.pallet) s t
  told : r.rstate ≠ .present st → r.routeCursor < routeLen s r → t.mga.summary.getLsbD 1 = true
  records : t.fcu.records = y.fcu.records
  rcs : retiringBank s = none → t.rcs = s.rcs
  uiq : t.chi.uiq = s.chi.uiq ++ [m]

theorem Returned.restarted (hi : HasRecord m.pallet i r s) :
    ∃ t, exec (.tagReport m) s = .next t ∧ Restarted m st i g r s y t := by
  have hkeep := (keepsTables_restartTold (m := m) (st := st) (i := i) (g := g) (q := q) (s := s) (y := y)
    (wasHere := presentAt (reported m s) m.pallet st)).trans
      ((keepsTables_unblocked st _).trans ((keepsTables_retireBank m.pallet _).trans (keepsTables_closed _)))
  refine ⟨_, h.run hr hl ha h0 he hx hre hlen hg hm, ?_, ?_, ?_, ?_, fun hp hlt => ?_, hkeep.records, fun hb => ?_, ?_⟩
  · rw [hkeep.ptb]
    exact h.rejoined_slots
  · rw [hkeep.ptb]
    rfl
  · rw [hkeep.ptb]
    exact h.approach
  · exact h.rejoined_occupied.congr fun x => by rw [State.station, hkeep.stb]; rfl
  · have hwas : presentAt (reported m s) m.pallet st = false := by
      rw [presentAt_of_hasRecord (s := reported m s) hi]
      exact beq_eq_false_iff_ne.2 hp
    have hinc : Machine.incomplete y q = true := h.incomplete.trans (decide_eq_true hlt)
    have htold : (restartTold m st i g q (presentAt (reported m s) m.pallet st) s y).mga.summary.getLsbD 1 = true := by
      rw [restartTold, hinc, hwas, if_pos (by rfl), notice_summary, BitVec.getLsbD_or, Bool.or_eq_true]
      exact Or.inr (by decide)
    exact (((keepsTables_unblocked st _).trans ((keepsTables_retireBank m.pallet _).trans (keepsTables_closed _))).summary 1) htold
  · refine (hkeep.rcs ?_).trans h.rcs
    change bankIn y .retiring = none
    rw [bankIn, h.rcs]
    exact hb
  · rw [hkeep.uiq]
    exact h.uiq

end

/-! #### The three ways of an arrival part (R38) -/

section
variable {m : Msg} {st : Stn} {i : Slot} {r q : Record} {s y : State}

theorem Returned.notice (h : Returned m st i r q s y) (ev : Event) (b : Byte) (p : Tag) (d : Nat) :
    Returned m st i r q s (notice ev b p d y) where
  record := h.record.congr (congrArg Ptb.slots (notice_ptb ..))
  cursor := h.cursor
  recipe := by
    rw [← h.recipe, recipeOf, bankOf, notice_rcs]
    rfl
  slots := (congrArg Ptb.slots (notice_ptb ..)).trans h.slots
  approach := (congrArg Ptb.approach (notice_ptb ..)).trans h.approach
  limit := (congrArg Ptb.offsetMax (notice_ptb ..)).trans h.limit
  time := (notice_mga_time ..).trans h.time
  others x hx := by
    rw [State.station, notice_stb]
    exact h.others x hx
  mode := by
    rw [State.station, notice_stb]
    exact h.mode
  wait x := by
    rw [State.proc, notice_idx]
    exact h.wait x
  deferred := (congrArg Ilk.deferred (notice_ilk ..)).trans h.deferred
  rcs := (notice_rcs ..).trans h.rcs
  uiq := (notice_chi_uiq ..).trans h.uiq

theorem Returned.occur (h : Returned m st i r q s y) (k : FaultKind) (p : Tag) :
    Returned m st i r q s (occur k (some st) p y) where
  record := h.record.congr (congrArg Ptb.slots (occur_ptb ..))
  cursor := h.cursor
  recipe := by
    rw [← h.recipe, recipeOf, bankOf, occur_rcs]
    rfl
  slots := (congrArg Ptb.slots (occur_ptb ..)).trans h.slots
  approach := (congrArg Ptb.approach (occur_ptb ..)).trans h.approach
  limit := (congrArg Ptb.offsetMax (occur_ptb ..)).trans h.limit
  time := (occur_mga_time ..).trans h.time
  others x hx := ((holdsOnly_occur ..).occupant x).trans (h.others x hx)
  mode := ((holdsOnly_occur ..).mode st).trans h.mode
  wait x := by
    rw [(holdsOnly_occur ..).wait]
    exact h.wait x
  deferred := (congrArg Ilk.deferred (occur_ilk ..)).trans h.deferred
  rcs := (occur_rcs ..).trans h.rcs
  uiq := (occur_chi_uiq ..).trans h.uiq

section
variable (hn : NobodyWaits s) (h : HasRecord m.pallet i r s) (ht : q.tag = r.tag) (hc : q.routeCursor = r.routeCursor)
  (hv : q.variant = r.variant) (hg : q.generation = r.generation)
include hn h ht hc hv hg

theorem returned_setSlot : Returned m st i r q s ((leaveOld r (reported m s)).setSlot i (some q)) := by
  have happ := leaveOld_reported_approach m r s
  have hslots := leaveOld_slots r (reported m s)
  have hrec : HasRecord m.pallet i q ((leaveOld r (reported m s)).setSlot i (some q)) :=
    hasRecord_setSlot (s := leaveOld r (reported m s)) (h.congr hslots) (ht.trans h.2.1)
  have hlim : (leaveOld r (reported m s)).ptb.offsetMax = s.ptb.offsetMax := by
    unfold leaveOld
    split <;> rfl
  have hrecipe : ∀ p, recipeOf { reported m s with ptb := p } q = recipeOf s r := fun p => by
    rw [recipeOf, hg, hv]
    rfl
  rw [leaveOld_frame] at happ hslots hrec hlim ⊢
  exact ⟨hrec, hc, hrecipe _, congrArg (fun v => upd v i (fun _ => some q)) hslots, happ, hlim, rfl, fun _ _ => rfl, rfl,
    not_route_of_nobodyWaits hn, hn.1, rfl, rfl⟩

theorem returned_placed : Returned m st i r q s (placed st m.pallet i q (leaveOld r (reported m s))) :=
  have hset := returned_setSlot (st := st) hn h ht hc hv hg
  { hset with
    others := fun x hx => (placed_occupied (s := leaveOld r (reported m s)) (st := st) (i := i) (r := q)).2 x hx
      |>.trans (hset.others x hx)
    mode := (placed_mode ..).trans hset.mode }

end

variable (hn : NobodyWaits s) (h : HasRecord m.pallet i r s)
include hn h

/-- R38: a pallet read again at the load station. -/
theorem returned_seenAgain (hp : r.rstate = .present st) :
    Returned m st i r { r with lastSeen := s.mga.time } s (seenAgain m i r s) := by
  have hret := returned_setSlot (st := st) (q := { r with lastSeen := s.mga.time }) hn h rfl rfl rfl rfl
  rw [leaveOld_present hp] at hret
  exact hret

/-- R38: a pallet that was on its way to the load station, or LOST on it. -/
theorem arrivalPart_intended (hp : ∀ x, r.rstate ≠ .present x) (hi : intendedFor r st = true) : ∃ y l,
    arrivalPart st m.pallet (reported m s) = (y, l) ∧ Returned m st i r (arrivedAt st s.mga.time r) s y
      ∧ y.fcu = s.fcu ∧ (∀ k ∈ l, k = .reroute) ∧ l.length ≤ 1 := by
  have hret := returned_placed (st := st) (q := arrivedAt st s.mga.time r) hn h rfl rfl rfl rfl
  have hpart := arrivalPart_absent (s := reported m s) (st := st) h hp
  rw [if_pos hi] at hpart
  cases hr : r.rstate with
  | present x => exact absurd hr (hp x)
  | lost l =>
    rw [leaveOld_lost hr] at hret
    rw [arriveIntended_lost (s := reported m s) h hr] at hpart
    exact ⟨_, [], hpart, hret.notice .., notice_fcu .., List.forall_mem_nil _, Nat.zero_le _⟩
  | transit x dl =>
    have hx : x = st := of_decide_eq_true ((intendedFor_transit hr).symm.trans hi)
    subst hx
    rw [leaveOld_transit hr, h.2.1] at hret
    rw [arriveIntended_transit (s := reported m s) h hr] at hpart
    refine ⟨_, _, hpart, ?_, ?_, fun k hk => mem_shorter hk, shorter_length ..⟩
    · split
      · exact hret
      · exact hret.notice ..
    · split
      · rfl
      · exact notice_fcu ..

/-- R38: a pallet that was on its way elsewhere. -/
theorem arrivalPart_misrouted (hp : ∀ x, r.rstate ≠ .present x) (hi : intendedFor r st = false) : ∃ l,
    arrivalPart st m.pallet (reported m s) = (misroutedState m st i r s, l)
      ∧ Returned m st i r (misroutedAt st s.mga.time r) s (misroutedState m st i r s)
      ∧ (∀ k ∈ l, k = .reroute) ∧ l.length ≤ 1 := by
  have hpart := arrivalPart_absent (s := reported m s) (st := st) h hp
  rw [if_neg (by simp [hi]), ← Prod.mk.eta (p := arriveMisrouted st m.pallet r (reported m s)),
    arriveMisrouted_eq (s := reported m s) h] at hpart
  exact ⟨_, hpart, (returned_placed (st := st) (q := misroutedAt st s.mga.time r) hn h rfl rfl rfl rfl).occur ..,
    arriveMisrouted_tasks, arriveMisrouted_length⟩

end

/-! ### An admission at the AUTO load station (R84, R90 to R93, R101) -/

section
variable {g : StnSet} {z : State} {x : Stn}

theorem chooseFromGroup_none (h : ∀ x : Stn, g.getLsbD x.val = true → (z.station x).mode ≠ .auto) : chooseFromGroup z g = none := by
  have hcands : g.members.filter (fun st =>
      (z.station st).mode == .auto && decide (committed z st < (z.station st).cfg.capacity)) = [] := by
    refine List.filter_eq_nil_iff.2 fun x hx => ?_
    simp [h x (List.mem_filter.1 hx).2]
  rw [chooseFromGroup, hcands]
  rfl

theorem members_one (x : Stn) : StnSet.members (1#16 <<< x.val) = [x] := by
  revert x
  decide

theorem chooseFromGroup_one (hm : (z.station x).mode = .auto) (hc : committed z x < (z.station x).cfg.capacity) :
    chooseFromGroup z (1#16 <<< x.val) = some x := by
  simp [chooseFromGroup, members_one, hm, hc]

theorem entriesWhere_of_noEntries (h : ∀ e, z.entry? e = none) (p : Entry → Bool) : entriesWhere z p = [] :=
  entriesWhere_eq_nil fun e en he => absurd ((h e).symm.trans he) (by simp)

theorem committed_of_noEntries (h : ∀ e, z.entry? e = none) : committed z x = (z.ptb.approach.get x).length := by
  rw [committed, entriesWhere_of_noEntries h]
  rfl

theorem freeEntry_of_noEntries (h : ∀ e, z.entry? e = none) : freeEntry z = some 0 := by
  rw [freeEntry, allEntries, ← Fin.find?_eq_find?_finRange, Fin.find?_eq_some_iff]
  exact ⟨by simp [h], fun j hj => absurd hj (Nat.not_lt_zero _)⟩

theorem hasEntry_of_noEntries (h : ∀ e, z.entry? e = none) (st : Stn) : hasEntry z st = false :=
  hasEntry_eq_false.2 fun e en he => absurd ((h e).symm.trans he) (by simp)

end

section
variable {st : Stn} {t : Tag} {y : State} {r : Record}

theorem onAdmission_takesUp (hm : (y.station st).mode = .auto) (hw : (y.proc st).wait = .nothing)
    (he : ∀ e, y.entry? e = none) : onAdmission st y = (y, [.takeUp st false]) := by
  have hown : ownUntransmitted y st = none := by
    rw [ownUntransmitted, entriesWhere_of_noEntries he]
    rfl
  have hkeep : ((y.proc st).wait == .route || (y.proc st).wait == .entry) = false := by
    rw [hw]
    rfl
  rw [onAdmission, if_pos hm]
  simp only [hown, hkeep, Bool.and_false]

theorem isMachining_of_load (hl : st = y.stb.load) : isMachining y st = false := by
  rw [isMachining, hl, bne_self_eq_false, Bool.false_and]

/-- R84, R90: the pallet at the load station is to be sent on its route. -/
theorem takeUp_routes {step : RouteStep} (hl : st = y.stb.load) (ho : (y.station st).occupant = .tracked t) (h : y.record? t = some r)
    (hp : r.rstate = .present st) (hs : currentStep y r = some step) (hq : r.quality.bad = false) :
    takeUp st false y = (pickUp st y, [.route st false false]) := by
  have hk : isMachining (pickUp st y) st = false := isMachining_of_load (y := pickUp st y) hl
  have ho' : ((pickUp st y).station st).occupant = .tracked t := ho
  have h' : (pickUp st y).record? t = some r := h
  have hinc : incomplete (pickUp st y) r = true := incomplete_of_currentStep (s := pickUp st y) hs
  have hl' : st = (pickUp st y).stb.load := hl
  unfold takeUp
  simp only [Bool.false_eq_true, if_false]
  rw [← pickUp, hk, ho']
  simp only [h', hp, ne_eq, not_true_eq_false, Bool.false_and, Bool.false_eq_true, if_false]
  rw [if_pos ⟨hl', hinc, hq⟩]

/-- R90: the process chooses where its pallet goes. -/
def routing (st : Stn) (y : State) : State :=
  y.modProc st (fun p =>
    { p with pstate := .routing, settleEnd := none, settleSucc := none, settleTaken := false, replan := false })

theorem chooseDestination_routing {step : RouteStep} (hq : r.quality.bad = false) (hs : currentStep y r = some step) :
    chooseDestination (routing st y) r = chooseFromGroup (routing st y) step.group := by
  have hs' : currentStep (routing st y) r = some step := hs
  rw [chooseDestination, hq, if_neg Bool.false_ne_true, hs']

section
variable {step : RouteStep} (hl : st = y.stb.load) (hr : processRecord (routing st y) st = some r)
  (hq : r.quality.bad = false) (hs : currentStep y r = some step)
include hl hr hq hs

theorem routeChoice_waits (ho : chooseFromGroup (routing st y) step.group = none) :
    routeChoice st false false y = only (waitRoute st false (routing st y)) := by
  have hk : isMachining (routing st y) st = false := isMachining_of_load (y := routing st y) hl
  have hdest := (chooseDestination_routing hq hs).trans ho
  unfold routeChoice
  rw [← routing]
  simp only [hr, hk, hdest, Bool.false_and, Bool.false_eq_true, if_false]

/-- R91: the destination found is told by a RELEASE. -/
theorem routeChoice_releases {d : Stn} (ho : chooseFromGroup (routing st y) step.group = some d) : routeChoice st false false y
    = makeDue st (.release (BitVec.ofNat 16 d.val)) .routing false false (routing st y) := by
  have hk : isMachining (routing st y) st = false := isMachining_of_load (y := routing st y) hl
  have hdest := (chooseDestination_routing hq hs).trans ho
  unfold routeChoice
  rw [← routing]
  simp only [hr, hk, hdest, Bool.false_and, Bool.false_eq_true, if_false]

end

end

section
variable {m : Msg} {st : Stn} {i : Slot} {g : Nat} {s : State}

theorem hasRecord_of_new {t : Tag} {q : Record} {y : State} (h : NoRecord t y) (hq : q.tag = t) :
    HasRecord t i q (y.setSlot i (some q)) := by
  refine ⟨by simp, hq, fun j x hx ht => ?_⟩
  rw [State.setSlot_ptb, upd_get] at hx
  split at hx
  next hj => exact hj
  next => exact absurd ht (h j x hx)

theorem record_admitted (h : NoRecord m.pallet s) : (admitted m st i g s).record? m.pallet
    = some (freshRecord s st m.pallet (tagVariant m) (rawOffset m) g) :=
  record_of_hasRecord_tag (i := i) ((hasRecord_of_new (y := noneAwaited (reported m s)) h rfl).congr rfl)

theorem admitted_station_self : (admitted m st i g s).station st = { s.station st with occupant := .tracked m.pallet } := by
  change (s.modStn st (fun x => { x with occupant := .tracked m.pallet })).station st = _
  rw [State.modStn_station, if_pos rfl]

theorem admitted_mode (x : Stn) : ((admitted m st i g s).station x).mode = (s.station x).mode :=
  placed_mode st m.pallet i _ (noneAwaited (reported m s)) x

theorem admitted_capacity (x : Stn) : ((admitted m st i g s).station x).cfg = (s.station x).cfg := by
  change ((s.modStn st (fun x => { x with occupant := .tracked m.pallet })).station x).cfg = _
  rw [State.modStn_station]
  split
  next hx => rw [hx]
  next => rfl

theorem admitted_occupied : OccupiedBy st (.tracked m.pallet) s (admitted m st i g s) :=
  placed_occupied (s := noneAwaited (reported m s))

/-- R39: an admitted record is at the first step of its recipe. -/
theorem currentStep_admitted {b : Fin 2} (hb : activeBank s = some b) (hbank : bankOf s g = activeBank s)
    (hl : 0 < ((s.rcs.banks.get b).recipes.get (tagVariant m)).len) :
    currentStep (admitted m st i g s) (freshRecord s st m.pallet (tagVariant m) (rawOffset m) g)
      = some (((s.rcs.banks.get b).recipes.get (tagVariant m)).steps.get 0) := by
  have hrec : recipeOf (admitted m st i g s) (freshRecord s st m.pallet (tagVariant m) (rawOffset m) g)
      = some ((s.rcs.banks.get b).recipes.get (tagVariant m)) := by
    change (bankOf s g).map (fun b => (s.rcs.banks.get b).recipes.get (tagVariant m)) = _
    rw [hbank, hb]
    rfl
  rw [currentStep, hrec]
  dsimp only
  rw [if_pos (by exact hl)]
  rfl

/-- R90: the process of the load station with the pallet admitted, choosing where it goes. -/
def routingAdmitted (m : Msg) (st : Stn) (i : Slot) (g : Nat) (s : State) : State := routing st (pickUp st (admitted m st i g s))

theorem takenUp_routingAdmitted : TakenUp st m.pallet (admitted m st i g s) (routingAdmitted m st i g s) :=
  have hpick := takenUp_pickUp (st := st) (t := m.pallet) (y := admitted m st i g s) (by rw [admitted_station_self])
  hpick.modProc rfl hpick.nowait

theorem processRecord_routingAdmitted (h : NoRecord m.pallet s) : processRecord (routingAdmitted m st i g s) st
    = some (freshRecord s st m.pallet (tagVariant m) (rawOffset m) g) := by
  rw [processRecord, takenUp_routingAdmitted.pallet]
  exact record_admitted h

section
variable (hr : ReportAt kTag m st s) (hl : st = s.stb.load) (ha : Reads st m.pallet (reported m s)) (h0 : m.pallet ≠ 0)
  (h : NoRecord m.pallet s) (hf : freeSlot s = some i) {b : Fin 2} (hb : activeBank s = some b)
  (hgen : (s.rcs.banks.get b).generation = some g) (hlen : 0 < ((s.rcs.banks.get b).recipes.get (tagVariant m)).len)
  (hm : (s.station st).mode = .auto) (hbank : bankOf s g = activeBank s) (he : ∀ e, s.entry? e = none)
  (hw : (s.proc st).wait = .nothing)
include hr hl ha h0 h hf hb hgen hlen hm hbank he hw

/-- R101, R84: the admission ends as the choice of the pallet's route does. -/
theorem loadTag_routed {n : Nat} {z u : State} {l : List Task}
    (hc : routeChoice st false false (pickUp st (admitted m st i g s)) = (z, l)) (hu : EndsIn n z l u) (hn : n ≤ 97) :
    exec (.tagReport m) s = .next u := by
  have hst := admitted_station_self (m := m) (st := st) (i := i) (g := g) (s := s)
  have hadm := onAdmission_takesUp (y := admitted m st i g s) (st := st) (by rw [hst]; exact hm) hw he
  have htake := takeUp_routes (y := admitted m st i g s) (st := st) (t := m.pallet) hl (by rw [hst]) (record_admitted h) rfl
    (currentStep_admitted hb hbank hlen) rfl
  rw [loadTag_admits hr hl ha h0 h hf (definedRecipe_eq_some hb hgen hlen)]
  have hrest : EndsIn n z (l ++ []) u := by
    rw [List.append_nil]
    exact hu
  exact EndsIn.conclude (EndsIn.step hadm (EndsIn.step htake (EndsIn.step hc hrest))) (Nat.add_le_add_right hn 3)

/-- R93: no station of the first group is AUTO. -/
theorem loadTag_waitsRoute (hd : s.ilk.deferred = []) (hg : ∀ x : Stn,
      (((s.rcs.banks.get b).recipes.get (tagVariant m)).steps.get 0).group.getLsbD x.val = true → (s.station x).mode ≠ .auto) :
    exec (.tagReport m) s = .next (closeEvent (passOver (waitRoute st false (routingAdmitted m st i g s)))) := by
  have hnone : chooseFromGroup (routingAdmitted m st i g s)
      (((s.rcs.banks.get b).recipes.get (tagVariant m)).steps.get 0).group = none :=
    chooseFromGroup_none fun x hx => (admitted_mode (st := st) (i := i) (g := g) x).trans_ne (hg x hx)
  have hcur := currentStep_admitted (m := m) (st := st) (i := i) hb hbank hlen
  have hdef : (waitRoute st false (routingAdmitted m st i g s)).ilk.deferred = [] := by
    unfold waitRoute
    dsimp only
    split <;> exact hd
  exact loadTag_routed hr hl ha h0 h hf hb hgen hlen hm hbank he hw
    (routeChoice_waits (y := pickUp st (admitted m st i g s)) hl (processRecord_routingAdmitted h) rfl hcur hnone)
    (endsIn_idle (List.forall_mem_nil _) hdef) (by decide)

/-- R91, R120: the first group is one AUTO station with room, and the load station is held. -/
theorem loadTag_releases {x : Stn} (hd : s.ilk.deferred = []) (hs : BetweenEvents s)
    (hg : (((s.rcs.banks.get b).recipes.get (tagVariant m)).steps.get 0).group = 1#16 <<< x.val)
    (hx : (s.station x).mode = .auto) (hroom : (s.ptb.approach.get x).length < (s.station x).cfg.capacity)
    (hh : s.held st = true) (hres : s.fcu.restricted = false) (hpm : (s.station st).pendingMode = none)
    (hidle : ∀ y, (s.proc y).wait = .nothing) : exec (.tagReport m) s = .next (closeEvent (passOver
      (created st 0 (.release (BitVec.ofNat 16 x.val)) .routing m.pallet (routingAdmitted m st i g s)))) := by
  have hst : (routingAdmitted m st i g s).station st = { s.station st with occupant := .tracked m.pallet } :=
    admitted_station_self
  have hcom : committed (routingAdmitted m st i g s) x < ((routingAdmitted m st i g s).station x).cfg.capacity := by
    rw [committed_of_noEntries (z := routingAdmitted m st i g s) he]
    exact lt_of_lt_of_eq hroom (congrArg StationCfg.capacity (admitted_capacity (m := m) (st := st) (i := i) (g := g) x)).symm
  have hone : chooseFromGroup (routingAdmitted m st i g s)
      (((s.rcs.banks.get b).recipes.get (tagVariant m)).steps.get 0).group = some x := by
    rw [hg]
    exact chooseFromGroup_one ((admitted_mode (m := m) (st := st) (i := i) (g := g) x).trans hx) hcom
  have hcur := currentStep_admitted (m := m) (st := st) (i := i) hb hbank hlen
  have hmake := makeDue_creates (z := routingAdmitted m st i g s) (st := st) (t := m.pallet) (e := 0)
    (p := .release (BitVec.ofNat 16 x.val)) (pt := .routing) takenUp_routingAdmitted.pallet (by rw [hst]; exact hpm)
    (hasEntry_of_noEntries (z := routingAdmitted m st i g s) he st) hres
    (freeEntry_of_noEntries (z := routingAdmitted m st i g s) he)
    (entryContended_eq_false (congrArg Within.diqClaim hs) fun y => takenUp_routingAdmitted.idle (hidle y))
    (fun hc => CmdKind.noConfusion hc)
  have hheld : (created st 0 (.release (BitVec.ofNat 16 x.val)) .routing m.pallet (routingAdmitted m st i g s)).held st
      = true := by
    rw [State.held]
    change ((routingAdmitted m st i g s).station st).held = true
    rw [hst]
    exact hh
  have hend : EndsIn 2 (created st 0 (.release (BitVec.ofNat 16 x.val)) .routing m.pallet (routingAdmitted m st i g s)) []
      (closeEvent (passOver (created st 0 (.release (BitVec.ofNat 16 x.val)) .routing m.pallet (routingAdmitted m st i g s)))) :=
    endsIn_idle (l := []) (List.forall_mem_nil _) hd
  have hpromote := EndsIn.step (k := .promote 0) (promote_held created_entry hheld) hend
  exact loadTag_routed hr hl ha h0 h hf hb hgen hlen hm hbank he hw
    ((routeChoice_releases (y := pickUp st (admitted m st i g s)) hl (processRecord_routingAdmitted h) rfl hcur hone).trans
      hmake) hpromote (by decide)

end

end

section
variable {m : Msg} {st : Stn} {i : Slot} {g : Nat} {s : State}

/-- R93: a wait for a route begins. -/
def awaitingRoute (st : Stn) (y : State) : State :=
  lmnEvent .routeWaitStart (some st) none
    (y.modProc st (fun p => { p with wait := .route, waitingSince := some y.now, due := none, place := plainPlace }))

theorem waitRoute_starts {y : State} (h : (y.proc st).wait = .nothing) : waitRoute st false y = awaitingRoute st y := by
  have hne : ¬ (y.proc st).wait = .route := by
    rw [h]
    exact Wait.noConfusion
  rw [waitRoute, if_neg hne]
  rfl

theorem awaitingRoute_proc (y : State) : (awaitingRoute st y).proc st
    = { y.proc st with wait := .route, waitingSince := some y.now, due := none, place := plainPlace } := by
  change (y.modProc st _).proc st = _
  rw [State.modProc_proc, if_pos rfl]

theorem routingAdmitted_pstate : ((routingAdmitted m st i g s).proc st).pstate = .routing := by
  rw [routingAdmitted, routing, State.modProc_proc, if_pos rfl]

/-- R27, R39: the values that an admission or restart gives the record. -/
theorem freshRecord_values (m : Msg) (st : Stn) (g : Nat) (s : State) :
    let r := freshRecord s st m.pallet (tagVariant m) (rawOffset m) g
    r.tag = m.pallet ∧ r.variant.val = m.argB.toNat % 8 ∧ r.generation = g ∧ r.rstate = .present st
      ∧ r.routeCursor = 0 ∧ r.opCursor = 0 ∧ r.lastSeen = s.mga.time
      ∧ r.offset = max (-(s.ptb.offsetMax : Int)) (min (s.ptb.offsetMax : Int) m.argA.toInt)
      ∧ r.quality = { offsetLimited := decide (r.offset ≠ m.argA.toInt), rejected := false, aborted := false
                      misrouted := false } :=
  ⟨rfl, rfl, rfl, rfl, rfl, rfl, rfl, limitOffset_fst,
    congrArg (fun b => Quality.mk b false false false) (limitOffset_snd (s := s) (raw := rawOffset m))⟩

end

/-! ### A tag that is not admitted (R40, R41) -/

section
variable {s x : State} {k : FaultKind} {st : Stn} {p : Tag}

theorem freeSlot_eq_none : freeSlot s = none ↔ ∀ j, s.ptb.slots.get j ≠ none := by
  simp [freeSlot, List.find?_eq_none]

/-- What a tag leaves that becomes the unmanaged occupant of a blocked station, the pallet table being as in `x` already. -/
structure RejectedFrom (k : FaultKind) (st : Stn) (p : Tag) (s x t : State) : Prop where
  ptb : t.ptb = x.ptb
  occupied : OccupiedBy st (.unmanaged p) s t
  blocks : Blocks st t
  raises : Raises k (some st) p s t

theorem rejectedFrom_rejected (hb : x.stb = s.stb) (hf : x.fcu = s.fcu) : RejectedFrom k st p s x (rejected k st p x) where
  ptb := blockedBy_ptb (x := setOccupant st (.unmanaged p) x)
  occupied := ⟨rejected_occupied.1, fun y hy => (rejected_occupied.2 y hy).trans (by rw [State.station, hb]; rfl)⟩
  blocks := blockedBy_blocks (x := setOccupant st (.unmanaged p) x)
  raises := blockedBy_raises (x := setOccupant st (.unmanaged p) x) hf

end

/-! ### A restart, whatever way the pallet came (R38, R39) -/

section
variable {m : Msg} {st : Stn} {i : Slot} {r : Record} {g : Nat} {s : State}

theorem Raises.of_records {k : FaultKind} {o : Option Stn} {p : Tag} {t u : State} (h : Raises k o p s t)
    (hf : u.fcu.records = t.fcu.records) : Raises k o p s u := by
  simpa only [Raises, State.faultRec, hf] using h

variable (hr : ReportAt kTag m st s) (hl : st = s.stb.load) (hn : NobodyWaits s) (ha : Reads st m.pallet (reported m s))
  (h0 : m.pallet ≠ 0) (h : HasRecord m.pallet i r s) (hg : definedRecipe s (tagVariant m) = some g)
  (hm : (s.station st).mode ≠ .auto)
include hr hl hn ha h0 h hg hm

/-- R38, R39: a pallet that is at the load station starts again. -/
theorem loadTag_restarts_here (hp : r.rstate = .present st) : ∃ t, exec (.tagReport m) s = .next t
    ∧ Restarted m st i g r s (seenAgain m i r s) t := by
  have he : presentElsewhere (reported m s) m.pallet st = false := by
    rw [presentElsewhere_of_present (s := reported m s) h hp]
    exact bne_self_eq_false st
  exact (returned_seenAgain hn h hp).restarted hr hl ha h0 he (arrivalPart_seenAgain h hp) (List.forall_mem_nil _)
    (Nat.zero_le _) hg hm h

variable (hp : ∀ x, r.rstate ≠ .present x)
include hp

/-- R38, R39: a pallet that comes as intended starts again. -/
theorem loadTag_restarts_intended (hi : intendedFor r st = true) : ∃ t y, exec (.tagReport m) s = .next t
    ∧ Restarted m st i g r s y t ∧ y.fcu = s.fcu := by
  obtain ⟨y, l, hpart, hret, hfcu, hre, hlen⟩ := arrivalPart_intended hn h hp hi
  obtain ⟨t, hrun, ht⟩ := hret.restarted hr hl ha h0 (presentElsewhere_of_absent (s := reported m s) h hp) hpart hre hlen hg hm h
  exact ⟨t, y, hrun, ht, hfcu⟩

/-- R38, R39: a pallet that was on its way elsewhere starts again, MISROUTED. -/
theorem loadTag_restarts_misrouted (hi : intendedFor r st = false) : ∃ t, exec (.tagReport m) s = .next t
    ∧ Restarted m st i g r s (misroutedState m st i r s) t ∧ Raises 8 (some st) m.pallet s t := by
  obtain ⟨l, hpart, hret, hre, hlen⟩ := arrivalPart_misrouted hn h hp hi
  obtain ⟨t, hrun, ht⟩ := hret.restarted hr hl ha h0 (presentElsewhere_of_absent (s := reported m s) h hp) hpart hre hlen hg hm h
  exact ⟨t, hrun, ht, misrouted_misroutedState.raises.of_records ht.records⟩

end

section
variable {m : Msg} {st : Stn} {i : Slot} {r : Record} {g : Nat} {s y t : State} (h : Restarted m st i g r s y t)
include h

theorem Restarted.approach_transit {x : Stn} {dl : Time} (hi : HasRecord m.pallet i r s) (hp : r.rstate = .transit x dl) :
    t.ptb.approach = upd s.ptb.approach x (fun l => l.erase m.pallet) := by
  rw [h.approach, leaveOld_transit hp, hi.2.1]
  rfl

theorem Restarted.approach_kept (hp : ∀ x dl, r.rstate ≠ .transit x dl) : t.ptb.approach = s.ptb.approach := by
  rw [h.approach]
  cases hr : r.rstate with
  | present x => rw [leaveOld_present hr]
  | lost l => rw [leaveOld_lost hr]
  | transit x dl => exact absurd hr (hp x dl)

end

/-- R36, R38: the pallet was on its way to another station, or LOST on it. -/
def CameFromElsewhere (st : Stn) (r : Record) : Prop :=
  (∃ x dl, r.rstate = .transit x dl ∧ x ≠ st) ∨ ∃ l, r.rstate = .lost l ∧ l ≠ some st

/-- R35, R38: the pallet was on its way to the station, LOST on it, or there. -/
def CameAsIntended (st : Stn) (r : Record) : Prop :=
  (∃ dl, r.rstate = .transit st dl) ∨ r.rstate = .lost (some st) ∨ r.rstate = .present st

section
variable {st : Stn} {r : Record}

theorem CameFromElsewhere.notIntended (h : CameFromElsewhere st r) : intendedFor r st = false := by
  rcases h with ⟨x, dl, hp, hne⟩ | ⟨l, hp, hne⟩
  · rw [intendedFor_transit hp, decide_eq_false hne]
  · rw [intendedFor_lost hp, decide_eq_false hne]

theorem CameAsIntended.intended (h : CameAsIntended st r) (hp : ∀ x, r.rstate ≠ .present x) : intendedFor r st = true := by
  rcases h with ⟨dl, hr⟩ | hr | hr
  · rw [intendedFor_transit hr, decide_eq_true rfl]
  · rw [intendedFor_lost hr, decide_eq_true rfl]
  · exact absurd hr (hp st)

theorem not_cameFromElsewhere_of_present (h : r.rstate = .present st) : ¬ CameFromElsewhere st r := by
  rintro (⟨x, dl, hr, -⟩ | ⟨l, hr, -⟩) <;> rw [h] at hr <;> cases hr

end

/-- R38, R39: the restart and its fault, by where the pallet was. -/
theorem loadTag_restarts {m : Msg} {st : Stn} {i : Slot} {r : Record} {g : Nat} {s : State} (hr : ReportAt kTag m st s)
    (hl : st = s.stb.load) (hn : NobodyWaits s) (ha : Reads st m.pallet (reported m s)) (h0 : m.pallet ≠ 0)
    (h : HasRecord m.pallet i r s) (hg : definedRecipe s (tagVariant m) = some g) (hm : (s.station st).mode ≠ .auto)
    (hhere : ∀ x, r.rstate = .present x → x = st) : ∃ t y, exec (.tagReport m) s = .next t ∧ Restarted m st i g r s y t
      ∧ (CameFromElsewhere st r → Raises 8 (some st) m.pallet s t)
      ∧ (CameAsIntended st r → t.fcu.records = s.fcu.records) := by
  by_cases hp : r.rstate = .present st
  · obtain ⟨t, hrun, ht⟩ := loadTag_restarts_here hr hl hn ha h0 h hg hm hp
    exact ⟨t, _, hrun, ht, fun hc => absurd hc (not_cameFromElsewhere_of_present hp), fun _ => ht.records⟩
  · have habs : ∀ x, r.rstate ≠ .present x := fun x hx => hp (hhere x hx ▸ hx)
    cases hi : intendedFor r st with
    | true =>
      obtain ⟨t, y, hrun, ht, hfcu⟩ := loadTag_restarts_intended hr hl hn ha h0 h hg hm habs hi
      exact ⟨t, y, hrun, ht, fun hc => absurd (hi.symm.trans hc.notIntended) (by decide),
        fun _ => ht.records.trans (congrArg Fcu.records hfcu)⟩
    | false =>
      obtain ⟨t, hrun, ht, hraise⟩ := loadTag_restarts_misrouted hr hl hn ha h0 h hg hm habs hi
      exact ⟨t, _, hrun, ht, fun _ => hraise, fun hc => absurd (hi.symm.trans (hc.intended habs)) (by decide)⟩

end Sys2Proof.Machine

namespace Sys2Proof.Proofs
open Sys2Proof.Machine

/-- Settles O54, case by case along the block's table of the load station. -/
theorem loadStationTags : Obligations.LoadStationTags := by
  unfold Obligations.LoadStationTags
  intro m st s hs hr hd hl p raw lim fresh defined undefinedRecipe occ ours
  have hreads : ours → (occ = .tracked p → inTransit s p = false) → Reads st p (reported m s) := fun ho hin => ⟨ho, hin⟩
  have hnew : ours → NoRecord p s → Reads st p (reported m s) := fun ho h => hreads ho fun _ => inTransit_of_noRecord h
  have hpresent : ∀ {i : Slot} {r : Record} {x : Stn}, ours → HasRecord p i r s → r.rstate = .present x →
      Reads st p (reported m s) := fun ho h hp => hreads ho fun _ => by
    rw [inTransit_of_hasRecord h, listOf_of_present hp]
    rfl
  refine ⟨fun i r x dl ho h hp => ?_, fun hno ht hu => ?_, fun ho h0 h => ?_, fun i r x ho h0 h hp hx => ?_,
    fun g rc i ho h0 h hdef hi hfirst => ?_, fun g rc i r ho h0 h hhere hway hdef hm hn => ?_, fun ho h0 hund => ⟨?_, ?_⟩,
    fun ho h0 h hfull => ?_⟩
  · obtain ⟨t, hrun, hptb, hstb, hf⟩ := loadTag_departing hr hd hl ho h hp
    exact ⟨t, hrun, hptb, hstb, hf.idx, hf.fcu, hf.entries, hf.uiq⟩
  · have hb := fun k => tagBlocks_blockedBy k m st s
    refine ⟨_, loadTag_occupied hr hd hl hno ht hu, (hb _).ptb, (hb _).occupied, (hb _).blocks, fun hnone => ?_, fun hsome => ?_⟩
    · rw [record_of_noRecord hnone]
      exact (hb fStranger).raises
    · rw [if_pos (record_isSome hsome)]
      exact (hb fDuplicateTag).raises
  · have hb := tagBlocks_rejected fStranger m st s
    exact ⟨_, loadTag_stranger hr hd hl (hnew ho h) h0, hb.ptb, hb.occupied, hb.blocks, hb.raises⟩
  · have hb := tagBlocks_rejected fDuplicateTag m st s
    exact ⟨_, loadTag_duplicate hr hd hl (hpresent ho h hp) h0 h hp hx, hb.ptb, hb.occupied, hb.blocks, hb.raises⟩
  · obtain ⟨b, hb, hgen, rfl, hlen⟩ := hdef
    have hf := freeSlot_of_first hi hfirst
    refine ⟨fun hm => ?_, fun hm hbank he hps hw => ⟨fun hg => ?_, fun x hg hx hroom hh hres hpm hidle => ?_⟩⟩
    · have hkeep := (keepsTables_unblocked st (admitted m st i g s)).trans (keepsTables_closed _)
      refine ⟨_, _, loadTag_admitted hr hl (hnew ho h) h0 h hf (definedRecipe_eq_some hb hgen hlen) hd hm,
        freshRecord_values m st g s, hkeep.ptb, hkeep.stb, hkeep.uiq, ?_, ?_, ?_⟩
      · rw [closeEvent_fcu, unblocked_frame]
        rfl
      · rw [closeEvent_entries, unblocked_frame]
        rfl
      · rw [closeEvent_rcs, unblocked_frame]
        rfl
    · have hwait : ((routingAdmitted m st i g s).proc st).wait = .nothing := takenUp_routingAdmitted.nowait
      have hrun := loadTag_waitsRoute hr hl (hnew ho h) h0 h hf hb hgen hlen hm hbank he hw hd hg
      rw [waitRoute_starts hwait] at hrun
      refine ⟨_, hrun, admitted_occupied.congr fun x => by rw [State.station, closeEvent_stb]; rfl, ?_, ?_, ?_, ?_, fun e => ?_⟩
      · rw [told_proc, awaitingRoute_proc]
        exact routingAdmitted_pstate
      · rw [told_proc, awaitingRoute_proc]
        exact takenUp_routingAdmitted.pallet
      · rw [told_proc, awaitingRoute_proc]
      · rw [told_proc, awaitingRoute_proc]
        rfl
      · rw [State.entry?, told_entries]
        exact he e
    · refine ⟨_, loadTag_releases hr hl (hnew ho h) h0 h hf hb hgen hlen hm hbank he hw hd hs hg hx hroom hh hres hpm hidle,
        ?_, ?_, ?_, fun e hne => ?_⟩
      · rw [told_proc, created_proc, if_pos rfl]
        rfl
      · rw [told_proc, created_proc, if_pos rfl]
        exact takenUp_routingAdmitted.pallet
      · rw [State.entry?, told_entries]
        exact created_entry
      · rw [State.entry?, told_entries, created_entries, upd_get, if_neg hne]
        exact he e
  · obtain ⟨b, hb, hgen, rfl, hlen⟩ := hdef
    have hread : Reads st p (reported m s) := hreads ho fun hocc => by
      rw [inTransit_of_hasRecord h]
      cases hrs : r.rstate with
      | present x => rw [listOf_of_present hrs]; rfl
      | lost l => simp only [listOf, hrs]; rfl
      | transit x dl => exact absurd hocc (hway x dl hrs)
    obtain ⟨t, y, hrun, ht, hraise, hkept⟩ := loadTag_restarts hr hl hn hread h0 h (definedRecipe_eq_some hb hgen hlen) hm hhere
    exact ⟨t, _, hrun, freshRecord_values m st g s, ht.slots, ht.pendingAdm, fun x dl hp => ht.approach_transit h hp,
      ht.approach_kept, ht.occupied, ht.told, hraise, hkept, ht.rcs, ht.uiq⟩
  · rintro h ⟨j, hj⟩
    obtain ⟨i, hi⟩ := Option.ne_none_iff_exists'.1 fun hnone => freeSlot_eq_none.1 hnone j hj
    have hb := rejectedFrom_rejected (k := fVariantUndefined) (st := st) (p := p) (s := s) (x := noneAwaited (reported m s)) rfl rfl
    exact ⟨_, loadTag_undefined_new hr hd hl (hnew ho h) h0 h hi (definedRecipe_eq_none hund), hb.ptb, hb.occupied, hb.blocks,
      hb.raises⟩
  · intro i r h hp
    exact ⟨_, loadTag_undefined_held hr hd hl (hpresent ho h hp) h0 h hp (definedRecipe_eq_none hund), blockedBy_ptb,
      occupiedBy_self fun x => blockedBy_occupant x, blockedBy_blocks, blockedBy_raises rfl⟩
  · have hb := rejectedFrom_rejected (k := fPtbFull) (st := st) (p := p) (s := s)
      (x := awaiting p (tagVariant m) raw (reported m s)) rfl rfl
    exact ⟨_, loadTag_full hr hd hl (hnew ho h) h0 h (freeSlot_eq_none.2 hfull), hb.ptb, hb.occupied, hb.blocks, hb.raises⟩

end Sys2Proof.Proofs
end

section
namespace Sys2Proof.Machine

/-! ### The words of a recipe bank and their writes (R47, R48, R50)

A word of a bank is a field of an operation, a step or a recipe. At each of these levels: which word it is, what it reads after
a write to it, and that every other word is kept. -/

theorem clampNat_eq {lo hi : Nat} (h : lo ≤ hi) (n : Nat) : clampNat lo hi n = max lo (min hi n) := by
  unfold clampNat
  split_ifs <;> omega

/-! #### An operation -/

/-- R48: the three words of an operation: stop and pattern, program, limit. -/
def opWord (op : Operation) (c : Nat) : Nat :=
  if c = 0 then op.pattern.toNat + 256 * op.stop.val else if c = 1 then op.program else op.limit

/-- R48: an operation with its word `c` written. -/
def opWritten (op : Operation) (c : Nat) (v : Word) : Operation :=
  if c = 0 then { op with pattern := v.setWidth 4, stop := ⟨v.toNat / 256 % 8, Nat.mod_lt _ (by decide)⟩ }
  else if c = 1 then { op with program := min 255 v.toNat }
  else { op with limit := max 1 (min 36000 v.toNat) }

/-- R48: what the word `c` of an operation takes of a written value. -/
def opField (c v : Nat) : Nat :=
  if c = 0 then v % 16 + 256 * (v / 256 % 8) else if c = 1 then min 255 v else max 1 (min 36000 v)

theorem opWord_opWritten_self (op : Operation) (c : Nat) (v : Word) : opWord (opWritten op c v) c = opField c v.toNat := by
  unfold opWord opWritten opField
  split_ifs
  · rw [BitVec.toNat_setWidth]
  · rfl
  · rfl

theorem opWord_opWritten_of_ne (op : Operation) {c c' : Nat} (v : Word) (hc : c < 3) (hc' : c' < 3) (h : c' ≠ c) :
    opWord (opWritten op c v) c' = opWord op c' := by
  rcases (by omega : c' = 0 ∨ c' = 1 ∨ c' = 2) with rfl | rfl | rfl
  · rw [opWritten, if_neg h.symm]
    split_ifs <;> rfl
  · simp only [opWritten, if_neg h.symm]
    split_ifs <;> rfl
  · rw [opWritten]
    split_ifs
    · rfl
    · rfl
    · omega

/-! #### A route step -/

section
variable (st : RouteStep) {k : Nat} (v : Word)

theorem stepWord_op (hk : 2 ≤ k) (j : Fin 8) (hj : (k - 2) / 3 = j.val) :
    stepWord st k = some (opWord (st.ops.get j) ((k - 2) % 3)) := by
  have hlt : (k - 2) / 3 < 8 := hj ▸ j.isLt
  obtain rfl : (⟨(k - 2) / 3, hlt⟩ : Fin 8) = j := Fin.ext hj
  rw [stepWord, if_neg (by omega), if_neg (by omega), dif_pos hlt, opWord]
  dsimp only
  split
  next h => rw [if_pos h]
  next h => rw [if_neg (by omega), if_pos h]
  next h0 h1 => rw [if_neg h0, if_neg h1]

theorem stepWord_eq_none (hk : 26 ≤ k) : stepWord st k = none := by
  rw [stepWord, if_neg (by omega), if_neg (by omega), dif_neg (by omega)]

/-- R50: a step has the words 0 to 25. -/
theorem lt_of_stepWord (h : stepWord st k ≠ none) : k < 26 := by
  by_contra hk
  exact h (stepWord_eq_none st (by omega))

theorem writeStep_op (hk : 2 ≤ k) (j : Fin 8) (hj : (k - 2) / 3 = j.val) :
    writeStep st k v = { st with ops := upd st.ops j (fun op => opWritten op ((k - 2) % 3) v) } := by
  have hlt : (k - 2) / 3 < 8 := hj ▸ j.isLt
  obtain rfl : (⟨(k - 2) / 3, hlt⟩ : Fin 8) = j := Fin.ext hj
  rw [writeStep, if_neg (by omega), if_neg (by omega), dif_pos hlt]
  congr 2
  funext op
  rw [opWritten]
  split
  next h => rw [if_pos h]
  next h => rw [if_neg (by omega), if_pos h, clampNat_zero]
  next h0 h1 => rw [if_neg h0, if_neg h1, clampNat_eq (by decide)]

/-- R48: what the word `k` of a step takes of a written value. -/
def stepField (k v : Nat) : Nat :=
  if k = 0 then v else if k = 1 then min 8 v else opField ((k - 2) % 3) v

theorem stepWord_writeStep_self (hk : k < 26) : stepWord (writeStep st k v) k = some (stepField k v.toNat) := by
  rcases (by omega : k = 0 ∨ k = 1 ∨ 2 ≤ k) with rfl | rfl | h2
  · rfl
  · exact congrArg some (clampNat_zero ..)
  · have hj : (k - 2) / 3 < 8 := by omega
    rw [writeStep_op st v h2 ⟨_, hj⟩ rfl, stepWord_op _ h2 ⟨_, hj⟩ rfl, upd_get_self, opWord_opWritten_self, stepField,
      if_neg (by omega), if_neg (by omega)]

theorem writeStep_group (h : k ≠ 0) : (writeStep st k v).group = st.group := by
  rw [writeStep, if_neg h]
  split_ifs <;> rfl

theorem writeStep_count (h : k ≠ 1) : (writeStep st k v).count = st.count := by
  simp only [writeStep, if_neg h]
  split_ifs <;> rfl

theorem stepWord_writeStep_of_ne {k' : Nat} (hk : k < 26) (h : k' ≠ k) :
    stepWord (writeStep st k v) k' = stepWord st k' := by
  rcases (by omega : 26 ≤ k' ∨ k' = 0 ∨ k' = 1 ∨ 2 ≤ k' ∧ k' < 26) with h' | rfl | rfl | ⟨h', hlt'⟩
  · rw [stepWord_eq_none _ h', stepWord_eq_none _ h']
  · exact congrArg (fun g : StnSet => some g.toNat) (writeStep_group st v h.symm)
  · exact congrArg some (writeStep_count st v h.symm)
  · have hj' : (k' - 2) / 3 < 8 := by omega
    rw [stepWord_op _ h' ⟨_, hj'⟩ rfl, stepWord_op _ h' ⟨_, hj'⟩ rfl]
    rcases (by omega : k = 0 ∨ k = 1 ∨ 2 ≤ k) with rfl | rfl | h2
    · rfl
    · rfl
    · have hj : (k - 2) / 3 < 8 := by omega
      rw [writeStep_op st v h2 ⟨_, hj⟩ rfl]
      dsimp only
      rw [upd_get]
      split
      next heq =>
        have hjj : (k' - 2) / 3 = (k - 2) / 3 := Fin.mk.inj heq
        rw [heq, opWord_opWritten_of_ne _ v (by omega) (by omega) (by omega)]
      next => rfl

end

/-! #### A recipe -/

/-- R50: the word `k` of a recipe at step `n`, the header at 15. -/
def recipeWord (r : Recipe) (n k : Nat) : Option Nat :=
  if h : n < 12 then stepWord (r.steps.get ⟨n, h⟩) k else if n = 15 ∧ k = 0 then some r.len else none

/-- R47, R48: a recipe with the word `k` of step `n` written, or its route length. -/
def recipeWritten (r : Recipe) (n k : Nat) (v : Word) : Recipe :=
  if h : n < 12 then { r with steps := upd r.steps ⟨n, h⟩ (fun st => writeStep st k v) }
  else { r with len := min 12 v.toNat }

/-- R47, R48: what the word `k` at step `n` takes of a written value. -/
def recipeField (n k v : Nat) : Nat := if n < 12 then stepField k v else min 12 v

section
variable (r : Recipe) {n k : Nat} (v : Word) (h : recipeWord r n k ≠ none)
include h

/-- R50: a recipe has the words 0 to 25 of its steps and the word 0 of its header. -/
theorem recipeWord_exists : n < 12 ∧ k < 26 ∨ n = 15 ∧ k = 0 := by
  unfold recipeWord at h
  split_ifs at h with hn hh
  · exact .inl ⟨hn, lt_of_stepWord _ h⟩
  · exact .inr hh
  · exact absurd rfl h

theorem recipeWord_recipeWritten_self : recipeWord (recipeWritten r n k v) n k = some (recipeField n k v.toNat) := by
  rcases recipeWord_exists r h with ⟨hn, hk⟩ | ⟨rfl, rfl⟩
  · simp only [recipeWord, recipeWritten, recipeField, dif_pos hn, if_pos hn, upd_get_self, stepWord_writeStep_self _ v hk]
  · rfl

theorem recipeWord_recipeWritten_of_ne {n' k' : Nat} (hne : n' ≠ n ∨ k' ≠ k) :
    recipeWord (recipeWritten r n k v) n' k' = recipeWord r n' k' := by
  rcases recipeWord_exists r h with ⟨hn, hk⟩ | ⟨rfl, rfl⟩
  · rw [recipeWritten, dif_pos hn]
    unfold recipeWord
    split
    next hn' =>
      dsimp only
      rw [upd_get]
      split
      next heq =>
        have hnn : n' = n := Fin.mk.inj heq
        rw [heq, stepWord_writeStep_of_ne _ v hk (hne.resolve_left (not_not_intro hnn))]
      next => rfl
    next => rfl
  · have hno : ¬ (n' = 15 ∧ k' = 0) := fun ⟨hn', hk'⟩ => hne.elim (· hn') (· hk')
    simp only [recipeWord, if_neg hno]
    rfl

end

/-! #### A bank -/

section
variable (rs : Vector Recipe 8) {e k : Nat} (v : Word)

theorem bankWord_eq (x : Fin 8) (h : e / 16 = x.val) : bankWord rs e k = recipeWord (rs.get x) (e % 16) k := by
  have hlt : e / 16 < 8 := h ▸ x.isLt
  obtain rfl : (⟨e / 16, hlt⟩ : Fin 8) = x := Fin.ext h
  rw [bankWord, dif_pos hlt]
  rfl

theorem bankWord_eq_none (h : ¬ e / 16 < 8) : bankWord rs e k = none := dif_neg h

theorem writeRecipe_eq (x : Fin 8) (h : e / 16 = x.val) :
    writeRecipe rs e k v = upd rs x (fun r => recipeWritten r (e % 16) k v) := by
  have hlt : e / 16 < 8 := h ▸ x.isLt
  obtain rfl : (⟨e / 16, hlt⟩ : Fin 8) = x := Fin.ext h
  rw [writeRecipe, dif_pos hlt]
  simp only [clampNat_zero]
  rfl

variable {rs} (h : bankWord rs e k ≠ none)
include h

/-- R50: a word of a bank is a word of the recipe of some variant. -/
theorem bankWord_exists : ∃ x : Fin 8, e / 16 = x.val ∧ recipeWord (rs.get x) (e % 16) k ≠ none := by
  by_cases hlt : e / 16 < 8
  · refine ⟨⟨_, hlt⟩, rfl, ?_⟩
    rwa [bankWord_eq rs ⟨_, hlt⟩ rfl] at h
  · exact absurd (bankWord_eq_none rs hlt) h

/-- R47, R48: the written word reads what its field takes. -/
theorem bankWord_writeRecipe_self : bankWord (writeRecipe rs e k v) e k = some (recipeField (e % 16) k v.toNat) := by
  obtain ⟨x, hx, hr⟩ := bankWord_exists h
  rw [writeRecipe_eq rs v x hx, bankWord_eq _ x hx, upd_get_self, recipeWord_recipeWritten_self _ v hr]

/-- R51: a write keeps every word but the written one. -/
theorem bankWord_writeRecipe_of_ne {e' k' : Nat} (hne : e' ≠ e ∨ k' ≠ k) :
    bankWord (writeRecipe rs e k v) e' k' = bankWord rs e' k' := by
  obtain ⟨x, hx, hr⟩ := bankWord_exists h
  by_cases hlt : e' / 16 < 8
  · rw [writeRecipe_eq rs v x hx, bankWord_eq _ ⟨_, hlt⟩ rfl, bankWord_eq _ ⟨_, hlt⟩ rfl, upd_get]
    split
    next heq =>
      have hee : e' / 16 = e / 16 := (Fin.ext_iff.1 heq).trans hx.symm
      rw [heq, recipeWord_recipeWritten_of_ne _ v hr (by omega)]
    next => rfl
  · rw [bankWord_eq_none _ hlt, bankWord_eq_none _ hlt]

end

/-! #### The event of a write -/

/-- A row of TBL_WRITE is the row of a TBL_WRITE to the device. -/
theorem write_of_rowOf {s : State} {m : Msg} (h : isTableRow (rowOf s m) = true) (hr : rowOf s m ≠ .tblRead) :
    m.dst = s.mga.node ∧ m.kind = kTblWrite ∧ rowOf s m = writeRow (addrTable m) (addrEntry m) (addrWord m) := by
  have hno : ∀ r ∈ kindRows, isTableRow r.2 = false := by decide
  have hk : ∀ r ∈ kindRows, m.kind ≠ r.1 := by
    intro r hr hm
    rw [rowOf_of_kindRow s hr hm, hno r hr] at h
    cases h
  have ha : ∀ i, isActionRow i = true → isTableRow i = false := by intro i; cases i <;> simp [isTableRow, isActionRow]
  rw [rowOf_of_other s hk] at h hr ⊢
  split_ifs at h hr ⊢ with h1 h2 h3
  · exact absurd rfl hr
  · exact ⟨h2.1, h2.2, rfl⟩
  · rw [ha _ (isActionRow_actionRow _)] at h; cases h
  · cases h

theorem writeRow_eq_recipeWrite {t e w : Nat} (h : writeRow t e w = .recipeWrite) : t = 2 := by
  by_contra ht
  unfold writeRow at h
  split_ifs at h

/-- R50: a RECIPE_WRITE addresses a word of table 2. -/
theorem addrTable_of_recipeWrite {d : DiqItem} {s : State} (ht : Takes .recipeWrite d s) : addrTable d.msg = 2 := by
  obtain ⟨-, -, hrow, -⟩ := ht
  have hw := write_of_rowOf (by rw [hrow]; rfl) (by rw [hrow]; decide)
  exact writeRow_eq_recipeWrite (hw.2.2.symm.trans hrow)

/-- R182: an answer to a table request reads nothing of the recipe store. -/
theorem answerTable_withRcs (m : Msg) (st : Status) (v : Word) (r : Rcs) (s : State) :
    answerTable m st v { s with rcs := r } = { answerTable m st v s with rcs := r } := by
  unfold answerTable postReply
  split_ifs <;> rfl

section
variable {d : DiqItem} {s : State} {w : Nat} (hs : BetweenEvents s) (ht : Takes .recipeWrite d s) (hc : FromController d s)
  (ha : addressed s d.msg = some w)
include ht ha

/-- R50, R52: the addressed word is one of the staging bank as it reads. -/
theorem bankWord_of_recipeWrite : bankWord (shownRecipes s (stagingBank s)) (addrEntry d.msg) (addrWord d.msg) ≠ none := by
  rw [addressed, addrTable_of_recipeWrite ht] at ha
  exact ne_of_eq_of_ne ha (Option.some_ne_none w)

include hs hc

theorem recipeWrite_refused (hb : (s.rcs.banks.get (stagingBank s)).bstate = .retiring) :
    exec .recipeWrite s = .next (tableAnswered d .bankInUse 0 s) := by
  rw [exec_atWord hc ha (i := .recipeWrite) rfl (by decide) ht (fun _ _ => rfl), if_pos (by exact hb)]
  exact conclude_tableAnswer hs .bankInUse 0

theorem recipeWrite_stored (hb : (s.rcs.banks.get (stagingBank s)).bstate ≠ .retiring) :
    exec .recipeWrite s = .next
      { tableAnswered d .done (recipeField (addrEntry d.msg % 16) (addrWord d.msg) d.msg.argB.toNat) s with
        rcs := { s.rcs with banks := upd s.rcs.banks (stagingBank s) (fun x => { x with
          bstate := .staged
          recipes := writeRecipe (shownRecipes s (stagingBank s)) (addrEntry d.msg) (addrWord d.msg) d.msg.argB }) } } := by
  have hself := bankWord_writeRecipe_self d.msg.argB (bankWord_of_recipeWrite ht ha)
  rw [exec_atWord hc ha (i := .recipeWrite) rfl (by decide) ht (fun _ _ => rfl), if_neg (by exact hb)]
  have hshown : shownRecipes (removeDiq d s) (stagingBank (removeDiq d s)) = shownRecipes s (stagingBank s) := rfl
  simp only [hshown, hself, Option.getD_some]
  refine (conclude_only_clear ?_).trans (congrArg _ (answerTable_withRcs ..))
  simpa [writeDone, removeDiq] using hs

end
end Sys2Proof.Machine

namespace Sys2Proof.Proofs
open Sys2Proof.Machine

/-- Settles O22: the written bank reads what the field takes at the written word and as before at every other; which field that
is follows from the word. -/
theorem recipeWritesStoreOneWord : Obligations.RecipeWritesStoreOneWord := by
  intro d s w hs ht hc ha b e k v
  refine ⟨recipeWrite_refused hs ht hc ha, fun hb => ⟨_, _, recipeWrite_stored hs ht hc ha hb, ?_⟩⟩
  have hword := bankWord_of_recipeWrite ht ha
  refine ⟨bankWord_writeRecipe_self _ hword, fun e' k' hne => bankWord_writeRecipe_of_ne _ hword hne,
    fun h15 => ?_, fun hn h0 => ?_, fun hn h1 => ?_, fun hn h2 hm => ?_, fun hn h2 hm => ?_, fun hn h2 hm => ?_⟩
  · exact if_neg (by omega)
  all_goals rw [recipeField, if_pos (by exact hn), stepField]
  · rw [if_pos (by exact h0)]
  · rw [if_neg (by omega), if_pos (by exact h1)]
  all_goals rw [if_neg (by omega), if_neg (by omega), opField]
  · rw [if_pos (by omega)]
  · rw [if_neg (by omega), if_pos (by omega)]
  · rw [if_neg (by omega), if_neg (by omega)]

end Sys2Proof.Proofs
end

section
namespace Sys2Proof.Machine

/-! ### COMMIT and DISCARD (R49, R52 to R57) -/

/-! #### The states of the two banks -/

theorem otherBank_ne (b : Fin 2) : otherBank b ≠ b := by
  revert b
  decide

theorem eq_otherBank_of_ne {b x : Fin 2} (h : x ≠ b) : x = otherBank b := by
  revert b x
  decide

section
variable {s t : State} {b x : Fin 2} {k : BankState}

theorem bstate_of_bankIn (h : bankIn s k = some x) : (s.rcs.banks.get x).bstate = k := by
  simpa using List.find?_some h

theorem bankIn_eq_none : bankIn s k = none ↔ ∀ x, (s.rcs.banks.get x).bstate ≠ k := by
  simp [bankIn]

/-- R49: where one of the two banks is not in a state, only the other can be. -/
theorem bankIn_of_ne (h : (s.rcs.banks.get b).bstate ≠ k) :
    bankIn s k = if (s.rcs.banks.get (otherBank b)).bstate = k then some (otherBank b) else none := by
  cases hx : bankIn s k with
  | none => exact (if_neg (bankIn_eq_none.1 hx _)).symm
  | some x =>
    have hk := bstate_of_bankIn hx
    obtain rfl : x = otherBank b := eq_otherBank_of_ne fun hxb => h (hxb ▸ hk)
    exact (if_pos hk).symm

theorem activeBank_of_other (h : (s.rcs.banks.get b).bstate ≠ .active)
    (ho : (s.rcs.banks.get (otherBank b)).bstate = .active) : activeBank s = some (otherBank b) :=
  (bankIn_of_ne h).trans (if_pos ho)

theorem activeBank_of_neither (h : (s.rcs.banks.get b).bstate ≠ .active)
    (ho : (s.rcs.banks.get (otherBank b)).bstate ≠ .active) : activeBank s = none :=
  (bankIn_of_ne h).trans (if_neg ho)

theorem activeBank_congr (h : ∀ x, (t.rcs.banks.get x).bstate = .active ↔ (s.rcs.banks.get x).bstate = .active) :
    activeBank t = activeBank s := by
  have hb : ∀ x, ((t.rcs.banks.get x).bstate == .active) = ((s.rcs.banks.get x).bstate == .active) := fun x => by
    rw [Bool.eq_iff_iff, beq_iff_eq, beq_iff_eq, h]
  simp only [activeBank, bankIn, hb]

/-- R52: an EMPTY bank reads as the ACTIVE one. -/
theorem shownRecipes_of_empty (hb : (s.rcs.banks.get b).bstate = .empty) (h : activeBank s = some x) :
    shownRecipes s b = (s.rcs.banks.get x).recipes := by
  simp only [shownRecipes, hb, if_true, h]

/-- R52: an EMPTY bank reads cleared while none is ACTIVE. -/
theorem shownRecipes_of_noActive (hb : (s.rcs.banks.get b).bstate = .empty) (h : activeBank s = none) :
    shownRecipes s b = clearedRecipes := by
  simp only [shownRecipes, hb, if_true, h]

end

/-! #### An action on the staging bank (R53 to R55) -/

/-- R53 to R55: what COMMIT and DISCARD share: the staging bank must be STAGED. -/
def onStaging (r : Msg → State → Eff) (m : Msg) (s : State) : Eff :=
  match (s.rcs.banks.get (stagingBank s)).bstate with
  | .staged => r m s
  | .empty => reply m .nothing 0 s
  | _ => reply m .bankInUse 0 s

/-- R53: DISCARD of a STAGED bank. -/
def discardStaged (m : Msg) (s : State) : Eff :=
  only { answerAction m .done 0 s with
    rcs := { (answerAction m .done 0 s).rcs with
      banks := upd (answerAction m .done 0 s).rcs.banks (stagingBank s) (fun x => { x with bstate := .empty }) } }

theorem discardBody_eq (m : Msg) (s : State) : discardBody m s = fromController m s (onStaging discardStaged m s) := rfl

/-- R54 to R57: COMMIT of a STAGED bank. -/
def commitStaged (m : Msg) (s : State) : Eff :=
  match recipesFault s 0 (s.rcs.banks.get (stagingBank s)).recipes.toList with
  | some n => reply m .badRecipe n s
  | none => only (notice .committed 255 0 (stagingBank s).val (activate (stagingBank s) (nextGeneration s.rcs.genCounter)
      (answerAction m .done (BitVec.ofNat 16 (nextGeneration s.rcs.genCounter)) s)))

theorem commitBody_eq (m : Msg) (s : State) : commitBody m s = fromController m s (onStaging commitStaged m s) := rfl

section
variable {d : DiqItem} {s : State} {i : Instr} {body r : Msg → State → Eff}
  (hr : ∀ m x, body m x = fromController m x (onStaging r m x)) (hi : bodyOf i = some body) (hn : i ≠ .setTime)
  (ht : Takes i d s) (hc : FromController d s)
include hr hi hn ht hc

theorem exec_onStaging : exec i s = conclude (onStaging r d.msg (removeDiq d s)) :=
  exec_fromController hi hn ht hc hr

theorem exec_onStaging_staged (hb : (s.rcs.banks.get (stagingBank s)).bstate = .staged) :
    exec i s = conclude (r d.msg (removeDiq d s)) := by
  have hb' : ((removeDiq d s).rcs.banks.get (stagingBank (removeDiq d s))).bstate = .staged := hb
  rw [exec_onStaging hr hi hn ht hc]
  simp only [onStaging, hb']

theorem exec_onStaging_empty (hs : BetweenEvents s) (hb : (s.rcs.banks.get (stagingBank s)).bstate = .empty) :
    exec i s = .next (answered d .nothing 0 s) := by
  have hb' : ((removeDiq d s).rcs.banks.get (stagingBank (removeDiq d s))).bstate = .empty := hb
  rw [exec_onStaging hr hi hn ht hc]
  simp only [onStaging, hb']
  exact conclude_answer hs .nothing 0

theorem exec_onStaging_retiring (hs : BetweenEvents s) (hb : (s.rcs.banks.get (stagingBank s)).bstate = .retiring) :
    exec i s = .next (answered d .bankInUse 0 s) := by
  have hb' : ((removeDiq d s).rcs.banks.get (stagingBank (removeDiq d s))).bstate = .retiring := hb
  rw [exec_onStaging hr hi hn ht hc]
  simp only [onStaging, hb']
  exact conclude_answer hs .bankInUse 0

end

/-! #### DISCARD (R53) -/

section
variable {d : DiqItem} {s : State} (hs : BetweenEvents s) (ht : Takes .discard d s) (hc : FromController d s)

/-- R53: the state after an accepted DISCARD. -/
def discarded (d : DiqItem) (s : State) : State :=
  { answered d .done 0 s with
    rcs := { s.rcs with banks := upd s.rcs.banks (stagingBank s) (fun x => { x with bstate := .empty }) } }

theorem discarded_get_staging :
    (discarded d s).rcs.banks.get (stagingBank s) = { s.rcs.banks.get (stagingBank s) with bstate := .empty } :=
  upd_get_self ..

theorem discarded_get_of_ne {x : Fin 2} (h : x ≠ stagingBank s) : (discarded d s).rcs.banks.get x = s.rcs.banks.get x :=
  upd_get_ne _ _ h

theorem activeBank_discarded (hb : (s.rcs.banks.get (stagingBank s)).bstate = .staged) :
    activeBank (discarded d s) = activeBank s := by
  refine activeBank_congr fun x => ?_
  by_cases hx : x = stagingBank s
  · subst hx
    simp [discarded_get_staging, hb]
  · rw [discarded_get_of_ne hx]

theorem shownRecipes_discarded_of_active {a : Fin 2} (hb : (s.rcs.banks.get (stagingBank s)).bstate = .staged)
    (ha : activeBank s = some a) : shownRecipes (discarded d s) (stagingBank s) = (s.rcs.banks.get a).recipes := by
  have hne : a ≠ stagingBank s := by
    rintro rfl
    exact absurd (hb.symm.trans (bstate_of_bankIn ha)) (by decide)
  rw [shownRecipes_of_empty (by rw [discarded_get_staging]) ((activeBank_discarded hb).trans ha), discarded_get_of_ne hne]

theorem shownRecipes_discarded_of_none (hb : (s.rcs.banks.get (stagingBank s)).bstate = .staged) (ha : activeBank s = none) :
    shownRecipes (discarded d s) (stagingBank s) = clearedRecipes :=
  shownRecipes_of_noActive (by rw [discarded_get_staging]) ((activeBank_discarded hb).trans ha)

include hs ht hc

theorem exec_discard_staged (hb : (s.rcs.banks.get (stagingBank s)).bstate = .staged) :
    exec .discard s = .next (discarded d s) := by
  rw [exec_onStaging_staged discardBody_eq rfl (by decide) ht hc hb, discardStaged, answerAction_rcs]
  exact conclude_only_clear ((answerAction_ev ..).trans hs)

end

/-! #### The validation (R54): it reads only the designations -/

section
variable {s t : State} (h : t.stb = s.stb)
include h

theorem stepFault_congr (k : RouteStep) : stepFault t k = stepFault s k := by
  simp only [stepFault, h]

theorem stepsFault_congr (ks : List RouteStep) : ∀ n, stepsFault t n ks = stepsFault s n ks := by
  induction ks with
  | nil => exact fun _ => rfl
  | cons k ks ih => simp only [stepsFault, stepFault_congr h, ih, implies_true]

theorem recipesFault_congr (rs : List Recipe) : ∀ v, recipesFault t v rs = recipesFault s v rs := by
  induction rs with
  | nil => exact fun _ => rfl
  | cons r rs ih => simp only [recipesFault, stepsFault_congr h, ih, implies_true]

end

/-! #### The change of the banks (R56) -/

section
variable {s : State} {b : Fin 2} {g : Nat}

/-- R182: the change of the banks reads nothing of the queues. -/
theorem activate_answerAction (m : Msg) (st : Status) (v : Word) : activate b g (answerAction m st v s)
    = { answerAction m st v s with rcs := (activate b g s).rcs, fcu := (activate b g s).fcu } := by
  unfold answerAction postReply
  split_ifs <;> rfl

variable (hb : (s.rcs.banks.get b).bstate ≠ .active)
include hb

/-- R56: the bank that was ACTIVE becomes RETIRING with its check value while a record carries its generation. -/
theorem activate_carried (ho : (s.rcs.banks.get (otherBank b)).bstate = .active) (hn : 0 < carrierCount s (otherBank b)) :
    (activate b g s).rcs.banks.get (otherBank b) = { s.rcs.banks.get (otherBank b) with bstate := .retiring }
    ∧ (activate b g s).fcu.checks.retiring = s.fcu.checks.active := by
  simp [activate, activeBank_of_other hb ho, Nat.ne_of_gt hn, upd_get, otherBank_ne]

/-- R56: it becomes EMPTY where no record does. -/
theorem activate_uncarried (ho : (s.rcs.banks.get (otherBank b)).bstate = .active) (hn : carrierCount s (otherBank b) = 0) :
    (activate b g s).rcs.banks.get (otherBank b) = { s.rcs.banks.get (otherBank b) with bstate := .empty, generation := none }
    ∧ (activate b g s).fcu.checks.retiring = none := by
  simp [activate, activeBank_of_other hb ho, hn, upd_get, otherBank_ne]

/-- R56: where no bank was ACTIVE the other one is kept. -/
theorem activate_first (ho : (s.rcs.banks.get (otherBank b)).bstate ≠ .active) :
    (activate b g s).rcs.banks.get (otherBank b) = s.rcs.banks.get (otherBank b)
    ∧ (activate b g s).fcu.checks.retiring = none := by
  simp [activate, activeBank_of_neither hb ho, upd_get, otherBank_ne]

/-- R56, R57: the committed bank is ACTIVE under the new generation. -/
theorem activate_get_self :
    (activate b g s).rcs.banks.get b = { s.rcs.banks.get b with bstate := .active, generation := some g } := by
  by_cases ho : (s.rcs.banks.get (otherBank b)).bstate = .active
  · by_cases hn : carrierCount s (otherBank b) = 0 <;>
      simp [activate, activeBank_of_other hb ho, hn, upd_get, (otherBank_ne b).symm]
  · simp [activate, activeBank_of_neither hb ho]

end

/-! #### COMMIT (R54 to R57) -/

section
variable {d : DiqItem} {s : State} (hs : BetweenEvents s) (ht : Takes .commit d s) (hc : FromController d s)

/-- R56: the state after an accepted COMMIT, before its event is told. -/
def bankCommitted (d : DiqItem) (s : State) : State :=
  { answered d .done (nextGeneration s.rcs.genCounter) s with
    rcs := (activate (stagingBank s) (nextGeneration s.rcs.genCounter) s).rcs
    fcu := (activate (stagingBank s) (nextGeneration s.rcs.genCounter) s).fcu }

include hs ht hc

theorem exec_commit_invalid {n : Nat} (hb : (s.rcs.banks.get (stagingBank s)).bstate = .staged)
    (hf : recipesFault s 0 (s.rcs.banks.get (stagingBank s)).recipes.toList = some n) :
    exec .commit s = .next (answered d .badRecipe n s) := by
  have hf' : recipesFault (removeDiq d s) 0 ((removeDiq d s).rcs.banks.get (stagingBank (removeDiq d s))).recipes.toList
      = some n := (recipesFault_congr (t := removeDiq d s) (s := s) rfl _ 0).trans hf
  rw [exec_onStaging_staged commitBody_eq rfl (by decide) ht hc hb, commitStaged, hf']
  exact conclude_answer hs .badRecipe n

theorem exec_commit_valid (hb : (s.rcs.banks.get (stagingBank s)).bstate = .staged)
    (hf : recipesFault s 0 (s.rcs.banks.get (stagingBank s)).recipes.toList = none) :
    exec .commit s = .next (closeEvent (notice .committed 255 0 (stagingBank s).val (bankCommitted d s))) := by
  have hf' : recipesFault (removeDiq d s) 0 ((removeDiq d s).rcs.banks.get (stagingBank (removeDiq d s))).recipes.toList
      = none := (recipesFault_congr (t := removeDiq d s) (s := s) rfl _ 0).trans hf
  have hev : (bankCommitted d s).ev = clearWithin := (answerAction_ev ..).trans hs
  rw [exec_onStaging_staged commitBody_eq rfl (by decide) ht hc hb, commitStaged, hf']
  simp only [activate_answerAction]
  exact conclude_only (by rw [notice_ev_passDue]; exact congrArg Within.passDue hev)

end
end Sys2Proof.Machine

namespace Sys2Proof.Proofs
open Sys2Proof.Machine

/-- Settles O32: DISCARD and COMMIT by the state of the staging bank; the banks after an accepted COMMIT by what becomes of
the one that was ACTIVE. -/
theorem commitAndDiscard : Obligations.CommitAndDiscard := by
  unfold Obligations.CommitAndDiscard
  constructor
  · intro d s hs ht hc b
    refine ⟨fun hb => ⟨discarded d s, exec_discard_staged hs ht hc hb, rfl, ?_⟩,
      exec_onStaging_empty discardBody_eq rfl (by decide) ht hc hs,
      exec_onStaging_retiring discardBody_eq rfl (by decide) ht hc hs⟩
    cases ha : activeBank s with
    | none => exact shownRecipes_discarded_of_none hb ha
    | some a => exact shownRecipes_discarded_of_active hb ha
  · intro d s hs ht hc b o bank g
    refine ⟨exec_onStaging_empty commitBody_eq rfl (by decide) ht hc hs,
      exec_onStaging_retiring commitBody_eq rfl (by decide) ht hc hs, fun n => exec_commit_invalid hs ht hc,
      fun hb hf => ⟨bankCommitted d s, exec_commit_valid hs ht hc hb hf, ?_⟩⟩
    have hna : (s.rcs.banks.get b).bstate ≠ .active := ne_of_eq_of_ne hb (by decide)
    exact ⟨rfl, rfl, rfl, activate_get_self hna, activate_carried hna, activate_uncarried hna, activate_first hna⟩

end Sys2Proof.Proofs
end

section
namespace Sys2Proof.Machine

/-! ### The referenced flags under the steps of effects (R70) -/

/-- R70: the referenced flag of a station of the table. -/
def Stb.referenced (b : Stb) (x : Stn) : Bool := (b.stn.get x).referenced

theorem station_referenced (s : State) (x : Stn) : (s.station x).referenced = s.stb.referenced x := rfl

section
variable (x : Stn) (s : State)

/-- A change of one station that leaves its flag. -/
@[simp] theorem upd_referenced (b : Stb) (st : Stn) {f : Station → Station} (l : Stn) (w : Option Stn)
    (h : ∀ r, (f r).referenced = r.referenced) :
    (Stb.mk (upd b.stn st f) l w).referenced x = b.referenced x := by
  simp only [Stb.referenced, upd_get]
  split
  next hx => rw [h, hx]
  next => rfl

@[simp] theorem map_referenced (b : Stb) {f : Station → Station} (l : Stn) (w : Option Stn)
    (h : ∀ r, (f r).referenced = r.referenced) :
    (Stb.mk (b.stn.map f) l w).referenced x = b.referenced x := by
  simp [Stb.referenced, Vector.get, h]

@[simp] theorem setCounters_stb (cs : Vector Counter 8) : (s.setCounters cs).stb = s.stb := rfl

@[simp] theorem insertEntry_stb (e : EntryNo) (en : Entry) : (insertEntry e en s).stb = s.stb := rfl

@[simp] theorem refuse_stb (m : Msg) (r : Status) (d : Nat) : (refuse m r d s).stb = s.stb := by simp [refuse]

@[simp] theorem refuseHeld_stb (m : Msg) (r : Status) (st : Stn) : (refuseHeld m r st s).stb = s.stb := by simp [refuseHeld]

@[simp] theorem refuseEntry_stb (en : Entry) (r : Status) (d : Nat) : (refuseEntry en r d s).stb = s.stb := by
  simp [refuseEntry]

@[simp] theorem removeDiq_stb (d : DiqItem) : (removeDiq d s).stb = s.stb := rfl

@[simp] theorem startSending_stb (e : EntryNo) : (startSending e s).stb = s.stb := by
  obtain ⟨q, hq, -⟩ := startSending_eq e s
  rw [hq]
  rfl

@[simp] theorem dropDeferred_stb (e : EntryNo) : (dropDeferred e s).stb = s.stb := rfl

@[simp] theorem enterStalled_stb (st : Stn) (d : Nat) : (enterStalled st d s).stb = s.stb := by simp [enterStalled]

@[simp] theorem enterBlocked_stb (st : Stn) : (enterBlocked st s).stb = s.stb := rfl

@[simp] theorem modRecord_stb (t : Tag) (f : Record → Record) : (modRecord t f s).stb = s.stb := by
  unfold modRecord; split <;> rfl

/-! #### Holds, zones and faults -/

theorem changeHolds_referenced {f : Stn → Station → Station} (h : ∀ i r, (f i r).referenced = r.referenced) :
    (changeHolds f s).1.stb.referenced x = s.stb.referenced x :=
  (congrArg Station.referenced (changeHolds_station f s x)).trans (h _ _)

@[simp] theorem endHolds_stb (r : State × StnSet) (byResume : Bool) : (endHolds r byResume).1.stb = r.1.stb := by
  unfold endHolds; split <;> rfl

theorem setTrap_referenced (z : Zone) (on : Bool) (i : Stn) (r : Station) : (setTrap z on i r).referenced = r.referenced := by
  unfold setTrap; split <;> rfl

theorem stopStation_referenced (k : FaultKind) (st i : Stn) (r : Station) :
    (stopStation k st i r).referenced = r.referenced := by
  unfold stopStation; split <;> rfl

@[simp] theorem zoneAdd_referenced (z : Zone) (c : ZoneCauses) :
    (zoneAdd z c s).stb.referenced x = s.stb.referenced x := by
  unfold zoneAdd; dsimp only; split <;> simp [changeHolds_referenced, setTrap_referenced]

@[simp] theorem zoneRemove_referenced (z : Zone) (c : ZoneCauses) :
    (zoneRemove z c s).1.stb.referenced x = s.stb.referenced x := by
  unfold zoneRemove; dsimp only; split <;> simp [only, changeHolds_referenced, setTrap_referenced]

@[simp] theorem lineTrap_referenced (k : FaultKind) : (lineTrap k s).stb.referenced x = s.stb.referenced x := by
  simp [lineTrap, trapForFault]

@[simp] theorem react_referenced (k : FaultKind) (l : Level) (st : Option Stn) :
    (react k l st s).stb.referenced x = s.stb.referenced x := by
  unfold react
  split <;> simp [changeHolds_referenced, stopStation_referenced, trapForFault]

@[simp] theorem occur_referenced (k : FaultKind) (st : Option Stn) (p : Tag) :
    (occur k st p s).stb.referenced x = s.stb.referenced x := by simp [occur]

/-! #### The motion request table -/

@[simp] theorem promote_stb (e : EntryNo) : (promote e s).1.stb = s.stb := by
  unfold promote
  dsimp only
  repeat' split
  all_goals simp [only]

@[simp] theorem removeEntry_stb (e : EntryNo) (en : Entry) (how : Ending) : (removeEntry e en how s).stb = s.stb := by
  unfold removeEntry; dsimp only; split <;> rfl

@[simp] theorem freeEntryStep_referenced (e : EntryNo) (how : Ending) :
    (freeEntryStep e how s).1.stb.referenced x = s.stb.referenced x := by
  unfold freeEntryStep
  dsimp only
  repeat' split
  all_goals simp [only]

@[simp] theorem reportEnding_stb (en : Entry) (how : Ending) : (reportEnding en how s).1.stb = s.stb := by
  unfold reportEnding; split <;> simp [only]

@[simp] theorem promoteSuccessor_stb (st : Stn) : (promoteSuccessor st s).1.stb = s.stb := by
  unfold promoteSuccessor; split <;> rfl

@[simp] theorem afterLastEntry_referenced (st : Stn) : (afterLastEntry st s).1.stb.referenced x = s.stb.referenced x := by
  unfold afterLastEntry
  dsimp only
  repeat' split
  all_goals simp [only]

@[simp] theorem judgeItem_stb (it : DeferItem) : (judgeItem it s).1.stb = s.stb := by
  unfold judgeItem
  dsimp only
  repeat' split
  all_goals simp [only]

/-! #### The dispatcher -/

@[simp] theorem makeDue_stb (st : Stn) (p : Params) (pt : DuePoint) (granted keep : Bool) :
    (makeDue st p pt granted keep s).1.stb = s.stb := by
  unfold makeDue
  dsimp only
  repeat' split
  all_goals rfl

@[simp] theorem evalOperation_stb (st : Stn) (granted : Bool) : (evalOperation st granted s).1.stb = s.stb := by
  unfold evalOperation
  dsimp only
  repeat' split
  all_goals simp [only]

@[simp] theorem runSettle_stb (st : Stn) : (runSettle st s).1.stb = s.stb := by
  simp [runSettle, only, apply_ite Prod.fst]

@[simp] theorem waitRoute_stb (st : Stn) (keep : Bool) : (waitRoute st keep s).stb = s.stb := by
  unfold waitRoute; dsimp only; split <;> rfl

@[simp] theorem routeChoice_stb (st : Stn) (granted keep : Bool) : (routeChoice st granted keep s).1.stb = s.stb := by
  unfold routeChoice
  dsimp only
  repeat' split
  all_goals simp [only]

@[simp] theorem recordCycle_stb (st : Stn) (t : Tag) (op : Nat) (r : CycleResult) :
    (recordCycle st t op r s).1.stb = s.stb := by
  unfold recordCycle
  dsimp only
  repeat' split
  all_goals simp

@[simp] theorem unclampDone_stb (st : Stn) (granted : Bool) : (unclampDone st granted s).1.stb = s.stb := by
  unfold unclampDone
  dsimp only
  repeat' split
  all_goals simp

@[simp] theorem enterUnclamp_stb (st : Stn) (granted : Bool) : (enterUnclamp st granted s).1.stb = s.stb := by
  unfold enterUnclamp; dsimp only; split <;> simp

@[simp] theorem evalHoming_stb (st : Stn) (granted : Bool) : (evalHoming st granted s).1.stb = s.stb := by
  unfold evalHoming
  dsimp only
  repeat' split
  all_goals simp [only]

@[simp] theorem settleOver_stb (st : Stn) : (settleOver st s).1.stb = s.stb := by
  unfold settleOver
  split
  · simp
  · unfold stayInOrder; dsimp only; split <;> simp

@[simp] theorem reevaluate_stb (st : Stn) (granted : Bool) : (reevaluate st granted s).1.stb = s.stb := by
  unfold reevaluate; split <;> simp [only]

@[simp] theorem takeUp_stb (st : Stn) (keep : Bool) : (takeUp st keep s).1.stb = s.stb := by
  unfold takeUp
  dsimp only
  repeat' split
  all_goals simp [only]

@[simp] theorem onArrival_stb (st : Stn) : (onArrival st s).1.stb = s.stb := by unfold onArrival; split <;> rfl

@[simp] theorem onAdmission_stb (st : Stn) : (onAdmission st s).1.stb = s.stb := by
  unfold onAdmission
  dsimp only
  repeat' split
  all_goals rfl

@[simp] theorem failProcess_stb (st : Stn) : (failProcess st s).1.stb = s.stb := by
  unfold failProcess; dsimp only; split <;> simp [only]

@[simp] theorem onOutcome_stb (en : Entry) (how : Ending) : (onOutcome en how s).1.stb = s.stb := by
  unfold onOutcome onCycle
  dsimp only
  repeat' split
  all_goals simp [only, startSettle]

@[simp] theorem onEntryLeft_stb (st : Stn) : (onEntryLeft st s).1.stb = s.stb := by
  unfold onEntryLeft
  dsimp only
  repeat' split
  all_goals rfl

@[simp] theorem applyMode_referenced (st : Stn) (m : Mode) : (applyMode st m s).1.stb.referenced x = s.stb.referenced x := by
  unfold applyMode
  dsimp only
  repeat' split
  all_goals simp

@[simp] theorem holdEndedIdx_stb (st : Stn) (byResume : Bool) : (holdEndedIdx st byResume s).1.stb = s.stb := by
  unfold holdEndedIdx
  dsimp only
  repeat' split
  all_goals simp [only]

@[simp] theorem onGone_stb (st : Stn) : (onGone st s).stb = s.stb := by
  unfold onGone
  dsimp only
  repeat' split
  all_goals simp

/-! #### Requests and the arbiter -/

@[simp] theorem requestBody_stb (m : Msg) : (requestBody m s).1.stb = s.stb := by
  unfold requestBody acceptCommand createController
  repeat' split
  all_goals simp [only, forward, pushDeq]

@[simp] theorem indexBody_stb (m : Msg) : (indexBody m s).1.stb = s.stb := by
  unfold indexBody createController
  dsimp only
  repeat' split
  all_goals simp [only]

@[simp] theorem arbitrate_stb : (arbitrate s).1.stb = s.stb := by
  unfold arbitrate grantDiq grantStation
  dsimp only
  repeat' split
  all_goals simp [only]

/-! #### The pallet table -/

@[simp] theorem leaveOld_stb (r : Record) : (leaveOld r s).stb = s.stb := by unfold leaveOld; split <;> rfl

@[simp] theorem setOccupant_referenced (st : Stn) (o : Occupant) :
    (setOccupant st o s).stb.referenced x = s.stb.referenced x := by simp [setOccupant]

@[simp] theorem becomePresent_referenced (st : Stn) (t : Tag) :
    (becomePresent st t s).stb.referenced x = s.stb.referenced x := by simp [becomePresent]

@[simp] theorem sendToward_referenced (t : Tag) (r : Record) (dest : Word) :
    (sendToward t r dest s).1.stb.referenced x = s.stb.referenced x := by
  unfold sendToward
  dsimp only
  repeat' split
  all_goals simp

@[simp] theorem releaseTransmitted_referenced (st : Stn) (dest : Word) :
    (releaseTransmitted st dest s).1.stb.referenced x = s.stb.referenced x := by
  unfold releaseTransmitted; split <;> simp

@[simp] theorem releaseFailed_stb (en : Entry) : (releaseFailed en s).1.stb = s.stb := by
  unfold releaseFailed
  repeat' split
  all_goals simp [only]

@[simp] theorem transitExpired_referenced (r : Record) (d : Stn) :
    (transitExpired r d s).1.stb.referenced x = s.stb.referenced x := by simp [transitExpired, leaveList]

@[simp] theorem tagElsewhere_referenced (st : Stn) (t : Tag) :
    (tagElsewhere st t s).1.stb.referenced x = s.stb.referenced x := by
  unfold tagElsewhere tagReRead arriveIntended arriveMisrouted
  dsimp only
  repeat' split
  all_goals simp [only, tagOccupied, tagStranger, tagDuplicate, leaveList]

@[simp] theorem admissionPart_referenced (st : Stn) (t : Tag) (v : Fin 8) (raw : Int) (wasHere : Bool) :
    (admissionPart st t v raw wasHere s).1.stb.referenced x = s.stb.referenced x := by
  unfold admissionPart restart admitPallet variantUndefined
  dsimp only
  repeat' split
  all_goals simp [only]

@[simp] theorem arrivalPart_referenced (st : Stn) (t : Tag) :
    (arrivalPart st t s).1.stb.referenced x = s.stb.referenced x := by
  unfold arrivalPart arriveIntended arriveMisrouted
  dsimp only
  repeat' split
  all_goals simp [only, leaveList]

@[simp] theorem tagAtLoad_referenced (st : Stn) (t : Tag) (v : Fin 8) (raw : Int) :
    (tagAtLoad st t v raw s).1.stb.referenced x = s.stb.referenced x := by
  unfold tagAtLoad
  dsimp only
  split_ifs <;> simp [only, tagOccupied, tagStranger, tagDuplicate]

@[simp] theorem retryAdmission_referenced : (retryAdmission s).1.stb.referenced x = s.stb.referenced x := by
  unfold retryAdmission; split <;> simp [only]

@[simp] theorem goneOccupant_referenced (st : Stn) : (goneOccupant st s).stb.referenced x = s.stb.referenced x := by
  unfold goneOccupant
  dsimp only
  repeat' split
  all_goals simp

@[simp] theorem retireBank_stb (t : Tag) : (retireBank t s).stb = s.stb := by
  unfold retireBank
  repeat' split
  all_goals simp

/-- R70: no step of effects changes a referenced flag. -/
theorem perform_referenced (t : Task) : (perform t s).1.stb.referenced x = s.stb.referenced x := by
  cases t <;> simp [perform, only, reroute, routeTry, holdEnded, deferPass, apply_ite Prod.fst, apply_ite State.stb]

end
end Sys2Proof.Machine
end

section
namespace Sys2Proof.Machine

/-! ### The referenced flags under the commands (R70) -/

section
variable {x : Stn} {s t : State}

/-- R70: the station has no reference. -/
def Unreferenced (x : Stn) (s : State) : Prop := s.stb.referenced x = false

theorem Unreferenced.of_eq (h : Unreferenced x s) (he : t.stb.referenced x = s.stb.referenced x) : Unreferenced x t :=
  he.trans h

theorem Unreferenced.of_stb (h : Unreferenced x s) (he : t.stb = s.stb) : Unreferenced x t := h.of_eq (by rw [he])

/-- R70: the loss of a reference gives none. -/
theorem clearReference_unreferenced (st : Stn) (h : Unreferenced x s) : Unreferenced x (clearReference st s) := by
  have hlost : ∀ y, (refLost st y).stb = y.stb := fun y => by unfold refLost; split <;> simp
  unfold clearReference
  split
  · refine Unreferenced.of_stb ?_ (hlost _)
    change ((s.modStn st _).station x).referenced = false
    rw [State.modStn_station]
    split
    · rfl
    · exact h
  · exact h

theorem clearReference_if_unreferenced {c : Prop} [Decidable c] (st : Stn) (h : Unreferenced x s) :
    Unreferenced x (if c then clearReference st s else s) := by
  split
  · exact clearReference_unreferenced st h
  · exact h

theorem conclude_unreferenced {r : Eff} (h : Unreferenced x r.1) (he : conclude r = .next t) : Unreferenced x t :=
  conclude_keeps (fun k _ hs => hs.of_eq (perform_referenced x _ k)) he h

theorem whenOut_unreferenced {cond : Bool} {r : Unit → Eff} (h : Unreferenced x s) (hr : Unreferenced x (r ()).1)
    (he : whenOut s cond r = .next t) : Unreferenced x t := by
  rcases whenOut_cases s cond r with ⟨-, -, hw⟩ | hw
  · exact conclude_unreferenced hr (hw.symm.trans he)
  · rw [hw] at he
    cases he
    exact h

/-- An event whose own effect leaves the flags. -/
theorem whenOut_leaves_reference {cond : Bool} {r : Unit → Eff} (h : Unreferenced x s)
    (hr : (r ()).1.stb.referenced x = s.stb.referenced x) (he : whenOut s cond r = .next t) : Unreferenced x t :=
  whenOut_unreferenced h (h.of_eq hr) he

/-! #### The requests taken from the DIQ (R5) -/

theorem fromController_referenced {m : Msg} {r : Eff} (hr : r.1.stb.referenced x = s.stb.referenced x) :
    (fromController m s r).1.stb.referenced x = s.stb.referenced x := by
  unfold fromController
  split
  · simp [only]
  · exact hr

theorem atWord_unreferenced {m : Msg} {r : Nat → Eff} (h : Unreferenced x s) (hr : ∀ w, Unreferenced x (r w).1) :
    Unreferenced x (atWord m s r).1 := by
  unfold atWord
  split
  · exact h.of_stb (answerTable_stb ..)
  · split
    · exact h.of_stb (answerTable_stb ..)
    · exact hr _

@[simp] theorem writeSays_stb (m : Msg) (st : Status) (s : State) : (writeSays m st s).1.stb = s.stb := answerTable_stb ..

@[simp] theorem writeDone_stb (m : Msg) (v : Nat) (s : State) : (writeDone m v s).stb = s.stb := answerTable_stb ..

@[simp] theorem reply_stb (m : Msg) (st : Status) (v : Nat) (s : State) : (reply m st v s).1.stb = s.stb :=
  answerAction_stb ..

@[simp] theorem resetProcs_stb (l : List Stn) (s : State) : (resetProcs l s).stb = s.stb :=
  foldl_keeps (f := fun s st => s.modProc st (fun _ => resetProcess)) (g := fun s => s.stb) (fun _ _ => rfl) l s

@[simp] theorem modCfg_referenced (st : Stn) (f : StationCfg → StationCfg) (s : State) :
    (modCfg st f s).stb.referenced x = s.stb.referenced x := by simp [modCfg]

@[simp] theorem filterActive_referenced (z : Zone) (s : State) :
    (filterActive z s).1.stb.referenced x = s.stb.referenced x := by simp [filterActive, only]

@[simp] theorem filterInactive_referenced (z : Zone) (s : State) :
    (filterInactive z s).1.stb.referenced x = s.stb.referenced x := by
  unfold filterInactive; dsimp only; split <;> simp [only]

@[simp] theorem judgeFilter_referenced (z : Zone) (s : State) :
    (judgeFilter z s).1.stb.referenced x = s.stb.referenced x := by
  unfold judgeFilter; split_ifs <;> simp [only]

@[simp] theorem scan_referenced (s : State) : (scan s).stb.referenced x = s.stb.referenced x := by
  unfold scan; dsimp only; split <;> simp [scanned]

/-- R66: a new zone moves the TRAP cause alone. -/
theorem zoneBody_unreferenced (m : Msg) (h : Unreferenced x s) : Unreferenced x (zoneBody m s).1 :=
  atWord_unreferenced h fun _ => by
    split
    · exact h.of_stb (by simp)
    · split
      · exact h.of_stb (by simp)
      · refine h.of_eq ?_
        dsimp only
        rw [endHolds_stb, changeHolds_referenced]
        · simp
        · intro i r; unfold placeTrap; split <;> rfl

/-- R66: a wind limit or tolerance can end a reference. -/
theorem windTolBody_unreferenced (m : Msg) (h : Unreferenced x s) : Unreferenced x (windTolBody m s).1 :=
  atWord_unreferenced h fun _ => by
    split
    · exact h.of_stb (by simp)
    next st _ =>
      split
      · exact h.of_stb (by simp)
      · have hlatch : (if addrWord m = 15 then clearLatch s else s).stb = s.stb := by split <;> rfl
        refine clearReference_if_unreferenced st ?_
        exact h.of_eq (by simp [recheckGeometry, hlatch])

@[simp] theorem freeRecord_referenced (i : Slot) (p : Tag) (s : State) :
    (freeRecord i p s).stb.referenced x = s.stb.referenced x := by
  unfold freeRecord
  dsimp only
  rw [map_referenced]
  · rfl
  · intro r; split <;> rfl

/-- R81: a soft reset leaves the flags. -/
@[simp] theorem softReset_referenced (s : State) : (softReset s).stb.referenced x = s.stb.referenced x :=
  map_referenced x s.stb _ _ fun _ => rfl

@[simp] theorem redesignated_referenced (b : Stb) (l : Stn) (w : Option Stn) :
    (Stb.mk b.stn l w).referenced x = b.referenced x := rfl

@[simp] theorem scanned_stb (s : State) : (scanned s).stb = s.stb := rfl

@[simp] theorem clearFault_referenced (k : FaultKind) (s : State) :
    (clearFault k s).stb.referenced x = s.stb.referenced x := map_referenced x s.stb _ _ fun _ => rfl

@[simp] theorem duePass_stb (s : State) : (duePass s).stb = s.stb := rfl

@[simp] theorem beginCancel_stb (e : EntryNo) (en : Entry) (k : Byte) (s : State) : (beginCancel e en k s).stb = s.stb := rfl

/-- R78: a HOLD adds a cause alone. -/
theorem holdBody_referenced (m : Msg) : (holdBody m s).1.stb.referenced x = s.stb.referenced x := by
  unfold holdBody
  split
  · simp [only]
  · refine changeHolds_referenced x s fun i r => ?_
    unfold addOperator; split <;> rfl

/-- R79: a RESUME removes causes alone. -/
theorem resumeBody_referenced (m : Msg) : (resumeBody m s).1.stb.referenced x = s.stb.referenced x := by
  have hrefuse : ∀ v y, (refuseStillHeld m v y).stb = y.stb := fun v y =>
    foldl_keeps (g := fun s => s.stb) (fun s _ => refuseHeld_stb s ..) _ y
  unfold resumeBody
  split_ifs
  · simp [only]
  · simp [only]
  · dsimp only
    rw [endHolds_stb, hrefuse]
    refine changeHolds_referenced x s fun i r => ?_
    unfold resumeStation; split_ifs <;> rfl

/-- R5: the taking of a message gives no reference. -/
theorem bodyOf_unreferenced {i : Instr} {body : Msg → State → Eff} (hb : bodyOf i = some body) (m : Msg)
    (h : Unreferenced x s) : Unreferenced x (body m s).1 := by
  cases i with
  | zoneWrite => cases hb; exact zoneBody_unreferenced m h
  | windLimitToleranceWrite => cases hb; exact windTolBody_unreferenced m h
  | tblRead | tblWrite | wideHighWordWrite | approachCapacityWrite | controllerNodeWrite | eventSummaryWrite | filterWrite =>
    cases hb
    refine atWord_unreferenced h fun _ => h.of_eq ?_
    repeat' split
    all_goals simp [only, highWordStored, recheckGeometry, recheckInterlock, recheckReaction, apply_ite State.stb]
  | recipeWrite | stationConfigWrite | maskWrite | exitModeWrite | interlockWrite | reactionWrite | counterConfigWrite
  | palletRecordWrite =>
    cases hb
    refine atWord_unreferenced h fun _ => h.of_eq ?_
    dsimp only
    repeat' split
    all_goals simp [only, clearLatch, recheckGeometry, recheckInterlock, recheckReaction]
  | designationWrite =>
    cases hb
    refine atWord_unreferenced h fun _ => h.of_eq ?_
    unfold loadWrite reworkWrite
    dsimp only
    repeat' split
    all_goals simp [only]
  | hold => cases hb; exact h.of_eq (holdBody_referenced m)
  | resume => cases hb; exact h.of_eq (resumeBody_referenced m)
  | clamp | cycle | release => cases hb; exact h.of_stb (requestBody_stb ..)
  | jog | refer | move | stop | abort | statusReq | downlaneForward =>
    cases hb
    refine h.of_stb ?_
    simp only [jogReferBody, notAllowedBody, forwardBody]
    repeat' split
    all_goals simp [only, forward, pushDeq]
  | index => cases hb; exact h.of_stb (indexBody_stb ..)
  | mode | forget | find | freeze | clearCounts | snapshot | clearCounters | setTime | reset | unknownActionCode =>
    cases hb
    refine h.of_eq (fromController_referenced ?_)
    repeat' split
    all_goals simp [only, setPending]
  | cancel | commit | discard | trapSet | trapAck | faultAck | recover =>
    cases hb
    refine h.of_eq (fromController_referenced ?_)
    dsimp only
    repeat' split
    all_goals simp [only, activate]
  | _ => cases hb

theorem takeAs_unreferenced {i : Instr} {body : Msg → State → Eff} (hb : bodyOf i = some body) (h : Unreferenced x s)
    (he : takeAs i body s = .next t) : Unreferenced x t := by
  rcases takeAs_takes_or_same i body s with ⟨d, -, hr⟩ | hr
  · exact conclude_unreferenced (bodyOf_unreferenced hb d.msg (s := removeDiq d s) h) (hr.symm.trans he)
  · rw [hr] at he
    cases he
    exact h

/-! #### The time (R186) -/

/-- R109: a wind past its limit ends a reference. -/
theorem windUpdate_unreferenced (st : Stn) (p : Option Plan) (a : Angle) (h : Unreferenced x s) :
    Unreferenced x (windUpdate st p a s) :=
  clearReference_if_unreferenced st (h.of_eq (by simp))

/-- The events of the time give no reference. -/
theorem timedEvent_unreferenced {f : State → Host.Outcome State Fault Refusal} (hf : f ∈ timedEvents) (h : Unreferenced x s)
    (he : f s = .next t) : Unreferenced x t := by
  simp only [timedEvents, List.append_assoc, List.mem_append, List.mem_cons, List.not_mem_nil, or_false, List.mem_map] at hf
  obtain (rfl | rfl | rfl | rfl) | ⟨i, -, rfl⟩ | ⟨i, -, rfl⟩ | ⟨i, -, rfl⟩ | ⟨i, -, rfl⟩ | ⟨i, -, rfl⟩ := hf
  · exact whenOut_leaves_reference h (filterActive_referenced ..) he
  · exact whenOut_leaves_reference h (filterInactive_referenced ..) he
  · exact whenOut_leaves_reference h (filterActive_referenced ..) he
  · exact whenOut_leaves_reference h (filterInactive_referenced ..) he
  · unfold execTransitExpiry at he
    split at he
    · cases he; exact h
    · split at he
      · cases he; exact h
      · exact whenOut_leaves_reference h (by simp) he
  · exact whenOut_leaves_reference h (by simp) he
  · unfold execEntryDeadlineExpiry at he
    split at he
    · cases he; exact h
    · refine whenOut_unreferenced h ?_ he
      unfold expireEntry
      dsimp only
      split
      · exact (windUpdate_unreferenced _ _ _ h).of_stb rfl
      · exact h.of_stb rfl
  · unfold execDeferExpiry at he
    split at he
    · cases he; exact h
    · exact whenOut_leaves_reference h rfl he
  · exact whenOut_leaves_reference h (by simp [only, escalate, raised]) he

theorem takeDue_unreferenced (h : Unreferenced x s) (he : takeDue s = .next t) : Unreferenced x t :=
  takeDue_keeps (fun _ hf _ _ hs hr => timedEvent_unreferenced hf hs hr) h he

theorem execTimeTick_unreferenced (h : Unreferenced x s) (he : execTimeTick s = .next t) : Unreferenced x t := by
  unfold execTimeTick at he
  split at he
  · cases he; exact h
  · obtain ⟨u, hu, hc⟩ := follow_eq_next he
    have hu' : Unreferenced x u := takeDue_unreferenced (s := advanceTime s) h hu
    exact conclude_unreferenced (hu'.of_stb rfl) hc

theorem execSetTime_unreferenced (h : Unreferenced x s) (he : execSetTime s = .next t) : Unreferenced x t := by
  obtain ⟨u, hu, hc⟩ := follow_eq_next he
  have := takeAs_unreferenced (i := .setTime) rfl h hu
  split at hc
  · exact takeDue_unreferenced this hc
  · cases hc; exact this

/-! #### Ports and transmission -/

@[simp] theorem setPort_stb (p : Port) (v : PortState) (s : State) : (s.setPort p v).stb = s.stb := by cases p <;> rfl

@[simp] theorem forgetSent_stb (p : Port) (s : State) : (forgetSent p s).stb = s.stb := by cases p <;> rfl

@[simp] theorem discardMessage_referenced (p : Port) (s : State) :
    (discardMessage p s).stb.referenced x = s.stb.referenced x := by simp [discardMessage]

@[simp] theorem enterDiq_stb (m : Msg) (s : State) : (enterDiq m s).stb = s.stb := rfl

@[simp] theorem enterUiq_stb (m : Msg) (s : State) : (enterUiq m s).stb = s.stb := rfl

@[simp] theorem serveA_stb (v : Served) (s : State) : (serveA v s).stb = s.stb := by
  unfold serveA startTx
  repeat' split
  all_goals simp

@[simp] theorem enqueueAllOwed_stb (s : State) : (enqueueAllOwed s).stb = s.stb :=
  foldl_keeps (g := fun s => s.stb) (fun s st => by split <;> rfl) _ s

@[simp] theorem enqueueCommand_stb (e : EntryNo) (s : State) : (enqueueCommand e s).stb = s.stb := by
  unfold enqueueCommand; split <;> rfl

/-- R71: a transmitted JOG ends a reference. -/
theorem transmitted_unreferenced (m : Msg) (e : Option EntryNo) (h : Unreferenced x s) :
    Unreferenced x (transmitted m e s).1 := by
  have hnote : ∀ p, (noteReleased e p s).stb = s.stb := fun p => by unfold noteReleased; split <;> rfl
  unfold transmitted
  split
  · exact h
  · split_ifs
    · exact h.of_eq (by simp [only])
    · exact h.of_eq (by simp [hnote])
    · exact clearReference_unreferenced _ h
    · exact h

theorem transmitHead_unreferenced (d : DeqItem) (rest : List DeqItem) (h : Unreferenced x s) :
    Unreferenced x (transmitHead d rest s).1 := by
  have hissue : ∀ e y, (issueEntry e y).stb = y.stb := fun e y => by unfold issueEntry; split <;> rfl
  unfold transmitHead
  dsimp only
  split
  · refine transmitted_unreferenced _ _ ?_
    split <;> exact h.of_stb (by simp [startTx, hissue])
  · split <;> exact h.of_eq (by simp [only])

@[simp] theorem transmitStop_stb (u : UgqItem) (rest : List UgqItem) (s : State) : (transmitStop u rest s).stb = s.stb := by
  unfold transmitStop; dsimp only; split <;> simp [startTx]

/-! #### Reports -/

/-- R68: of the AT reports only a REFERENCED gives a reference, and only to its station. -/
theorem applyAt_unreferenced {st : Stn} {m : Msg} (hm : ¬ (m.argB = 3 ∧ st = x)) (h : Unreferenced x s) :
    Unreferenced x (applyAt st m s).1 := by
  unfold applyAt
  dsimp only
  split
  next h3 =>
    have hne : x ≠ st := fun hx => hm ⟨BitVec.eq_of_toNat_eq h3, hx.symm⟩
    refine h.of_eq ?_
    simp [only, atReferenced, Stb.referenced, upd_get_ne _ _ hne]
  split
  · exact h.of_eq (by simp [only])
  split
  · unfold atUncommanded
    dsimp only [only]
    split
    · refine Unreferenced.of_eq ?_ (react_referenced ..)
      exact clearReference_unreferenced _ (h.of_eq (by simp))
    · exact h.of_eq (by simp)
  split
  · exact h
  split
  · exact h.of_eq (by simp [only])
  · exact windUpdate_unreferenced _ _ _ h

/-- R11, R12: a report gives a reference where its rule does at the station it names. -/
theorem reportAs_unreferenced {kind : Byte} {apply : Stn → Msg → State → Eff} {m : Msg}
    (ha : ∀ st y, m.station.toNat = st.val → Unreferenced x y → Unreferenced x (apply st m y).1) (h : Unreferenced x s)
    (he : reportAs kind apply m s = .next t) : Unreferenced x t := by
  refine whenOut_unreferenced h ?_ he
  split
  · split
    next st hst =>
      obtain ⟨y, hy, hsome⟩ := Option.bind_eq_some_iff.1 hst
      split at hsome <;> cases hsome
      exact ha _ _ (stn?_eq_some.1 hy) h
    next => exact h
  · exact h.of_eq (discardMessage_referenced ..)

theorem reportAs_leaves_reference {kind : Byte} {apply : Stn → Msg → State → Eff} {m : Msg}
    (ha : ∀ st y, (apply st m y).1.stb.referenced x = y.stb.referenced x) (h : Unreferenced x s)
    (he : reportAs kind apply m s = .next t) : Unreferenced x t :=
  reportAs_unreferenced (fun st y _ hy => hy.of_eq (ha st y)) h he

@[simp] theorem applyTag_referenced (st : Stn) (m : Msg) (s : State) :
    (applyTag st m s).1.stb.referenced x = s.stb.referenced x := by unfold applyTag; split <;> simp

@[simp] theorem applyClamped_referenced (st : Stn) (m : Msg) (s : State) :
    (applyClamped st m s).1.stb.referenced x = s.stb.referenced x := by
  unfold applyClamped; dsimp only; split <;> simp [only]

@[simp] theorem applyTool_referenced (st : Stn) (m : Msg) (s : State) :
    (applyTool st m s).1.stb.referenced x = s.stb.referenced x := by
  unfold applyTool; dsimp only; split <;> simp [only]

@[simp] theorem applyCycleEnd_stb (st : Stn) (m : Msg) (s : State) : (applyCycleEnd st m s).1.stb = s.stb := by
  unfold applyCycleEnd
  repeat' split
  all_goals rfl

theorem atReset_unreferenced (cause : ResetCause) (straps : Node) (rawA rawB : Bool) (q : List Instr) :
    Unreferenced x (State.atReset cause straps rawA rawB q) := by
  simp [Unreferenced, Stb.referenced, State.atReset, resetStb, resetStation]

/-- R70: no command but an AT REFERENCED of its own station gives a station a reference. -/
theorem exec_unreferenced {i : Instr} (hi : ∀ m, i = .atReport m → ¬ (m.argB = 3 ∧ m.station.toNat = x.val))
    (h : Unreferenced x s) (he : exec i s = .next t) : Unreferenced x t := by
  by_cases hq : takesFromDiq i = true
  · by_cases hset : i = .setTime
    · subst hset
      exact execSetTime_unreferenced h he
    · obtain ⟨body, hb⟩ := bodyOf_isSome hq
      rw [exec_of_bodyOf hb hset] at he
      exact takeAs_unreferenced hb h he
  · cases i with
    | powerOnReset straps rawA rawB => cases he; exact atReset_unreferenced ..
    | pinReset straps =>
      change execPinReset straps s = _ at he
      unfold execPinReset at he
      split at he <;> cases he
      · exact atReset_unreferenced ..
      · exact h
    | resetInputLow => cases he; exact h
    | linkUp p =>
      change execLinkUp p s = _ at he
      exact whenOut_leaves_reference h (by simp [only]) he
    | linkDown p =>
      change execLinkDown p s = _ at he
      exact whenOut_leaves_reference h (by simp) he
    | trapInputChange z =>
      change execTrapInputChange z s = _ at he
      unfold execTrapInputChange at he
      split at he
      · cases he; exact h.of_stb (State.setZone_stb ..)
      · exact conclude_unreferenced (h.of_eq (by simp)) he
    | trapFilterAssert z =>
      change execTrapFilterAssert z s = _ at he
      exact whenOut_leaves_reference h (filterActive_referenced ..) he
    | trapFilterRelease z =>
      change execTrapFilterRelease z s = _ at he
      exact whenOut_leaves_reference h (filterInactive_referenced ..) he
    | timeTick => exact execTimeTick_unreferenced h he
    | integrityScan =>
      change execIntegrityScan s = _ at he
      exact whenOut_leaves_reference h (by simp [only]) he
    | transitExpiry slot => exact timedEvent_unreferenced (f := execTransitExpiry slot) (by simp [timedEvents]) h he
    | settleExpiry st =>
      exact timedEvent_unreferenced (f := execSettleExpiry st) (by simp [timedEvents, allStn, allEntries]) h he
    | entryDeadlineExpiry e =>
      exact timedEvent_unreferenced (f := execEntryDeadlineExpiry e) (by simp [timedEvents, allStn, allEntries]) h he
    | deferExpiry e =>
      exact timedEvent_unreferenced (f := execDeferExpiry e) (by simp [timedEvents, allStn, allEntries]) h he
    | escalation k => exact timedEvent_unreferenced (f := execEscalation k) (by simp [timedEvents]) h he
    | downlaneReceive m =>
      change execDownlaneReceive m s = _ at he
      exact whenOut_leaves_reference h (by dsimp only [only]; split <;> simp) he
    | messageDiscarded p =>
      change execMessageDiscarded p s = _ at he
      exact whenOut_leaves_reference h (discardMessage_referenced ..) he
    | atReport m =>
      refine reportAs_unreferenced (fun st y hst hy => applyAt_unreferenced (fun hx => ?_) hy) h he
      exact hi m rfl ⟨hx.1, hst.trans (congrArg Fin.val hx.2)⟩
    | tagReport m => exact reportAs_leaves_reference (fun st y => applyTag_referenced st m y) h he
    | clampedReport m => exact reportAs_leaves_reference (fun st y => applyClamped_referenced st m y) h he
    | toolReport m => exact reportAs_leaves_reference (fun st y => applyTool_referenced st m y) h he
    | cycleEndReport m => exact reportAs_leaves_reference (fun st y => by rw [applyCycleEnd_stb]) h he
    | goneReport m => exact reportAs_leaves_reference (fun st y => by simp [applyGone]) h he
    | nodeFaultReport m => exact reportAs_leaves_reference (fun st y => by simp [applyNodeFault, only]) h he
    | uplaneForward m =>
      change execUplaneForward m s = _ at he
      exact whenOut_leaves_reference h (by dsimp only [only]; split <;> simp) he
    | portATransmit ready =>
      change execPortATransmit ready s = _ at he
      unfold execPortATransmit at he
      split at he
      · cases he; exact h
      · exact whenOut_leaves_reference h (by simp [only]) he
    | portBHold ready =>
      change execPortBHold ready s = _ at he
      exact whenOut_leaves_reference h (by simp [only, startTx]) he
    | portBResume ready =>
      change execPortBResume ready s = _ at he
      exact whenOut_leaves_reference h (by simp [only, startTx]) he
    | stopAbortTransmit ready =>
      change execStopAbortTransmit ready s = _ at he
      unfold execStopAbortTransmit at he
      split at he
      · cases he; exact h
      · exact whenOut_leaves_reference h (by simp [only]) he
    | deqTransmit ready =>
      change execDeqTransmit ready s = _ at he
      unfold execDeqTransmit at he
      split at he
      · cases he; exact h
      · exact whenOut_unreferenced h (transmitHead_unreferenced _ _ h) he
    | owedStatusReqEnqueue =>
      change execOwedStatusReqEnqueue s = _ at he
      unfold execOwedStatusReqEnqueue at he
      split at he
      · cases he; exact h
      · exact whenOut_leaves_reference h rfl he
    | sendingEntryEnqueue =>
      change execSendingEntryEnqueue s = _ at he
      unfold execSendingEntryEnqueue at he
      split at he
      · cases he; exact h
      · exact whenOut_leaves_reference h (by simp [only]) he
    | keptRefusalDelivery =>
      change execKeptRefusalDelivery s = _ at he
      unfold execKeptRefusalDelivery at he
      split at he
      · cases he; exact h
      · exact whenOut_leaves_reference h rfl he
    | ingressPlaceClaim p =>
      change execIngressPlaceClaim p s = _ at he
      exact whenOut_leaves_reference h (by simp [only]) he
    | transmissionEnd p =>
      change execTransmissionEnd p s = _ at he
      exact whenOut_leaves_reference h (by simp [only]) he
    | _ => exact absurd rfl hq

end
end Sys2Proof.Machine

namespace Sys2Proof.Proofs
open Sys2Proof.Machine

/-- Settles O12: a flag that is set by any other command was set before. -/
theorem onlyAReferenceRunSetsTheFlag : Obligations.OnlyAReferenceRunSetsTheFlag := by
  intro i s t st he hs ht
  by_contra hno
  have hi : ∀ m, i = .atReport m → ¬ (m.argB = 3 ∧ m.station.toNat = st.val) := fun m hm h => hno ⟨m, hm, h⟩
  have hclear : (t.station st).referenced = false := exec_unreferenced (x := st) hi hs he
  rw [hclear] at ht
  cases ht

end Sys2Proof.Proofs
end

section
namespace Sys2Proof.Machine

/-! ### The words of a station's configuration and their writes (R65) -/

/-- The words of the row STATION_CONFIG_WRITE (section 12.3). -/
structure IsConfigWord (k : Nat) : Prop where
  below : k < 24
  other : k ≠ 1 ∧ k ≠ 11 ∧ k ≠ 14 ∧ k ≠ 15 ∧ k ≠ 20 ∧ k ≠ 22

theorem IsConfigWord.cases {k : Nat} (h : IsConfigWord k) : (∃ j : Fin 8, k = j.val + 2) ∨ k = 0 ∨ k = 10 ∨ k = 12 ∨ k = 13
    ∨ k = 16 ∨ k = 17 ∨ k = 18 ∨ k = 19 ∨ k = 21 ∨ k = 23 := by
  obtain ⟨hlt, hne⟩ := h
  by_cases hj : 2 ≤ k ∧ k ≤ 9
  · exact .inl ⟨⟨k - 2, by omega⟩, by simp only; omega⟩
  · omega

/-- R65: what a word of the row holds after a write of `v`. -/
def configField (k v : Nat) : Nat :=
  match k with
  | 0 => min 62 v
  | 12 => max 1 (min 1024 v)
  | 13 => min 2000 v
  | 16 => min 200 v
  | 17 => min 500 v
  | 18 => max 50 (min 10000 v)
  | 19 => max 100 (min 60000 v)
  | 21 => loWord (max 1000 (min 600000 v))
  | 23 => max 100 (min 10000 v)
  | _ => v % 65536

theorem writeCfg_stop (c : StationCfg) (j : Fin 8) (v : Nat) :
    writeCfg c (j.val + 2) v = { c with stops := upd c.stops j (fun _ => BitVec.ofNat 16 v) } := by
  fin_cases j <;> rfl

theorem cfgWord_stop (c : StationCfg) (j : Fin 8) : cfgWord c (j.val + 2) = some (c.stops.get j).toNat := by
  fin_cases j <;> rfl

/-- A word that is no stop angle reads nothing of the stop angles. -/
theorem cfgWord_withStops (c : StationCfg) (v : Vector Angle 8) {k : Nat} (h : ¬ ∃ j : Fin 8, k = j.val + 2) :
    cfgWord { c with stops := v } k = cfgWord c k := by
  unfold cfgWord
  split
  case h_17 h0 h1 _ _ _ _ _ _ _ _ _ _ _ _ _ _ =>
    by_cases hlt : k - 2 < 8
    · refine absurd ⟨⟨k - 2, hlt⟩, ?_⟩ h
      simp only
      have : k ≠ 0 := h0
      have : k ≠ 1 := h1
      omega
    · rw [dif_neg hlt, dif_neg hlt]
  all_goals rfl

/-- R65: the written word holds the field. -/
theorem cfgWord_writeCfg_self (c : StationCfg) {k : Nat} (v : Nat) (hk : IsConfigWord k) :
    cfgWord (writeCfg c k v) k = some (configField k v) := by
  rcases hk.cases with ⟨j, rfl⟩ | rfl | rfl | rfl | rfl | rfl | rfl | rfl | rfl | rfl | rfl
  · rw [writeCfg_stop, cfgWord_stop, upd_get_self]
    fin_cases j <;> rfl
  case inr.inl =>
    refine congrArg some ?_
    simp only [writeCfg, configField, clampNat_zero, BitVec.toNat_ofNat]
    omega
  all_goals simp [writeCfg, cfgWord, configField, clampNat_eq]

/-- R65, R181: a write changes no other word, but a low word the upper half with it. -/
theorem cfgWord_writeCfg_of_ne (c : StationCfg) {k k' : Nat} (v : Nat) (hk : IsConfigWord k) (hne : k' ≠ k)
    (hwide : ¬ (k = 21 ∧ k' = 20)) : cfgWord (writeCfg c k v) k' = cfgWord c k' := by
  rcases hk.cases with ⟨j, rfl⟩ | rfl | rfl | rfl | rfl | rfl | rfl | rfl | rfl | rfl | rfl
  · rw [writeCfg_stop]
    by_cases h : ∃ i : Fin 8, k' = i.val + 2
    · obtain ⟨i, rfl⟩ := h
      rw [cfgWord_stop, cfgWord_stop, upd_get_ne]
      rintro rfl
      exact hne rfl
    · exact cfgWord_withStops c _ h
  all_goals
    unfold cfgWord
    split
    any_goals rfl
    all_goals omega

/-! ### Writes to a station's configuration (R65, R66, R181) -/

/-- A row of TBL_WRITE of table 1 is that of its word. -/
theorem configWord_of_row {d : DiqItem} {s : State} (ht : Takes .stationConfigWrite d s) : IsConfigWord (addrWord d.msg) := by
  obtain ⟨-, -, hrow, -⟩ := ht
  have hw := (write_of_rowOf (by rw [hrow]; rfl) (by rw [hrow]; decide)).2.2.symm.trans hrow
  by_cases h1 : addrTable d.msg = 1
  · rw [h1, writeRow_table1] at hw
    split_ifs at hw
    exact ⟨by omega, by omega⟩
  · simp only [writeRow, h1, if_false] at hw
    split_ifs at hw

/-- R182: an answer to a table request reads nothing of the stations, the check values or the latch. -/
theorem answerTable_frame (m : Msg) (st : Status) (v : Word) (b : Stb) (f : Fcu) (l : Word) (s : State) :
    answerTable m st v { s with stb := b, fcu := f, mga := { s.mga with latch := l } }
      = { answerTable m st v s with stb := b, fcu := f, mga := { s.mga with latch := l } } := by
  unfold answerTable postReply
  split_ifs <;> rfl

section
variable {d : DiqItem} {s : State} {w : Nat} {st : Stn} (hs : BetweenEvents s) (hc : FromController d s)
  (ha : addressed s d.msg = some w) (hst : cfgStation? d.msg = some st)

/-- R65, R166, R181: a state with a station's record changed, check value 3 and the latch as they stand then. -/
def withStation (st : Stn) (f : Station → Station) (g l : Word) (s : State) : State :=
  { s with
    stb := { s.stb with stn := upd s.stb.stn st f }
    fcu := { s.fcu with checks := { s.fcu.checks with geometry := g } }
    mga := { s.mga with latch := l } }

/-- R182: the state after an accepted write to a station's record, with what the answer holds. -/
def stationWritten (d : DiqItem) (st : Stn) (stored : Nat) (f : Station → Station) (g l : Word) (s : State) : State :=
  { tableAnswered d .done stored s with
    stb := { s.stb with stn := upd s.stb.stn st f }
    fcu := { s.fcu with checks := { s.fcu.checks with geometry := g } }
    mga := { s.mga with latch := l } }

theorem writeDone_withStation (stored : Nat) (f : Station → Station) (g l : Word) :
    writeDone d.msg stored (withStation st f g l (removeDiq d s)) = stationWritten d st stored f g l s :=
  answerTable_frame ..

/-- A write that leaves the check values and the latch. -/
theorem stationWritten_same_checks (stored : Nat) (f : Station → Station) :
    stationWritten d st stored f s.fcu.checks.geometry s.mga.latch s
      = { tableAnswered d .done stored s with stb := { s.stb with stn := upd s.stb.stn st f } } := by
  unfold stationWritten tableAnswered answerTable postReply
  split_ifs <;> rfl

theorem stationWritten_ev (stored : Nat) (f : Station → Station) (g l : Word) :
    (stationWritten d st stored f g l s).ev = s.ev := by simp [stationWritten, tableAnswered, removeDiq]

include hs in
theorem conclude_stationWritten (stored : Nat) (f : Station → Station) (g l : Word) :
    conclude (only (stationWritten d st stored f g l s)) = .next (stationWritten d st stored f g l s) :=
  conclude_only_clear ((stationWritten_ev ..).trans hs)

theorem isGeometryWord_iff {k : Nat} : isGeometryWord k = true ↔ 2 ≤ k ∧ k ≤ 10 := by simp [isGeometryWord]

theorem isOut_removeDiq : isOut (removeDiq d s) st = true ↔ (s.station st).mode = .out := beq_iff_eq

/-- R65, R181: the value that a write to a configuration word forms. -/
def configValue (m : Msg) (s : State) : Nat := if addrWord m = 21 then latched m s else m.argB.toNat

/-- R65: a station's record with a configuration word written. -/
def configWritten (m : Msg) (s : State) (r : Station) : Station :=
  { r with cfg := writeCfg r.cfg (addrWord m) (configValue m s) }

/-- R65: a stop angle or the zero offset is stored as it comes. -/
theorem configField_geometry {m : Msg} (hg : 2 ≤ addrWord m ∧ addrWord m ≤ 10) (s : State) :
    configField (addrWord m) (configValue m s) = m.argB.toNat := by
  have hv : configValue m s = m.argB.toNat := if_neg (by omega)
  have := m.argB.isLt
  unfold configField
  split <;> omega

/-- R65, R181: the transit limit takes its upper half from the latch. -/
theorem configWritten_transitLimit {m : Msg} (h : addrWord m = 21) (s : State) (r : Station) :
    (configWritten m s r).cfg.transitLimit = max 1000 (min 600000 (s.mga.latch.toNat * 65536 + m.argB.toNat)) := by
  simp only [configWritten, h, configValue, if_true, writeCfg, latched]
  exact clampNat_eq (by decide) _

/-- R66: the wind limit after a write. -/
def windLimitWritten (m : Msg) (st : Stn) (s : State) : Nat :=
  if addrWord m = 15 then max 33024 (min 262144 (s.mga.latch.toNat * 65536 + m.argB.toNat)) else (s.station st).cfg.windLimit

/-- R66: the position tolerance after a write. -/
def toleranceWritten (m : Msg) (st : Stn) (s : State) : Nat :=
  if addrWord m = 15 then (s.station st).cfg.tol else min 255 m.argB.toNat

/-- R66: the wind fits the limit less the tolerance, as they are after a write. -/
def windFits (m : Msg) (st : Stn) (s : State) : Bool :=
  decide (((s.station st).w.natAbs : Int) ≤ windLimitWritten m st s - toleranceWritten m st s)

/-- R66: a station's record with a wind limit and a tolerance, its reference kept where the wind fits. -/
def windWritten (m : Msg) (st : Stn) (s : State) (r : Station) : Station :=
  { r with
    cfg := { r.cfg with windLimit := windLimitWritten m st s, tol := toleranceWritten m st s }
    referenced := r.referenced && windFits m st s }

/-- R66: a record whose reference ends where its wind is out of range. -/
def windJudged (r : Station) : Station := { r with referenced := r.referenced && !windOutOfRange r }

theorem windJudged_eq (r : Station) : windJudged r
    = { r with referenced := r.referenced && decide ((r.w.natAbs : Int) ≤ r.cfg.windLimit - r.cfg.tol) } := by
  unfold windJudged windOutOfRange
  cases r.referenced with
  | false => rfl
  | true =>
    refine congrArg (fun x => { r with referenced := x }) ?_
    rw [Bool.true_and, Bool.true_and, Bool.true_and, ← decide_not]
    exact decide_eq_decide.2 Int.not_lt

/-- Two changes of one element that agree on it. -/
theorem upd_congr {α : Type} {n : Nat} {v : Vector α n} {i : Fin n} {f g : α → α} (h : f (v.get i) = g (v.get i)) :
    upd v i f = upd v i g := congrArg (v.set i) h

/-- R166: check value 3 reads the configuration of the stations alone. -/
theorem geometryCheck_congr {u v : Vector Station 16} (h : ∀ x, (u.get x).cfg = (v.get x).cfg) :
    geometryCheck u = geometryCheck v := by
  have hlist : ∀ w : Vector Station 16, geometryWords w
      = (w.map Station.cfg).toList.flatMap (fun c => [2, 3, 4, 5, 6, 7, 8, 9, 10, 11, 14, 15].filterMap (cfgWord c)) := by
    intro w
    rw [geometryWords, Vector.toList_map, List.flatMap_map]
  have hmap : u.map Station.cfg = v.map Station.cfg := by
    refine vector_ext_get fun x => ?_
    simpa [Vector.get] using h x
  unfold geometryCheck
  rw [hlist, hlist, hmap]

/-- R66, R166: a record written, check value 3 computed over its configuration. -/
theorem stationWritten_congr {v : Nat} {f f' : Station → Station} {l : Word} (hf : f (s.station st) = f' (s.station st))
    {h : Station → Station} (hcfg : (h (s.station st)).cfg = (f' (s.station st)).cfg) :
    stationWritten d st v f (geometryCheck (upd s.stb.stn st h)) l s
      = stationWritten d st v f' (geometryCheck (upd s.stb.stn st f')) l s := by
  have hupd : upd s.stb.stn st f = upd s.stb.stn st f' := upd_congr hf
  have hg : geometryCheck (upd s.stb.stn st h) = geometryCheck (upd s.stb.stn st f') := by
    refine geometryCheck_congr fun x => ?_
    rw [upd_get, upd_get]
    split
    · exact hcfg
    · rfl
  unfold stationWritten
  rw [hupd, hg]

/-- R66, R70: at an OUT station the wind out of range ends the reference and does nothing else. -/
theorem stationWritten_judged {v : Nat} {f : Station → Station} {g l : Word} (hm : (f (s.station st)).mode = .out) :
    (if windOutOfRange ((stationWritten d st v f g l s).station st) then clearReference st (stationWritten d st v f g l s)
      else stationWritten d st v f g l s) = stationWritten d st v (fun r => windJudged (f r)) g l s := by
  have hst : (stationWritten d st v f g l s).station st = f (s.station st) := upd_get_self ..
  rw [hst]
  split
  next hw =>
    rw [clearReference_manual (by rw [hst, hm]; decide)]
    have hupd : upd (upd s.stb.stn st f) st (fun r => { r with referenced := false })
        = upd s.stb.stn st (fun r => windJudged (f r)) := by
      rw [upd_upd]
      refine upd_congr ?_
      have hw' : windOutOfRange (f (s.stb.stn.get st)) = true := hw
      simp [windJudged, hw']
    unfold State.modStn stationWritten
    simp only [hupd]
  next hw =>
    have hupd : upd s.stb.stn st f = upd s.stb.stn st (fun r => windJudged (f r)) := by
      refine upd_congr ?_
      have hw' : windOutOfRange (f (s.stb.stn.get st)) = false := Bool.eq_false_iff.2 hw
      simp [windJudged, hw']
    unfold stationWritten
    rw [hupd]

/-- R66: an OUT station's record written and answered, its reference judged by the new range. -/
theorem writeDone_windWritten {v : Nat} {f : Station → Station} {l : Word} (hm : (f (s.station st)).mode = .out)
    (hf : windJudged (f (s.station st)) = windWritten d.msg st s (s.station st)) :
    let y := writeDone d.msg v (withStation st f (geometryCheck (upd s.stb.stn st f)) l (removeDiq d s))
    (if windOutOfRange (y.station st) then clearReference st y else y)
      = stationWritten d st v (windWritten d.msg st s) (geometryCheck (upd s.stb.stn st (windWritten d.msg st s))) l s := by
  intro y
  rw [show y = _ from writeDone_withStation ..]
  have hcfg := congrArg Station.cfg hf
  exact (stationWritten_judged hm).trans (stationWritten_congr (f := fun r => windJudged (f r)) (h := f) hf hcfg)

include hs hc ha hst

theorem stationConfigWrite_wrongMode (ht : Takes .stationConfigWrite d s)
    (hg : 2 ≤ addrWord d.msg ∧ addrWord d.msg ≤ 10) (hm : (s.station st).mode ≠ .out) :
    exec .stationConfigWrite s = .next (tableAnswered d .wrongMode 0 s) := by
  have hgate : (isGeometryWord (addrWord d.msg) && !isOut (removeDiq d s) st) = true := by
    rw [isGeometryWord_iff.2 hg, Bool.eq_false_iff.2 (isOut_removeDiq.not.2 hm)]
    rfl
  rw [exec_atWord hc ha (i := .stationConfigWrite) rfl (by decide) ht (fun _ _ => rfl), hst]
  simp only [hgate, if_true]
  exact conclude_tableAnswer hs .wrongMode 0

theorem stationConfigWrite_stored (ht : Takes .stationConfigWrite d s)
    (hm : 2 ≤ addrWord d.msg ∧ addrWord d.msg ≤ 10 → (s.station st).mode = .out) :
    exec .stationConfigWrite s = .next (stationWritten d st (configField (addrWord d.msg) (configValue d.msg s))
      (configWritten d.msg s)
      (if 2 ≤ addrWord d.msg ∧ addrWord d.msg ≤ 10 then geometryCheck (upd s.stb.stn st (configWritten d.msg s))
        else s.fcu.checks.geometry)
      (if addrWord d.msg = 21 then 0 else s.mga.latch) s) := by
  have hword := cfgWord_writeCfg_self (s.station st).cfg (configValue d.msg s) (configWord_of_row ht)
  have hgate : ¬ (isGeometryWord (addrWord d.msg) && !isOut (removeDiq d s) st) = true := by
    rw [Bool.and_eq_true, isGeometryWord_iff, Bool.not_eq_true', ← Bool.not_eq_true, isOut_removeDiq]
    exact fun h => h.2 (hm h.1)
  rw [exec_atWord hc ha (i := .stationConfigWrite) rfl (by decide) ht (fun _ _ => rfl), hst]
  simp only [if_neg hgate]
  rw [← conclude_stationWritten hs, ← writeDone_withStation]
  refine congrArg (fun y => conclude (only y)) ?_
  refine congr (congrArg (writeDone d.msg) (congrArg (Option.getD · 0) hword)) ?_
  by_cases h21 : addrWord d.msg = 21
  · have hg : ¬ (2 ≤ addrWord d.msg ∧ addrWord d.msg ≤ 10) := by omega
    rw [if_neg (isGeometryWord_iff.not.2 hg), if_neg hg, if_pos h21]
    simp only [if_pos h21]
    unfold configWritten configValue
    rw [if_pos h21]
    rfl
  · unfold configWritten configValue
    simp only [if_neg h21, isGeometryWord_iff]
    split <;> rfl

/-- R93: with nobody waiting the re-evaluation of the route waiters finds nothing to do. -/
theorem approachCapacityWrite_stored (ht : Takes .approachCapacityWrite d s) (hn : NobodyWaits s) :
    exec .approachCapacityWrite s = .next
      { tableAnswered d .done (max 1 (min 8 d.msg.argB.toNat)) s with
        stb := { s.stb with stn := upd s.stb.stn st (fun r =>
          { r with cfg := { r.cfg with capacity := max 1 (min 8 d.msg.argB.toNat) } }) } } := by
  obtain ⟨hd, -, hidle⟩ := hn
  rw [exec_atWord hc ha (i := .approachCapacityWrite) rfl (by decide) ht (fun _ _ => rfl), hst]
  simp only [clampNat_eq (show 1 ≤ 8 by decide)]
  have hwritten := writeDone_withStation (d := d) (s := s) (st := st) (max 1 (min 8 d.msg.argB.toNat))
    (fun r => { r with cfg := { r.cfg with capacity := max 1 (min 8 d.msg.argB.toNat) } }) s.fcu.checks.geometry s.mga.latch
  refine (congrArg (fun y => conclude (y, [Task.reroute])) hwritten).trans ?_
  rw [stationWritten_same_checks]
  refine (conclude_idle (y := { tableAnswered d .done _ s with stb := _ }) (fun t ht => ?_) (by simp) ?_).trans ?_
  · rw [List.mem_singleton.1 ht]
    refine reroute_of_nobody fun x => ?_
    have hx : (s.proc x).wait ≠ .route := by rw [(hidle x).1]; decide
    simpa [tableAnswered, answerTable, State.proc, removeDiq] using hx
  · simpa [tableAnswered, removeDiq] using hd
  · rw [passOver_of_false (by simp [tableAnswered, removeDiq, hs, clearWithin]),
      closeEvent_clear (by simpa [tableAnswered, removeDiq] using hs)]

/-! #### The wind limit and the tolerance (R66) -/

theorem windLimitToleranceWrite_wrongMode (ht : Takes .windLimitToleranceWrite d s) (hm : (s.station st).mode ≠ .out) :
    exec .windLimitToleranceWrite s = .next (tableAnswered d .wrongMode 0 s) := by
  have hgate : (!isOut (removeDiq d s) st) = true := by rw [Bool.eq_false_iff.2 (isOut_removeDiq.not.2 hm)]; rfl
  rw [exec_atWord hc ha (i := .windLimitToleranceWrite) rfl (by decide) ht (fun _ _ => rfl), hst]
  simp only [hgate, if_true]
  exact conclude_tableAnswer hs .wrongMode 0

theorem windLimitToleranceWrite_stored (ht : Takes .windLimitToleranceWrite d s) (hm : (s.station st).mode = .out) :
    exec .windLimitToleranceWrite s = .next (stationWritten d st
      (if addrWord d.msg = 15 then windLimitWritten d.msg st s else toleranceWritten d.msg st s) (windWritten d.msg st s)
      (geometryCheck (upd s.stb.stn st (windWritten d.msg st s))) (if addrWord d.msg = 15 then 0 else s.mga.latch) s) := by
  have hgate : ¬ (!isOut (removeDiq d s) st) = true := by rw [isOut_removeDiq.2 hm]; decide
  rw [exec_atWord hc ha (i := .windLimitToleranceWrite) rfl (by decide) ht (fun _ _ => rfl), hst]
  simp only [if_neg hgate]
  rw [← conclude_stationWritten hs]
  refine congrArg (fun y => conclude (only y)) ?_
  by_cases h15 : addrWord d.msg = 15
  · have hlimit : max 33024 (min 262144 (latched d.msg (removeDiq d s))) = windLimitWritten d.msg st s := (if_pos h15).symm
    simp only [if_pos h15, clampNat_eq (show 33024 ≤ 262144 by decide), hlimit]
    refine writeDone_windWritten (f := fun r => { r with cfg := { r.cfg with windLimit := windLimitWritten d.msg st s } }) hm ?_
    simp only [windJudged_eq, windWritten, toleranceWritten, if_pos h15, windFits]
  · have htol : min 255 d.msg.argB.toNat = toleranceWritten d.msg st s := (if_neg h15).symm
    simp only [if_neg h15, clampNat_zero, htol]
    refine writeDone_windWritten (f := fun r => { r with cfg := { r.cfg with tol := toleranceWritten d.msg st s } }) hm ?_
    simp only [windJudged_eq, windWritten, windLimitWritten, if_neg h15, windFits]

end
end Sys2Proof.Machine

namespace Sys2Proof.Proofs
open Sys2Proof.Machine

/-- Settles O23: the gate of the geometry words, the stored fields word by word, and the approach capacity. -/
theorem stationConfigurationIsClamped : Obligations.StationConfigurationIsClamped := by
  refine ⟨fun d s w st hs ht hc ha hst => ⟨stationConfigWrite_wrongMode hs hc ha hst ht, fun hm => ?_⟩, ?_⟩
  · have hk := configWord_of_row ht
    refine ⟨_, _, _, stationConfigWrite_stored hs hc ha hst ht hm, rfl, cfgWord_writeCfg_self _ _ hk,
      fun k' hne hw => cfgWord_writeCfg_of_ne _ _ hk hne hw, fun hg => ⟨?_, if_pos hg⟩, fun hg => if_neg hg, fun h => ?_,
      fun h => ?_, fun h => ?_, fun h => ?_, fun h => ?_, fun h => ?_, fun h => ?_, fun h => ?_,
      fun h => configWritten_transitLimit h s _⟩
    · exact configField_geometry hg s
    all_goals
      simp only [show addrWord d.msg = _ from h, configField, configValue]
      rfl
  · exact fun d s w st hs ht hc ha hst hn => approachCapacityWrite_stored hs hc ha hst ht hn

/-- Settles O24: the gate, and the record with its reference judged by the new range. -/
theorem windLimitAndToleranceWrites : Obligations.WindLimitAndToleranceWrites := by
  intro d s w st hs ht hc ha hst
  refine ⟨windLimitToleranceWrite_wrongMode hs hc ha hst ht, fun hm => ?_⟩
  exact ⟨_, windLimitToleranceWrite_stored hs hc ha hst ht hm, rfl, rfl⟩

end Sys2Proof.Proofs
end

section
namespace Sys2Proof.Machine

/-! ### Writes of the designation (R61, R67) -/

/-- R67, R82: the processes that a designation resets. -/
theorem resetProcs_proc (l : List Stn) (s : State) (x : Stn) :
    (resetProcs l s).proc x = if x ∈ l then resetProcess else s.proc x := by
  induction l generalizing s with
  | nil => rfl
  | cons y l ih =>
    change (resetProcs l (s.modProc y fun _ => resetProcess)).proc x = _
    rw [ih, State.modProc_proc]
    by_cases hl : x ∈ l <;> simp [hl]

theorem resetProcs_frame (l : List Stn) (s : State) : resetProcs l s = { s with idx := (resetProcs l s).idx } := by
  induction l generalizing s with
  | nil => rfl
  | cons y l ih => exact ih (s.modProc y fun _ => resetProcess)

/-- R182: an answer to a table request reads nothing of the designation, the processes or the pending admission. -/
theorem answerTable_withDesignation (m : Msg) (st : Status) (v : Word) (b : Stb) (i : Idx) (p : Ptb) (s : State) :
    { answerTable m st v { s with idx := i } with stb := b, ptb := p }
      = { answerTable m st v s with stb := b, ptb := p, idx := i } := by
  unfold answerTable postReply
  split_ifs <;> rfl

theorem allOut_iff {s : State} {l : List Stn} : allOut s l = true ↔ ∀ x ∈ l, (s.station x).mode = .out := by
  simp [allOut, isOut]

section
variable {d : DiqItem} {s : State} {w : Nat} (hs : BetweenEvents s) (hc : FromController d s)
  (ha : addressed s d.msg = some w) (ht : Takes .designationWrite d s)

theorem conclude_writeSays (hs : BetweenEvents s) (r : Status) :
    conclude (writeSays d.msg r (removeDiq d s)) = .next (tableAnswered d r 0 s) := conclude_tableAnswer hs r 0

/-- R67: the state after an accepted designation: the stations concerned start anew. -/
def designated (d : DiqItem) (v : Nat) (l : List Stn) (b : Stb) (p : Ptb) (s : State) : State :=
  { tableAnswered d .done v s with stb := b, ptb := p, idx := (resetProcs l (removeDiq d s)).idx }

theorem designated_proc (v : Nat) (l : List Stn) (b : Stb) (p : Ptb) (x : Stn) :
    (designated d v l b p s).proc x = if x ∈ l then resetProcess else s.proc x := resetProcs_proc l (removeDiq d s) x

/-- A designation that leaves the pallet table. -/
theorem designated_same_ptb (v : Nat) (l : List Stn) (b : Stb) : designated d v l b s.ptb s
    = { tableAnswered d .done v s with stb := b, idx := (designated d v l b s.ptb s).idx } := by
  unfold designated tableAnswered answerTable postReply
  split_ifs <;> rfl

theorem conclude_designated (hs : BetweenEvents s) (v : Nat) (l : List Stn) (f : Stb → Stb) (g : Ptb → Ptb) :
    let y := writeDone d.msg v (resetProcs l (removeDiq d s))
    conclude (only { y with stb := f y.stb, ptb := g y.ptb }) = .next (designated d v l (f s.stb) (g s.ptb) s) := by
  intro y
  have hb : y.stb = s.stb := by simp [y]
  have hp : y.ptb = s.ptb := by simp [y]
  have heq : ({ y with stb := f y.stb, ptb := g y.ptb } : State) = designated d v l (f s.stb) (g s.ptb) s := by
    rw [hb, hp]
    refine (congrArg (fun z => ({ writeDone d.msg v z with stb := f s.stb, ptb := g s.ptb } : State))
      (resetProcs_frame l (removeDiq d s))).trans ?_
    exact answerTable_withDesignation ..
  rw [heq]
  exact conclude_only_clear (by simpa [designated, tableAnswered, removeDiq] using hs)

include hs hc ha ht

theorem designationWrite_noStation (h : addrWord d.msg = 2) (h16 : 16 ≤ d.msg.argB.toNat) :
    exec .designationWrite s = .next (tableAnswered d .badArg 0 s) := by
  rw [exec_atWord hc ha (i := .designationWrite) rfl (by decide) ht (fun _ _ => rfl), if_pos h, loadWrite,
    dif_neg (by omega)]
  exact conclude_writeSays hs _

/-- R67: the checks of a load station number, in their order. -/
theorem designationWrite_load (h : addrWord d.msg = 2) {st : Stn} (hst : d.msg.argB.toNat = st.val) :
    exec .designationWrite s = .next (
      if s.stb.rework = some st then tableAnswered d .badArg 0 s
      else if st = s.stb.load then tableAnswered d .done st.val s
      else if (!allOut s [s.stb.load, st]) = true then tableAnswered d .wrongMode 0 s
      else if namedByBank s st = true then tableAnswered d .bankInUse 0 s
      else designated d st.val [s.stb.load, st] { s.stb with load := st } { s.ptb with pendingAdm := none } s) := by
  have hlt : d.msg.argB.toNat < 16 := hst ▸ st.isLt
  have hval : (⟨d.msg.argB.toNat, hlt⟩ : Stn) = st := Fin.ext hst
  rw [exec_atWord hc ha (i := .designationWrite) rfl (by decide) ht (fun _ _ => rfl), if_pos h, loadWrite, dif_pos hlt, hval]
  simp only [apply_ite conclude, apply_ite Host.Outcome.next, conclude_writeSays hs]
  refine if_congr Iff.rfl rfl (if_congr Iff.rfl (conclude_tableAnswer hs .done st.val) (if_congr Iff.rfl rfl
    (if_congr Iff.rfl rfl ?_)))
  exact conclude_designated hs st.val [s.stb.load, st] (fun b => { b with load := st }) (fun p => { p with pendingAdm := none })

theorem designationWrite_noValue (h : addrWord d.msg = 3) (h16 : 16 ≤ d.msg.argB.toNat) (hno : d.msg.argB ≠ 255) :
    exec .designationWrite s = .next (tableAnswered d .badArg 0 s) := by
  have hval : reworkValue d.msg = none := by rw [reworkValue, dif_neg (by omega), if_neg hno]
  rw [exec_atWord hc ha (i := .designationWrite) rfl (by decide) ht (fun _ _ => rfl), if_neg (by omega), reworkWrite, hval]
  exact conclude_writeSays hs _

omit hs hc ha ht in
theorem reworkValue_eq {m : Msg} {v : Option Stn} (h : m.argB.toNat = stnWord v) : reworkValue m = some v := by
  cases v with
  | some st =>
    have hst : m.argB.toNat = st.val := h
    rw [reworkValue, dif_pos (by omega)]
    exact congrArg (some ∘ some) (Fin.ext hst)
  | none =>
    have hnone : m.argB.toNat = 255 := h
    rw [reworkValue, dif_neg (by omega), if_pos (BitVec.eq_of_toNat_eq hnone)]

/-- R67: the checks of a rework station number, in their order. -/
theorem designationWrite_rework (h : addrWord d.msg = 3) {v : Option Stn} (hv : d.msg.argB.toNat = stnWord v) :
    exec .designationWrite s = .next (
      if v = some s.stb.load then tableAnswered d .badArg 0 s
      else if v = s.stb.rework then tableAnswered d .done (stnWord v) s
      else if (!allOut s (s.stb.rework.toList ++ v.toList)) = true then tableAnswered d .wrongMode 0 s
      else if v.any (namedByBank s) = true then tableAnswered d .bankInUse 0 s
      else designated d (stnWord v) (s.stb.rework.toList ++ v.toList) { s.stb with rework := v } s.ptb s) := by
  rw [exec_atWord hc ha (i := .designationWrite) rfl (by decide) ht (fun _ _ => rfl), if_neg (by omega), reworkWrite,
    reworkValue_eq hv]
  simp only [apply_ite conclude, apply_ite Host.Outcome.next, conclude_writeSays hs]
  refine if_congr Iff.rfl rfl (if_congr Iff.rfl (conclude_tableAnswer hs .done (stnWord v)) (if_congr Iff.rfl rfl
    (if_congr Iff.rfl rfl ?_)))
  exact conclude_designated hs (stnWord v) (s.stb.rework.toList ++ v.toList) (fun b => { b with rework := v }) id

end
end Sys2Proof.Machine

namespace Sys2Proof.Proofs
open Sys2Proof.Machine

/-- Settles O26: the checks in their order, and the state after an accepted designation. -/
theorem designationWrites : Obligations.DesignationWrites := by
  intro d s w hs ht hc ha
  refine ⟨fun hw => ⟨designationWrite_noStation hs hc ha ht hw, fun st hst => ?_⟩,
    fun hw => ⟨designationWrite_noValue hs hc ha ht hw, fun v hv => ?_⟩⟩
  · rw [designationWrite_load hs hc ha ht hw hst]
    refine ⟨fun hr => ?_, fun hr hl => ?_, fun hr hl hm => ?_, fun hr hl ho hm => ⟨fun hb => ?_, fun hb => ?_⟩⟩
    · rw [if_pos hr]
    · rw [if_neg hr, if_pos hl]
    · rw [if_neg hr, if_neg hl, if_pos]
      rw [Bool.not_eq_true', ← Bool.not_eq_true, allOut_iff]
      simpa [imp_iff_not_or] using hm
    all_goals
      have hout : allOut s [s.stb.load, st] = true := allOut_iff.2 (by simp [ho, hm])
      rw [if_neg hr, if_neg hl, if_neg (by rw [hout]; decide)]
    · rw [if_pos hb]
    · rw [if_neg (by rw [hb]; decide)]
      refine ⟨_, rfl, rfl, fun x => ?_⟩
      simp [designated_proc]
  · rw [designationWrite_rework hs hc ha ht hw hv]
    refine ⟨fun hr => ?_, fun hr hl => ?_, fun hr hl hm => ?_, fun hr hl ho => ⟨fun hb => ?_, fun hb => ?_⟩⟩
    · rw [if_pos hr]
    · rw [if_neg hr, if_pos hl]
    · rw [if_neg hr, if_neg hl, if_pos]
      rw [Bool.not_eq_true', ← Bool.not_eq_true, allOut_iff]
      obtain ⟨x, hx, hmode⟩ := hm
      exact fun hall => hmode (hall x (by simpa using hx))
    all_goals
      have hout : allOut s (s.stb.rework.toList ++ v.toList) = true := allOut_iff.2 fun x hx => ho x (by simpa using hx)
      rw [if_neg hr, if_neg hl, if_neg (by rw [hout]; decide)]
    · obtain ⟨x, rfl, hx⟩ := hb
      rw [if_pos (show (some x).any (namedByBank s) = true from hx)]
    · have hno : ¬ v.any (namedByBank s) = true := by
        cases v with
        | none => simp
        | some x => simpa using hb x rfl
      rw [if_neg hno]
      refine ⟨_, rfl, designated_same_ptb .., fun x => ?_⟩
      simp [designated_proc]

end Sys2Proof.Proofs
end

section
namespace Sys2Proof.Machine

/-! ### Holds that end without a RESUME (R87, R114) -/

/-- R87: a hold that ends without a RESUME asks nothing of the dispatcher where a settle takes its time. -/
theorem holdEndedIdx_unresumed {s : State} {x : Stn} (hh : s.held x = false)
    (hz : (s.proc x).pstate = .settling → (s.station x).cfg.settle ≠ 0) :
    holdEndedIdx x false s = only (settleAgain s x) := by
  unfold holdEndedIdx settleAgain
  by_cases hp : (s.proc x).pstate = .settling
  · have h0 := hz hp
    simp only [hp, if_true, runSettle, hh]
    simp [h0, after, State.now]
  · simp [hp]

theorem runTasks_holdEndedIdx_unresumed {l : List Stn} {rest : List Task} (n : Nat) {s : State}
    (hh : ∀ x ∈ l, s.held x = false) (hz : ∀ x ∈ l, (s.proc x).pstate = .settling → (s.station x).cfg.settle ≠ 0) :
    runTasks (n + l.length) (l.map (fun st => .holdEndedIdx st false) ++ rest) s
      = runTasks n rest (l.foldl settleAgain s) := by
  induction l generalizing s with
  | nil => rfl
  | cons st l ih =>
    have hstep : perform (.holdEndedIdx st false) s = only (settleAgain s st) :=
      holdEndedIdx_unresumed (hh st List.mem_cons_self) (hz st List.mem_cons_self)
    have hframe := settleAgain_frame s st
    have hheld : ∀ x, (settleAgain s st).held x = s.held x := fun x => by rw [hframe]; rfl
    have hstn : ∀ x, (settleAgain s st).station x = s.station x := fun x => by rw [hframe]; rfl
    have hps : ∀ x, ((settleAgain s st).proc x).pstate = (s.proc x).pstate := fun x => by
      rw [settleAgain_proc]
      split <;> rfl
    rw [List.map_cons, List.cons_append, List.length_cons, ← Nat.add_assoc, runTasks_cons, hstep, List.foldl_cons]
    refine ih (s := settleAgain s st) (fun x hx => (hheld x).trans (hh x (List.mem_cons_of_mem _ hx))) fun x hx => ?_
    rw [hps, hstn]
    exact hz x (List.mem_cons_of_mem _ hx)

/-- Holds that end without a RESUME, with nothing to promote and no command deferred, to the end of the event. -/
theorem conclude_endHolds_unresumed {v : StnSet} {s : State} (hs : BetweenEvents s) (hd : s.ilk.deferred = [])
    (hready : ∀ e en, s.entry? e = some en → v.getLsbD en.station.val = true → en.estate ≠ .ready)
    (hh : ∀ x : Stn, v.getLsbD x.val = true → s.held x = false)
    (hz : ∀ x : Stn, v.getLsbD x.val = true → (s.proc x).pstate = .settling → (s.station x).cfg.settle ≠ 0) :
    conclude (endHolds (s, v) false) = .next (holdsOver v s) := by
  by_cases hv : v = 0
  · subst hv
    have hnone : ∀ x : Stn, ¬ (0 : StnSet).getLsbD x.val = true := fun x => by rw [getLsbD_noStation]; decide
    exact conclude_endHolds hs hd hready fun x hx => absurd hx (hnone x)
  · have hne : endHolds (s, v) false = (duePass s, [.holdEnded v false]) := if_neg hv
    have hready' : readyOf (withRestored v (duePass s)) v = [] := by
      refine readyOf_eq_nil fun e en he hx hes => ?_
      rw [withRestored_entry] at he
      obtain ⟨q, hq, hqe, hqs⟩ := restoreSlot_eq_some he
      exact hready e q hq (hqs ▸ hx) (hqe ▸ hes)
    have hperform : perform (.holdEnded v false) (duePass s)
        = (withRestored v (duePass s), v.members.map (fun st => .holdEndedIdx st false)) := by
      change (withRestored v (duePass s), (readyOf (withRestored v (duePass s)) v).map Task.promote ++ _) = _
      rw [hready']
      rfl
    have hlen : v.members.length ≤ 16 := (List.length_filter_le ..).trans (by simp [allStn])
    have hover : BetweenEvents (holdsOver v s) := by rw [holdsOver_frame]; exact hs
    have hdef : (holdsOver v s).ilk.deferred = [] := by rw [holdsOver_frame]; exact hd
    rw [hne]
    refine conclude_of_run (n := 0 + 2 + v.members.length + 1) ?_ (le_cascadeBound (by omega))
    change runTasks _ (.holdEnded v false :: [.deferPass, .close]) (duePass s) = _
    rw [runTasks_cons, hperform, runTasks_holdEndedIdx_unresumed]
    · change runTasks _ _ (holdsOver v (duePass s)) = _
      rw [holdsOver_duePass, run_end_duePass 0 hover hdef]
    · exact fun x hx => hh x (mem_members.1 hx)
    · exact fun x hx => hz x (mem_members.1 hx)

theorem endHolds_none {s : State} {v : StnSet} (h : ∀ x : Stn, ¬ v.getLsbD x.val = true) (byResume : Bool) :
    endHolds (s, v) byResume = only s := by
  have hv : v = 0 := BitVec.eq_of_getLsbD_eq fun i hi => by
    rw [Bool.eq_false_iff.2 (h ⟨i, hi⟩)]
    exact BitVec.getLsbD_zero.symm
  exact if_pos hv

/-- The end of a hold, seen from a state with the same entries, processes, settle times and time. -/
theorem Released.of_same_settle {ended : Stn → Prop} {s x t : State} (h : Released ended x t)
    (he : ∀ e, x.entry? e = s.entry? e) (hp : ∀ y, x.proc y = s.proc y) (hm : x.mga = s.mga)
    (hc : ∀ y, (x.station y).cfg.settle = (s.station y).cfg.settle) : Released ended s t := by
  simpa only [Released, he, hp, hm, hc] using h

/-! ### A zone write (R66, R154) -/

section
variable {d : DiqItem} {s : State} {w : Nat} {st : Stn}

/-- R66: the zone that a write names. -/
def zoneNamed (m : Msg) : Zone := if m.argB = 0 then .a else .b

/-- R66: a station's record with the named zone. -/
def zoned (m : Msg) (r : Station) : Station := { r with cfg := { r.cfg with zone := zoneNamed m } }

/-- R66: a station's record with the named zone and its TRAP cause. -/
def trappedAs (m : Msg) (s : State) (r : Station) : Station :=
  { zoned m r with holds := { r.holds with trap := (s.zone (zoneNamed m)).trapped } }

/-- R66: the state with the zone written and answered, the holds as they were. -/
def zoneWritten (d : DiqItem) (st : Stn) (s : State) : State :=
  stationWritten d st (zoneNo (zoneNamed d.msg)) (zoned d.msg) s.fcu.checks.geometry s.mga.latch s

/-- R66: the state with the zone and its TRAP cause, without what follows from them. -/
def trapPlaced (d : DiqItem) (st : Stn) (s : State) : State :=
  stationWritten d st (zoneNo (zoneNamed d.msg)) (trappedAs d.msg s) s.fcu.checks.geometry s.mga.latch s

theorem placeTrap_self (on : Bool) (r : Station) : placeTrap st on st r = { r with holds := { r.holds with trap := on } } :=
  if_pos rfl

theorem placeTrap_ne {x : Stn} (h : x ≠ st) (on : Bool) (r : Station) : placeTrap st on x r = r := if_neg h

theorem zoneWritten_self : (zoneWritten d st s).station st = zoned d.msg (s.station st) := upd_get_self ..

theorem zoneWritten_ne {x : Stn} (h : x ≠ st) : (zoneWritten d st s).station x = s.station x := upd_get_ne _ _ h

theorem trapPlaced_self : (trapPlaced d st s).station st = trappedAs d.msg s (s.station st) := upd_get_self ..

theorem trapPlaced_ne {x : Stn} (h : x ≠ st) : (trapPlaced d st s).station x = s.station x := upd_get_ne _ _ h

theorem withHolds_zoneWritten :
    withHolds (placeTrap st (s.zone (zoneNamed d.msg)).trapped) (zoneWritten d st s) = trapPlaced d st s := by
  have hv : (withHolds (placeTrap st (s.zone (zoneNamed d.msg)).trapped) (zoneWritten d st s)).stb.stn
      = (trapPlaced d st s).stb.stn := vector_ext_get fun x => by
    refine (withHolds_station _ _ x).trans ?_
    by_cases hx : x = st
    · subst hx
      rw [zoneWritten_self, placeTrap_self]
      exact trapPlaced_self.symm
    · rw [zoneWritten_ne hx, placeTrap_ne hx]
      exact (trapPlaced_ne hx).symm
  exact congrArg (fun v => { trapPlaced d st s with stb := { s.stb with stn := v } }) hv

theorem zoneWritten_held (x : Stn) : (zoneWritten d st s).held x = s.held x := by
  by_cases hx : x = st
  · subst hx
    rw [State.held, zoneWritten_self]
    rfl
  · exact congrArg Station.held (zoneWritten_ne hx)

/-- R66: a zone write places an answer and changes the station alone. -/
theorem trapPlaced_frame : trapPlaced d st s = { s with
    chi := (trapPlaced d st s).chi, stb := (trapPlaced d st s).stb, mrt := { s.mrt with kept := (trapPlaced d st s).mrt.kept }
    lmn := (trapPlaced d st s).lmn } := by
  unfold trapPlaced stationWritten tableAnswered answerTable postReply
  split_ifs <;> rfl

/-- R66: a hold begins at the written station alone. -/
theorem zone_begins {x : Stn} : (zoneWritten d st s).held x = false
      ∧ (placeTrap st (s.zone (zoneNamed d.msg)).trapped x ((zoneWritten d st s).station x)).held = true
    ↔ x = st ∧ s.held st = false ∧ (trappedAs d.msg s (s.station st)).held = true := by
  rw [zoneWritten_held]
  by_cases hx : x = st
  · subst hx
    rw [zoneWritten_self, placeTrap_self]
    exact (and_iff_right rfl).symm
  · rw [zoneWritten_ne hx, placeTrap_ne hx]
    refine iff_of_false (fun h => ?_) fun h => hx h.1
    exact absurd (h.1.symm.trans h.2) (by decide)

/-- R66: a hold ends at the written station alone. -/
theorem zone_ends {x : Stn} :
    (changeHolds (placeTrap st (s.zone (zoneNamed d.msg)).trapped) (zoneWritten d st s)).2.getLsbD x.val = true
      ↔ x = st ∧ s.held st = true ∧ (trappedAs d.msg s (s.station st)).held = false := by
  rw [changeHolds_ended, zoneWritten_held]
  by_cases hx : x = st
  · subst hx
    rw [zoneWritten_self, placeTrap_self]
    exact (and_iff_right rfl).symm
  · rw [zoneWritten_ne hx, placeTrap_ne hx]
    refine iff_of_false (fun h => ?_) fun h => hx h.1
    exact absurd (h.2.symm.trans h.1) (by decide)

section
variable (hs : BetweenEvents s) (ht : Takes .zoneWrite d s) (hc : FromController d s)
  (ha : addressed s d.msg = some w) (hst : cfgStation? d.msg = some st)
include ht hc ha hst

include hs in
theorem zoneWrite_wrongMode (hm : (s.station st).mode ≠ .out) :
    exec .zoneWrite s = .next (tableAnswered d .wrongMode 0 s) := by
  have hgate : (!isOut (removeDiq d s) st) = true := by rw [Bool.eq_false_iff.2 (isOut_removeDiq.not.2 hm)]; rfl
  rw [exec_atWord hc ha (i := .zoneWrite) rfl (by decide) ht (fun _ _ => rfl), hst]
  simp only [hgate, if_true]
  exact conclude_tableAnswer hs .wrongMode 0

theorem zoneWrite_stored (hm : (s.station st).mode = .out) : exec .zoneWrite s
    = conclude (endHolds (changeHolds (placeTrap st (s.zone (zoneNamed d.msg)).trapped) (zoneWritten d st s)) false) := by
  have hgate : ¬ (!isOut (removeDiq d s) st) = true := by rw [isOut_removeDiq.2 hm]; decide
  rw [exec_atWord hc ha (i := .zoneWrite) rfl (by decide) ht (fun _ _ => rfl), hst]
  simp only [if_neg hgate]
  have hw : writeDone d.msg (zoneNo (zoneNamed d.msg)) (modCfg st (fun c => { c with zone := zoneNamed d.msg }) (removeDiq d s))
      = zoneWritten d st s := writeDone_withStation ..
  exact congrArg (fun y => conclude (endHolds (changeHolds _ y) false)) hw

include hs

/-- R66: a station that is not newly held and whose hold does not end. -/
theorem zoneWrite_same (hm : (s.station st).mode = .out) (hh : (trappedAs d.msg s (s.station st)).held = s.held st) :
    exec .zoneWrite s = .next (trapPlaced d st s) := by
  have hfst : (changeHolds (placeTrap st (s.zone (zoneNamed d.msg)).trapped) (zoneWritten d st s)).1 = trapPlaced d st s := by
    rw [changeHolds_fst_of_none_begin, withHolds_zoneWritten]
    intro x hx
    refine Bool.eq_false_iff.2 fun hb => ?_
    obtain ⟨-, h0, h1⟩ := zone_begins.1 ⟨hx, hb⟩
    exact absurd (h0.symm.trans (hh.symm.trans h1)) (by decide)
  rw [zoneWrite_stored ht hc ha hst hm, ← Prod.eta (changeHolds _ _), hfst, endHolds_none]
  · exact conclude_stationWritten hs ..
  · intro x hx
    obtain ⟨-, h0, h1⟩ := zone_ends.1 hx
    exact absurd (h0.symm.trans (hh.symm.trans h1)) (by decide)

/-- R66, R77: a station that becomes held. -/
theorem zoneWrite_begins (hm : (s.station st).mode = .out) (h0 : s.held st = false)
    (h1 : (trappedAs d.msg s (s.station st)).held = true) :
    ∃ t, exec .zoneWrite s = .next t ∧ HoldsBegin (· = st) (trapPlaced d st s) t := by
  have hb := (holdsBegin_changeHolds (placeTrap st (s.zone (zoneNamed d.msg)).trapped) (zoneWritten d st s)).of_iff
    (c := (· = st)) fun x => ⟨fun hx => zone_begins.2 ⟨hx, h0, h1⟩, fun h => (zone_begins.1 h).1⟩
  rw [withHolds_zoneWritten] at hb
  refine ⟨_, ?_, hb⟩
  rw [zoneWrite_stored ht hc ha hst hm, ← Prod.eta (changeHolds _ _), endHolds_none]
  · exact conclude_only_clear (by rw [hb.frame, trapPlaced_frame]; exact hs)
  · intro x hx
    exact absurd (h0.symm.trans (zone_ends.1 hx).2.1) (by decide)

/-- R66, R114: a station whose hold ends. -/
theorem zoneWrite_ends (hm : (s.station st).mode = .out) (h0 : s.held st = true)
    (h1 : (trappedAs d.msg s (s.station st)).held = false) (hcalm : EndsCalmly (· = st) s) :
    ∃ v : StnSet, (∀ x : Stn, v.getLsbD x.val = true ↔ x = st)
      ∧ exec .zoneWrite s = .next (holdsOver v (trapPlaced d st s)) := by
  obtain ⟨hd, hready, hsettle⟩ := hcalm
  have hv : ∀ x : Stn,
      (changeHolds (placeTrap st (s.zone (zoneNamed d.msg)).trapped) (zoneWritten d st s)).2.getLsbD x.val = true ↔ x = st :=
    fun x => zone_ends.trans ⟨And.left, fun hx => ⟨hx, h0, h1⟩⟩
  have hfst : (changeHolds (placeTrap st (s.zone (zoneNamed d.msg)).trapped) (zoneWritten d st s)).1 = trapPlaced d st s := by
    rw [changeHolds_fst_of_none_begin, withHolds_zoneWritten]
    intro x hx
    refine Bool.eq_false_iff.2 fun hb => ?_
    exact absurd ((zone_begins.1 ⟨hx, hb⟩).2.1.symm.trans h0) (by decide)
  refine ⟨_, hv, ?_⟩
  rw [zoneWrite_stored ht hc ha hst hm, ← Prod.eta (changeHolds _ _), hfst]
  have hproc : ∀ x, (trapPlaced d st s).proc x = s.proc x := fun x => by rw [trapPlaced_frame]; rfl
  refine conclude_endHolds_unresumed (by rw [trapPlaced_frame]; exact hs) (by rw [trapPlaced_frame]; exact hd) ?_ ?_ ?_
  · intro e en he hx
    rw [trapPlaced_frame] at he
    exact hready e en he ((hv _).1 hx)
  · intro x hx
    rw [(hv x).1 hx]
    exact (congrArg Station.held trapPlaced_self).trans h1
  · intro x hx
    rw [(hv x).1 hx, hproc, trapPlaced_self]
    exact hsettle st rfl

end
end
end Sys2Proof.Machine

namespace Sys2Proof.Proofs
open Sys2Proof.Machine

/-- Settles O25: the gate, and the three ways in which the TRAP cause changes whether the station is held. -/
theorem zoneWriteMovesTheTrapCause : Obligations.ZoneWriteMovesTheTrapCause := by
  intro d s w st hs ht hc ha hst
  refine ⟨zoneWrite_wrongMode hs ht hc ha hst, fun hm => ?_⟩
  intro z trap h
  refine ⟨fun hh => ?_, fun h0 htrap => ?_, fun hh htrap hcalm => ?_⟩
  · have hheld : (trappedAs d.msg s (s.station st)).held = s.held st := by
      refine Eq.trans ?_ hh.symm
      simp only [trappedAs, zoned, Station.held, HoldCauses.held, Bool.or_right_comm]
      rfl
    rw [zoneWrite_same hs ht hc ha hst hm hheld]
    exact congrArg Host.Outcome.next (stationWritten_same_checks ..)
  · have h1 : (trappedAs d.msg s (s.station st)).held = true := by
      have : (s.zone (zoneNamed d.msg)).trapped = true := htrap
      simp [trappedAs, Station.held, HoldCauses.held, this]
    obtain ⟨t, he, hb⟩ := zoneWrite_begins hs ht hc ha hst hm h0 h1
    have hstn : ∀ x, t.station x = (trapPlaced d st s).station x := fun x => by rw [hb.frame]; rfl
    have hent : ∀ e, (trapPlaced d st s).entry? e = s.entry? e := fun e => by rw [trapPlaced_frame]; rfl
    have htime : (trapPlaced d st s).mga.time = s.mga.time := by rw [trapPlaced_frame]
    have hself := (hstn st).trans trapPlaced_self
    refine ⟨t, he, by rw [hself]; rfl, ?_, fun x hx => (hstn x).trans (trapPlaced_ne hx),
      fun e en hen hx => hb.kept e en ((hent e).trans hen) hx, fun e en hen hx => ?_⟩
    · rw [hself]
      exact congrArg (fun b => { h with trap := b }) htrap
    · rw [← htime]
      exact hb.frozen e en ((hent e).trans hen) hx
  · have h0 : s.held st = true := by
      change h.held = true
      rw [hh]
      rfl
    have h1 : (trappedAs d.msg s (s.station st)).held = false := by
      have hfree : (s.zone (zoneNamed d.msg)).trapped = false := htrap
      have hop : h.operator = false := by rw [hh]
      have hfa : h.fault = false := by rw [hh]
      simp only [trappedAs, Station.held, HoldCauses.held, hfree, Bool.or_false]
      exact Bool.or_eq_false_iff.2 ⟨hop, hfa⟩
    obtain ⟨v, hv, he⟩ := zoneWrite_ends hs ht hc ha hst hm h0 h1 hcalm
    have hstn : ∀ x, (holdsOver v (trapPlaced d st s)).station x = (trapPlaced d st s).station x := fun x => by
      rw [holdsOver_frame]
      rfl
    have hself := (hstn st).trans trapPlaced_self
    refine ⟨_, he, by rw [hself]; rfl, ?_, fun x hx => (hstn x).trans (trapPlaced_ne hx),
      (released_holdsOver hv).of_same_settle (fun e => by rw [trapPlaced_frame]; rfl) (fun x => by rw [trapPlaced_frame]; rfl)
        (by rw [trapPlaced_frame]) (fun x => ?_), ?_, ?_, ?_⟩
    · rw [hself]
      exact congrArg (fun b => { h with trap := b }) htrap
    · by_cases hx : x = st
      · subst hx
        rw [trapPlaced_self]
        rfl
      · rw [trapPlaced_ne hx]
    all_goals
      rw [holdsOver_frame, trapPlaced_frame]

end Sys2Proof.Proofs
end

section
namespace Sys2Proof.Machine

/-! ### Uncommanded motion (R69) -/

/-- R69, R104: the circular difference is the smaller of the two distances. -/
theorem circDiff_eq (c a : Angle) : circDiff c a = min (a - c).toNat (c - a).toNat := by
  have hrev : revDist c a = (c - a).toNat := by
    unfold revDist fwdDist
    rw [BitVec.toNat_sub, BitVec.toNat_sub]
    have := a.isLt
    have := c.isLt
    split <;> omega
  rw [circDiff, hrev]
  rfl

/-- R69: the flag cleared at the reported angle and the occurrence recorded, before the reaction. -/
def motionRecorded (st : Stn) (a : Angle) (s : State) : State :=
  clearReference st (recordFault fUncommandedMotion (some st) (occPallet s st) (s.modStn st (fun r => { r with c := a })))

/-- R69: uncommanded motion with its reaction. -/
def motionFound (st : Stn) (a : Angle) (s : State) : State :=
  react fUncommandedMotion ((motionRecorded st a s).faultRec fUncommandedMotion).level (some st) (motionRecorded st a s)

section
variable {s : State} {st : Stn} {a : Angle}

theorem atUncommanded_found (hm : (s.station st).mode ≠ .out) (hd : (s.station st).cfg.tol < circDiff (s.station st).c a) :
    atUncommanded st a s = motionFound st a s := if_pos ⟨hm, hd⟩

theorem atUncommanded_quiet (h : (s.station st).mode = .out ∨ circDiff (s.station st).c a ≤ (s.station st).cfg.tol) :
    atUncommanded st a s = s.modStn st (fun r => { r with c := a }) :=
  if_neg fun hc => h.elim hc.1 (Nat.not_le_of_lt hc.2)

/-- R70: what becomes of a station's record when the flag is cleared. -/
theorem clearReference_station (st x : Stn) (s : State) : (clearReference st s).station x
    = if x = st then { s.station st with referenced := false } else s.station x := by
  have hlost : ∀ y, (refLost st y).stb = y.stb := fun y => by unfold refLost; split <;> simp
  unfold clearReference
  split
  · rw [State.station, hlost]
    exact State.modStn_station ..
  next hr =>
    split
    next hx =>
      have hf : (s.station st).referenced = false := Bool.eq_false_iff.2 hr
      rw [hx, ← hf]
    next => rfl

theorem motionRecorded_station (x : Stn) : (motionRecorded st a s).station x
    = if x = st then { s.station st with c := a, referenced := false } else s.station x := by
  have hrec : ∀ y, (recordFault fUncommandedMotion (some st) (occPallet s st)
      (s.modStn st (fun r => { r with c := a }))).station y = if y = st then { s.station st with c := a } else s.station y := fun y => by
    rw [State.station, recordFault_stb]
    exact State.modStn_station ..
  rw [motionRecorded, clearReference_station, hrec, hrec, if_pos rfl]
  split <;> rfl

theorem raises_motionFound : Raises fUncommandedMotion (some st) (occPallet s st) s (motionFound st a s) := by
  obtain ⟨hp, hc, hs, ht, ho⟩ := ((raises_recordFault fUncommandedMotion (some st) (occPallet s st)
    (s.modStn st (fun r => { r with c := a }))).of_fcu (stopsOnly_clearReference st _).fcu).from_fcu (r := s) rfl
  obtain ⟨⟨z, hz⟩, hj⟩ := listsZones_react fUncommandedMotion ((motionRecorded st a s).faultRec fUncommandedMotion).level
    (some st) (motionRecorded st a s)
  unfold motionFound
  exact ⟨by rw [hz]; exact hp, by rw [hz]; exact hc, by rw [hz]; exact hs, by rw [hz]; exact ht,
    fun j h => (hj j h).trans (ho j h)⟩

theorem motionFound_frame : (motionFound st a s).ptb = s.ptb ∧ (motionFound st a s).rcs = s.rcs
    ∧ (motionFound st a s).ilk = s.ilk ∧ (motionFound st a s).chi.uiq = s.chi.uiq := by
  have h := stopsOnly_clearReference st
    (recordFault fUncommandedMotion (some st) (occPallet s st) (s.modStn st (fun r => { r with c := a })))
  have huiq : ∀ y, (clearReference st y).chi.uiq = y.chi.uiq := fun y => by
    unfold clearReference refLost enterStalled
    split_ifs <;> simp [State.modStn, State.modProc]
  unfold motionFound
  rw [react_ptb, react_rcs, react_ilk, react_chi_uiq]
  refine ⟨h.ptb.trans (recordFault_ptb ..), h.rcs.trans (recordFault_rcs ..), h.ilk.trans (recordFault_ilk ..), ?_⟩
  exact (huiq _).trans (recordFault_chi_uiq ..)

end

/-! ### The angle and the wind after a MOVE (R108) -/

section
variable {m : Msg} {s : State} {st : Stn} {e : EntryNo} {en : Entry}

theorem windUpdate_of_le {p : Plan} {a : Angle} (h : (windAfter p (s.station st).cfg.tol a (s.station st).w).natAbs
    ≤ (s.station st).cfg.windLimit) : windUpdate st (some p) a s
      = s.modStn st (fun r => { r with c := a, w := windAfter p (s.station st).cfg.tol a (s.station st).w }) :=
  if_neg (Nat.not_lt_of_le h)

theorem inFlight_entry {k : CmdKind} (h : inFlight s st k = some e) : ∃ q, s.entry? e = some q := by
  obtain ⟨q, hq, -⟩ := mem_entriesWhere.1 (List.mem_of_head? h)
  exact ⟨q, hq⟩

/-- R108: the report in the UIQ and the station's angle and wind as the MOVE leaves them. -/
def turnedBy (p : Plan) (st : Stn) (m : Msg) (s : State) : State :=
  (reported m s).modStn st (fun r =>
    { r with c := m.argA, w := windAfter p (s.station st).cfg.tol m.argA (s.station st).w })

/-! ### The AT report (R68) -/

theorem applyAt_referenced (h : m.argB = 3) : applyAt st m s = only (atReferenced st m.argA s) :=
  if_pos (by rw [h]; rfl)

theorem applyAt_fault (h : 4 ≤ m.argB.toNat) : applyAt st m s = only (occur fNodeFault (some st) (occPallet s st) s) := by
  unfold applyAt
  dsimp only
  rw [if_neg (by omega), if_pos h]

theorem applyAt_idle (h : m.argB.toNat ≤ 2) (hn : inFlight s st .move = none) :
    applyAt st m s = only (atUncommanded st m.argA s) := by
  unfold applyAt
  dsimp only
  rw [if_neg (by omega), if_neg (by omega), hn]

theorem applyAt_moving (h : m.argB = 1) (hn : inFlight s st .move = some e) :
    applyAt st m s = only (s.modStn st (fun r => { r with c := m.argA })) := by
  obtain ⟨q, hq⟩ := inFlight_entry hn
  have h1 : m.argB.toNat = 1 := by rw [h]; rfl
  unfold applyAt
  dsimp only
  rw [if_neg (by omega), if_neg (by omega), hn]
  simp only [hq]
  exact if_pos h1

/-- R108, R123: the MOVE of the station has come to its target. -/
theorem applyAt_inPosition {k : Fin 8} {g : Angle} {p : Plan} (h : m.argB = 0) (hn : inFlight s st .move = some e)
    (he : s.entry? e = some en) (hp : en.params = .move k g (some p)) (hes : en.estate = .issued)
    (hat : atTarget (s.station st).cfg.tol m.argA g = true) :
    applyAt st m s = (windUpdate st (some p) m.argA s, [.free e (.done none false)]) := by
  have h0 : m.argB.toNat = 0 := by rw [h]; rfl
  have hend : moveEnding en (s.station st).cfg.tol true m.argA = .done none false := by
    simp only [moveEnding, hes, hp, hat, Bool.and_self, if_true]
  unfold applyAt
  dsimp only
  rw [if_neg (by omega), if_neg (by omega), hn]
  simp only [he]
  rw [if_neg (by omega), planOf, hp, h0]
  exact congrArg (fun w => (windUpdate st (some p) m.argA s, [Task.free e w])) hend

/-- R109: a MOVE of the station that is SENDING, ISSUED or CANCELLING starts at the reference angle. -/
theorem restartPlan_move {a : Angle} {k : Fin 8} {g : Angle} {p : Plan} (hst : en.station = st)
    (hp : en.params = .move k g (some p)) (hes : en.estate = .sending ∨ en.estate = .issued ∨ en.estate = .cancelling) :
    restartPlan st a en = { en with params := .move k g (some { p with start := a }) } := by
  rw [restartPlan, if_pos ⟨hst, hes⟩, hp]

theorem restartPlan_other {a : Angle} (hst : en.station ≠ st) : restartPlan st a en = en := if_neg fun h => hst h.1

theorem atReferenced_entry {a : Angle} (he : s.entry? e = some en) :
    (atReferenced st a s).entry? e = some (restartPlan st a en) := by
  have h : (atReferenced st a s).entry? e = (s.entry? e).map (restartPlan st a) := Vector.get_map ..
  rw [h, he]
  rfl

end

/-! ### The event of an AT report -/

theorem closeEvent_entry (s : State) (e : EntryNo) : (closeEvent s).entry? e = s.entry? e := by
  rw [State.entry?, closeEvent_entries]
  rfl

theorem closeEvent_station (s : State) (x : Stn) : (closeEvent s).station x = s.station x := by
  rw [State.station, closeEvent_stb]
  rfl

end Sys2Proof.Machine

namespace Sys2Proof.Proofs
open Sys2Proof.Machine

section
variable {m : Msg} {st : Stn} {s : State} (hr : ReportAt kAt m st s)
include hr

/-- The AT REFERENCED of O55. -/
theorem atReferenced_report (hs : BetweenEvents s) (hd : s.ilk.deferred = []) (h3 : m.argB = 3) :
    exec (.atReport m) s = .next (closeEvent (atReferenced st m.argA (enterUiq m s))) := by
  refine (reportAs_applied hr).trans ?_
  rw [applyAt_referenced h3]
  exact conclude_only_duePass (s := atReferenced st m.argA (enterUiq m s)) (enterUiq_passDue hs) hd

/-- The AT of O55 that sets the angle alone. -/
theorem angle_report (hs : BetweenEvents s) (hd : s.ilk.deferred = [])
    (h : applyAt st m (reported m s) = only ((reported m s).modStn st (fun r => { r with c := m.argA }))) :
    exec (.atReport m) s = .next (closeEvent ((enterUiq m s).modStn st (fun r => { r with c := m.argA }))) := by
  refine (reportAs_applied hr).trans ?_
  rw [h]
  exact conclude_only_duePass (s := (enterUiq m s).modStn st (fun r => { r with c := m.argA })) (enterUiq_passDue hs) hd

end

/-- Settles O55: each status of the report is applied with the report in the UIQ, and its event ends with a pass over an empty
list. -/
theorem angleReports : Obligations.AngleReports := by
  refine ⟨fun m st s hs hr hd h3 => ?_, fun m st s hs hr hd h2 hn => ?_, fun m st s e hs hr hd h1 hn => ?_,
    fun m st s e en k g p hs hr hnob h0 he hst hp hes ho hpend hu hat => ?_, fun m st s hs hr hd h4 => ?_⟩
  · have hentry : ∀ e en, s.entry? e = some en → (closeEvent (atReferenced st m.argA (enterUiq m s))).entry? e
        = some (restartPlan st m.argA en) := fun e en he =>
      (closeEvent_entry ..).trans (atReferenced_entry (s := enterUiq m s) he)
    refine ⟨_, atReferenced_report hr hs hd h3, closeEvent_stb _, fun e en k g p he hst hp hes => ?_, fun e en he hst => ?_,
      closeEvent_chi_uiq _, closeEvent_ptb _, closeEvent_fcu _, closeEvent_idx _⟩
    · rw [hentry e en he, restartPlan_move hst hp hes]
    · rw [hentry e en he, restartPlan_other hst]
  · intro gap
    have hgap : circDiff (s.station st).c m.argA = gap := circDiff_eq ..
    have hidle : applyAt st m (reported m s) = only (atUncommanded st m.argA (reported m s)) := applyAt_idle h2 hn
    refine ⟨fun h => angle_report hr hs hd (hidle.trans (congrArg only (atUncommanded_quiet (s := reported m s) ?_))),
      fun hm hfar => ?_⟩
    · exact h.imp_right fun hle => hgap.trans_le hle
    · have hfound := atUncommanded_found (s := reported m s) hm (hfar.trans_eq hgap.symm)
      obtain ⟨hptb, hrcs, hilk, huiq⟩ := motionFound_frame (s := reported m s) (st := st) (a := m.argA)
      have hexec : exec (.atReport m) s = .next (closeEvent (passOver (motionFound st m.argA (reported m s)))) := by
        refine (reportAs_applied hr).trans ?_
        rw [hidle, hfound]
        exact conclude_only_passOver (by rw [hilk]; exact hd)
      obtain ⟨hpend, hcount, hlast, -, hothers⟩ := ((raises_motionFound (s := reported m s) (st := st) (a := m.argA)).of_fcu
        (u := closeEvent (passOver (motionFound st m.argA (reported m s)))) (closeEvent_fcu _)).from_fcu (r := s) rfl
      have hstn : ∀ x, ∃ h c, (closeEvent (passOver (motionFound st m.argA (reported m s)))).station x
          = { (motionRecorded st m.argA (reported m s)).station x with holds := h, stopCauses := c } := fun x => by
        rw [closeEvent_station]
        exact (holdsOnly_react ..).station x
      obtain ⟨h, c, hself⟩ := hstn st
      rw [motionRecorded_station, if_pos rfl] at hself
      refine ⟨_, hexec, by rw [hself], by rw [hself]; rfl, by rw [hself], hpend, hcount, hlast, hothers, fun x hx => ?_,
        (closeEvent_chi_uiq _).trans huiq, (closeEvent_ptb _).trans hptb, (closeEvent_rcs _).trans hrcs⟩
      obtain ⟨h, c, hother⟩ := hstn x
      rw [hother, motionRecorded_station, if_neg hx]
      exact ⟨rfl, rfl⟩
  · exact angle_report hr hs hd (applyAt_moving (s := reported m s) h1 hn)
  · intro w hw
    obtain ⟨hd, hfree, hidle⟩ := hnob
    have hk : paramsKind en.params = .move := by rw [hp]; rfl
    have hn : inFlight (reported m s) st .move = some e := inFlight_alone (s := reported m s) he hst hk hes hu
    have happly := applyAt_inPosition (s := reported m s) h0 hn he hp hes hat
    rw [windUpdate_of_le (s := reported m s) hw] at happly
    have hstops : StopsOnly (reported m s) (turnedBy p st m s) := .of_modStn st (reported m s) fun _ => rfl
    have hl : LeavesAlone e en (turnedBy p st m s) := hstops.leavesAlone
      ⟨ho, hst ▸ hpend, hidle, hst ▸ hu, hfree⟩
    have hfs := noticesOnly_freedState (e := e) (q := en) (how := .done none false) (x := turnedBy p st m s) fun _ => rfl
    have hdef : (freedState e en (.done none false) (turnedBy p st m s)).ilk.deferred = [] := by
      rw [hfs]
      exact (congrArg (List.filter _) hd).trans rfl
    have hclaim : (turnedBy p st m s).ev.diqClaim = false := congrArg Within.diqClaim hs
    have hexec : exec (.atReport m) s = .next (closeEvent (passOver (freedState e en (.done none false) (turnedBy p st m s)))) :=
      ((reportAs_applied hr).trans (congrArg conclude happly)).trans
        (conclude_free (x := turnedBy p st m s) he hl hclaim rfl (by simp) hdef)
    refine ⟨_, hexec, ?_, ?_, fun j hj => ?_, closeEvent_summary _ _ ?_, ?_, ?_, ?_, ?_⟩
    · rw [closeEvent_stb, passOver, State.modEv, hfs]
      rfl
    · rw [closeEvent_entry, State.entry?, passOver_entries, hfs]
      exact setEntry_entry_self (turnedBy p st m s) e none
    · rw [closeEvent_entry, State.entry?, passOver_entries, hfs]
      exact setEntry_entry_ne (s := turnedBy p st m s) hj
    · change (notice .command _ _ _ _).mga.summary.getLsbD 3 = true
      rw [notice_summary, BitVec.getLsbD_or]
      exact Bool.or_true _
    · rw [closeEvent_chi_uiq, passOver, State.modEv, hfs]
      rfl
    · rw [closeEvent_fcu, passOver, State.modEv, hfs]
      rfl
    · rw [closeEvent_ptb, passOver, State.modEv, hfs]
      rfl
    · rw [closeEvent_rcs, passOver, State.modEv, hfs]
      rfl
  · have hexec : exec (.atReport m) s = .next (occurred fNodeFault (some st) (occPallet s st) (reported m s)) := by
      refine (reportAs_applied hr).trans ?_
      rw [applyAt_fault h4]
      exact conclude_occur hd
    have hall := holdsOnly_occur fNodeFault (some st) (occPallet s st) (reported m s)
    refine ⟨_, hexec, raises_occurred rfl, fun x => ?_, fun e => ?_, occurred_uiq, occurred_ptb, occurred_rcs⟩
    · obtain ⟨h, c, hx⟩ := hall.station x
      rw [occurred_station, hx]
      exact ⟨rfl, rfl, rfl⟩
    · have hentry : (occurred fNodeFault (some st) (occPallet s st) (reported m s)).entry? e
          = (occur fNodeFault (some st) (occPallet s st) (reported m s)).entry? e := closeEvent_entry ..
      rw [hentry]
      cases he : s.entry? e with
      | none => rw [hall.free e he]
      | some en =>
        obtain ⟨q, hq, -⟩ := hall.entry e en he
        rw [hq]
        rfl

end Sys2Proof.Proofs
end

section
namespace Sys2Proof.Machine

/-! ### A mode answered and applied (R74, R76) -/

section
variable {d : DiqItem} {s : State} {st : Stn} {md : Mode} {due : Bool}

/-- R182: an answer to an ACTION changes the queues of port A alone. -/
theorem answered_frame (d : DiqItem) (a : Status) (n : Nat) (s : State) : answered d a n s = { s with
    chi := (answered d a n s).chi, mrt := { s.mrt with kept := (answered d a n s).mrt.kept } } := by
  unfold answered answerAction postReply
  split_ifs <;> rfl

theorem answered_deq (d : DiqItem) (a : Status) (n : Nat) (s : State) : (answered d a n s).chi.deq = s.chi.deq := by
  unfold answered answerAction postReply
  split_ifs <;> rfl

/-- R74: the MODE answered DONE, its mode in place and none pending, with the pass due or not. -/
def modeState (md : Mode) (due : Bool) (d : DiqItem) (st : Stn) (s : State) : State :=
  { s with
    chi := (answered d .done 0 s).chi
    mrt := { s.mrt with kept := (answered d .done 0 s).mrt.kept }
    stb := { s.stb with stn := upd s.stb.stn st (fun r => { r with mode := md, pendingMode := none }) }
    ev := { s.ev with passDue := due } }

theorem modeState_station_self :
    (modeState md due d st s).station st = { s.station st with mode := md, pendingMode := none } := upd_get_self ..

theorem modeState_held : (modeState md due d st s).held st = s.held st := by
  rw [State.held, modeState_station_self]
  rfl

/-- R74: an answer with the pending mode set or withdrawn. -/
theorem setPending_answered (p : Option Mode) (a : Status) (n : Nat) : setPending st p (answered d a n s)
    = { answered d a n s with stb := { s.stb with stn := upd s.stb.stn st (fun r => { r with pendingMode := p }) } } := by
  unfold setPending State.modStn
  rw [answered_frame]

theorem current_upd (hcur : md = (s.station st).mode) : upd s.stb.stn st (fun r => { r with mode := md, pendingMode := none })
    = upd s.stb.stn st (fun r => { r with pendingMode := none }) := upd_congr (by rw [hcur]; rfl)

/-- R74: the current mode answered, no mode pending. -/
theorem setPending_current (hs : BetweenEvents s) (hcur : md = (s.station st).mode) :
    setPending st none (answered d .done 0 s) = modeState md false d st s := by
  have hev : s.ev = { s.ev with passDue := false } := by rw [hs]; rfl
  rw [setPending_answered, ← current_upd hcur, answered_frame]
  exact congrArg (fun v => { modeState md false d st s with ev := v }) hev

section
variable (hs : BetweenEvents s) (ht : Takes .mode d s) (hc : FromController d s)

include ht hc in
/-- R74: the row of MODE for a station and a mode. -/
theorem mode_named (hst : d.msg.stn? = some st) (hmd : d.msg.argB.toNat = modeCode md) : exec .mode s = conclude
    (if md = (s.station st).mode then (setPending st none (answered d .done 0 s), withdrawn (removeDiq d s) st)
     else if hasEntry s st then only (setPending st (some md) (answered d .accepted 0 s))
     else if md == .auto && isMachining s st && !(s.station st).referenced then only (answered d .notReferenced 0 s)
     else (setPending st none (answered d .done 0 s), [.applyMode st md])) := by
  have hmode : modeOf? d.msg.argB.toNat = some md := by
    rw [hmd]
    cases md <;> rfl
  rw [exec_fromController (i := .mode) rfl (by decide) ht hc fun _ _ => rfl, hst, hmode]
  rfl

include ht hc

include hs in
theorem mode_badArg (h : d.msg.stn? = none ∨ 3 ≤ d.msg.argB.toNat) : exec .mode s = .next (answered d .badArg 0 s) := by
  rw [exec_fromController (i := .mode) rfl (by decide) ht hc fun _ _ => rfl]
  have hnone : d.msg.stn? = none ∨ modeOf? d.msg.argB.toNat = none := by
    refine h.imp_right fun h3 => ?_
    unfold modeOf?
    split
    case h_4 => rfl
    all_goals omega
  rcases hnone with h | h
  · rw [h]
    exact conclude_answer hs .badArg 0
  · rw [h]
    cases d.msg.stn? <;> exact conclude_answer hs .badArg 0

section
variable (hst : d.msg.stn? = some st) (hmd : d.msg.argB.toNat = modeCode md)
include hst hmd

include hs in
theorem mode_current (hcur : md = (s.station st).mode) :
    exec .mode s = conclude (modeState md false d st s, withdrawn s st) := by
  rw [mode_named ht hc hst hmd, if_pos hcur, setPending_current hs hcur]
  rfl

include hs in
theorem mode_pends (hne : md ≠ (s.station st).mode) (hen : hasEntry s st = true) : exec .mode s
    = .next ((answered d .accepted 0 s).modStn st (fun r => { r with pendingMode := some md })) := by
  rw [mode_named ht hc hst hmd, if_neg hne, if_pos hen]
  refine conclude_only_clear ?_
  rw [setPending_answered, answered_frame]
  exact hs

variable (hne : md ≠ (s.station st).mode) (hno : hasEntry s st = false)
include hne hno

include hs in
theorem mode_notReferenced (hauto : md = .auto) (hk : isMachining s st = true) (hr : (s.station st).referenced = false) :
    exec .mode s = .next (answered d .notReferenced 0 s) := by
  rw [mode_named ht hc hst hmd, if_neg hne, if_neg (by simp [hno]), if_pos (by simp [hauto, hk, hr])]
  exact conclude_answer hs .notReferenced 0

/-- R76: the tasks of a mode applied end in `u`. -/
theorem mode_applied {z u : State} {l : List Task} {n : Nat}
    (hr : md = .auto → isMachining s st = true → (s.station st).referenced = true)
    (hp : applyMode st md (setPending st none (answered d .done 0 s)) = (z, l)) (h : EndsIn n z l u) (hn : n ≤ 99) :
    exec .mode s = .next u := by
  have hgate : ¬ (md == .auto && isMachining s st && !(s.station st).referenced) = true := by
    simp only [Bool.and_eq_true, beq_iff_eq, Bool.not_eq_true']
    rintro ⟨⟨ha, hk⟩, hf⟩
    exact absurd ((hr ha hk).symm.trans hf) (by decide)
  rw [mode_named ht hc hst hmd, if_neg hne, if_neg (by simp [hno]), if_neg hgate]
  exact EndsIn.conclude (EndsIn.step hp (by rwa [List.append_nil])) (by omega)

end
end

/-- R76: the mode in place, with the pass due. -/
theorem modStn_setPending : duePass ((setPending st none (answered d .done 0 s)).modStn st (fun r => { r with mode := md }))
    = modeState md true d st s := by
  rw [setPending_answered]
  unfold duePass State.modStn State.modEv
  simp only [upd_upd]
  rw [answered_frame]
  rfl

theorem applyMode_auto : applyMode st .auto (setPending st none (answered d .done 0 s)) = (modeState .auto true d st s,
    (if (s.proc st).pstate = .blocked then [] else [.takeUp st false]) ++ [.reroute]) := by
  have hproc : (setPending st none (answered d .done 0 s)).proc st = s.proc st := by
    rw [setPending_answered, answered_frame]
    rfl
  rw [← modStn_setPending (md := .auto), ← hproc]
  rfl

/-- R83: on leaving AUTO the process is given up. -/
theorem applyMode_other (hmd : md ≠ .auto) : applyMode st md (setPending st none (answered d .done 0 s))
    = (if (s.station st).mode = .auto then (modeState md true d st s).modProc st
        (fun p => p.giveUp (if (s.proc st).pstate = .blocked then .blocked else .empty)) else modeState md true d st s,
      [.reroute]) := by
  have hproc : (setPending st none (answered d .done 0 s)).proc st = s.proc st := by
    rw [setPending_answered, answered_frame]
    rfl
  have hold : ((setPending st none (answered d .done 0 s)).station st).mode = (s.station st).mode := by
    rw [setPending_answered, State.station]
    dsimp only
    rw [upd_get_self]
    rfl
  rw [← modStn_setPending, ← hproc, ← hold, applyMode, if_neg hmd]
  split <;> rfl

/-! ### An event that ends without tasks to do -/

/-- R76: an event that changes processes alone, seen at its end. -/
theorem closeEvent_modeState {z : State} (hs : BetweenEvents s) (hz : z = { modeState md true d st s with idx := z.idx }) :
    closeEvent (passOver z) = { modeState md false d st s with idx := z.idx } := by
  have hover : passOver z = { modeState md false d st s with idx := z.idx } := by
    rw [hz]
    rfl
  rw [hover]
  refine closeEvent_clear ?_
  change { s.ev with passDue := false } = clearWithin
  rw [hs]
  rfl

theorem modeState_eq (hs : BetweenEvents s) (i : Idx) : { modeState md false d st s with idx := i } = { answered d .done 0 s with
    stb := { s.stb with stn := upd s.stb.stn st (fun r => { r with mode := md, pendingMode := none }) }, idx := i } := by
  have hev : { s.ev with passDue := false } = s.ev := by rw [hs]; rfl
  rw [answered_frame]
  exact congrArg (fun v => { modeState md false d st s with idx := i, ev := v }) hev

/-- R93: where nobody waits for a route, its re-evaluation ends the event. -/
theorem endsIn_reroute {z : State} (hd : z.ilk.deferred = []) (hw : ∀ x, (z.proc x).wait ≠ .route) :
    EndsIn 3 z [.reroute] (closeEvent (passOver z)) := by
  refine endsIn_idle (l := [.reroute]) (fun k hk => ?_) hd
  rw [List.mem_singleton.1 hk]
  exact reroute_of_nobody hw

/-! ### Processes taken up at AUTO (R84) -/

/-- From `y` to `z` only the process of `st` changes, and it waits for nothing. -/
structure Retaken (st : Stn) (y z : State) : Prop where
  frame : z = { y with idx := z.idx }
  others : ∀ x, x ≠ st → z.proc x = y.proc x
  nowait : (z.proc st).wait = .nothing

theorem retaken_modProc {y : State} {f : Process → Process} (h : (f (y.proc st)).wait = .nothing) :
    Retaken st y (y.modProc st f) where
  frame := rfl
  others x hx := by rw [State.modProc_proc, if_neg hx]
  nowait := by rw [State.modProc_proc, if_pos rfl, h]

theorem Retaken.trans {x y z : State} (h : Retaken st x y) (k : Retaken st y z) : Retaken st x z where
  frame := by
    rw [k.frame, h.frame]
  others i hi := (k.others i hi).trans (h.others i hi)
  nowait := k.nowait

theorem retaken_pickUp (y : State) : Retaken st y (pickUp st y) := retaken_modProc rfl

/-- R84: what follows the pick-up of an occupant changes the process alone. -/
theorem retaken_pickUp_modProc {y : State} {f : Process → Process} (h : ∀ p, (f p).wait = .nothing) :
    Retaken st y ((pickUp st y).modProc st f) := (retaken_pickUp y).trans (retaken_modProc (h _))

/-- R84: the process stopped on the station's occupant. -/
theorem pickUp_stop (ps : PState) (y : State) : (((pickUp st y).modProc st (fun p => p.stop ps)).proc st).pstate = ps
    ∧ (((pickUp st y).modProc st (fun p => p.stop ps)).proc st).pallet = y.trackedOcc st := by
  rw [State.modProc_proc, if_pos rfl, pickUp, State.modProc_proc, if_pos rfl]
  exact ⟨rfl, rfl⟩

section
variable {y : State} (hr : isMachining y st = true → (y.station st).referenced = true)
include hr

theorem takeUp_referenced : ¬ (isMachining (pickUp st y) st && !((pickUp st y).station st).referenced) = true := by
  rw [Bool.and_eq_true, Bool.not_eq_true']
  rintro ⟨hk, hf⟩
  exact absurd ((hr hk).symm.trans hf) (by decide)

theorem takeUp_nobody (ho : (y.station st).occupant = .nobody) :
    takeUp st false y = only ((pickUp st y).modProc st (fun p => p.stop .empty)) := by
  have ho' : ((pickUp st y).station st).occupant = .nobody := ho
  unfold takeUp
  simp only [Bool.false_eq_true, if_false]
  rw [← pickUp, if_neg (takeUp_referenced hr), ho']

theorem takeUp_unmanaged {g : Tag} (ho : (y.station st).occupant = .unmanaged g) :
    takeUp st false y = only (enterBlocked st (pickUp st y)) := by
  have ho' : ((pickUp st y).station st).occupant = .unmanaged g := ho
  unfold takeUp
  simp only [Bool.false_eq_true, if_false]
  rw [← pickUp, if_neg (takeUp_referenced hr), ho']

theorem takeUp_departing {t : Tag} {r : Record} (ho : (y.station st).occupant = .tracked t) (h : y.record? t = some r)
    (hp : r.rstate ≠ .present st) : takeUp st false y = only ((pickUp st y).modProc st (fun p => p.stop .releasing)) := by
  have ho' : ((pickUp st y).station st).occupant = .tracked t := ho
  have h' : (pickUp st y).record? t = some r := h
  unfold takeUp
  simp only [Bool.false_eq_true, if_false]
  rw [← pickUp, if_neg (takeUp_referenced hr), ho']
  simp only [h', if_pos hp]

end

/-! ### A CLAMP of the operation made by a MODE (R85, R86) -/

theorem entryContended_of_noWaiter {z : State} (hc : z.ev.diqClaim = false) (hw : ∀ x, (z.proc x).wait ≠ .entry) :
    entryContended z = false := by
  have hnil : entryWaiters z = [] := by
    unfold entryWaiters
    split
    · rfl
    · refine List.eq_nil_iff_forall_not_mem.2 fun x hx => ?_
      rw [mem_sortBy, List.mem_filter, waitsEntry, beq_iff_eq] at hx
      exact hw x hx.2
  rw [entryContended, hnil, hc]
  rfl

/-- R85, R120: what the CLAMP that a MODE brings about leaves, before the end of the event. -/
structure ModeClamp (md : Mode) (due : Bool) (d : DiqItem) (st : Stn) (e : EntryNo) (c : Pattern) (p : Tag) (s u : State) :
    Prop where
  stb : u.stb = (modeState md due d st s).stb
  ptb : u.ptb = s.ptb
  told : outgoing u = outgoing (answered d .done 0 s)
  others : ∀ x, x ≠ st → u.proc x = s.proc x
  nowait : (u.proc st).wait = .nothing
  commanded : Commanded st e (.clamp c) p .clamping (s.held st) s u
  deferred : u.ilk.deferred = s.ilk.deferred
  passDue : u.ev.passDue = due

section
variable {e : EntryNo} {c : Pattern} {p : Tag} {z : State} (h : TakenUp st p (modeState md due d st s) z)
include h

theorem TakenUp.eq_modeState : ∃ i, z = { modeState md due d st s with idx := i } := ⟨_, h.frame⟩

omit h in
theorem modeCreated_proc : (created st e (.clamp c) .operation p z).proc st = (z.proc st).stop .clamping := by
  rw [created_proc, if_pos rfl]
  rfl

theorem modeCreated_others (x : Stn) (hx : x ≠ st) : (created st e (.clamp c) .operation p z).proc x = s.proc x := by
  rw [created_proc, if_neg hx]
  exact h.others x hx

theorem modeCreated_station : (created st e (.clamp c) .operation p z).station st
    = { s.station st with mode := md, pendingMode := none } := by
  obtain ⟨i, rfl⟩ := h.eq_modeState
  exact modeState_station_self (md := md) (due := due) (d := d)

theorem modeCreated_held : (created st e (.clamp c) .operation p z).held st = s.held st := by
  rw [State.held, modeCreated_station h]
  rfl

theorem modeCreated_entry :
    (created st e (.clamp c) .operation p z).entry? e = some (dispatched st (.clamp c) p s.mga.time .ready) := by
  obtain ⟨i, rfl⟩ := h.eq_modeState
  exact created_entry

theorem modeCreated_rest (j : EntryNo) (hj : j ≠ e) : (created st e (.clamp c) .operation p z).entry? j = s.entry? j := by
  obtain ⟨i, rfl⟩ := h.eq_modeState
  rw [State.entry?, created_entries, upd_get_ne _ _ hj]
  rfl

theorem modeCreated_deq : (created st e (.clamp c) .operation p z).chi.deq = s.chi.deq := by
  obtain ⟨i, rfl⟩ := h.eq_modeState
  exact answered_deq d .done 0 s

theorem modeCreated_verdict (hno : hasEntry s st = false) (hk : kindCheck s st (.clamp c) = none)
    (hv : ∀ n, (s.ilk.table.get n).valid = false) : verdict (created st e (.clamp c) .operation p z) st (.clamp c) = .pass := by
  have hstn := modeCreated_station (e := e) (c := c) h
  obtain ⟨i, rfl⟩ := h.eq_modeState
  refine verdict_pass hv ((kindCheck_clamp_congr (s := s) (by rw [hstn]) (by rw [hstn]) ?_ c).trans hk)
  exact (underWay_created (z := { modeState md due d st s with idx := i }) hno .move).trans (underWay_of_noEntry hno _).symm

theorem modeCreated_sendingWaiters (hw : sendingWaiters s = []) :
    sendingWaiters (created st e (.clamp c) .operation p z) = [] := by
  have hsame : sendingWaiters z = sendingWaiters s := by
    obtain ⟨i, rfl⟩ := h.eq_modeState
    unfold sendingWaiters inDeq
    rw [show ({ modeState md due d st s with idx := i } : State).chi.deq = s.chi.deq from answered_deq d .done 0 s]
    rfl
  exact sendingWaiters_setEntry (s := z) (q := dispatched st (.clamp c) p z.mga.time .ready) (hsame.trans hw) EState.noConfusion

theorem commandMsg_modeCreated (es : EState) :
    commandMsg (created st e (.clamp c) .operation p z) (dispatched st (.clamp c) p s.mga.time es)
      = commandMsg s (dispatched st (.clamp c) p s.mga.time es) := by
  have hcfg : ((created st e (.clamp c) .operation p z).station st).cfg = (s.station st).cfg := by rw [modeCreated_station h]
  obtain ⟨i, rfl⟩ := h.eq_modeState
  simp only [commandMsg, dispatched, hcfg]
  rfl

/-- R85: at a held station the CLAMP waits. -/
theorem modeClamp_waits (hh : s.held st = true) :
    ModeClamp md due d st e c p s (created st e (.clamp c) .operation p z) := by
  have hproc := modeCreated_proc (st := st) (e := e) (c := c) (p := p) (z := z)
  have hcommanded : Commanded st e (.clamp c) p .clamping (s.held st) s (created st e (.clamp c) .operation p z) := by
    refine ⟨by rw [hproc]; rfl, by rw [hproc]; exact h.pallet, modeCreated_rest h,
      fun _ => ⟨modeCreated_entry h, modeCreated_deq h⟩, fun hf => absurd (hf.symm.trans hh) (by decide)⟩
  have hothers := modeCreated_others (e := e) (c := c) h
  obtain ⟨i, rfl⟩ := h.eq_modeState
  exact ⟨rfl, rfl, rfl, hothers, by rw [hproc]; rfl, hcommanded, rfl, rfl⟩

/-- R120: the CLAMP passes its checks and enters the DEQ. -/
theorem modeClamp_sent (hh : s.held st = false) : ModeClamp md due d st e c p s
    (sentState e (dispatched st (.clamp c) p s.mga.time .ready) (created st e (.clamp c) .operation p z)) := by
  have hproc := modeCreated_proc (st := st) (e := e) (c := c) (p := p) (z := z)
  have hcommanded : Commanded st e (.clamp c) p .clamping (s.held st) s
      (sentState e (dispatched st (.clamp c) p s.mga.time .ready) (created st e (.clamp c) .operation p z)) := by
    refine ⟨by rw [sentState_proc, hproc]; rfl, by rw [sentState_proc, hproc]; exact h.pallet, fun j hj => ?_,
      fun hf => absurd (hf.symm.trans hh) (by decide), fun _ => ⟨?_, ?_⟩⟩
    · rw [State.entry?, sentState_entries, upd_get_ne _ _ hj]
      exact modeCreated_rest h j hj
    · rw [State.entry?, sentState_entries, upd_get_self]
      rfl
    · rw [sentState_deq, modeCreated_deq h, commandMsg_modeCreated h]
      rfl
  have hothers := modeCreated_others (e := e) (c := c) h
  obtain ⟨i, rfl⟩ := h.eq_modeState
  exact ⟨rfl, rfl, rfl, hothers, by rw [sentState_proc, hproc]; rfl, hcommanded, rfl, rfl⟩

/-- R120: the CLAMP waits at a held station and enters the DEQ where its checks pass. -/
theorem promote_modeClamp (hno : hasEntry s st = false)
    (hcan : s.held st = true ∨ s.held st = false ∧ CanBeSent st (.clamp c) s) :
    ∃ u, promote e (created st e (.clamp c) .operation p z) = only u ∧ ModeClamp md due d st e c p s u := by
  have hentry := modeCreated_entry (e := e) (c := c) h
  have hheld := modeCreated_held (e := e) (c := c) h
  rcases hcan with hh | ⟨hh, hk, hv, hw, hl⟩
  · exact ⟨_, promote_held hentry (hheld.trans hh), modeClamp_waits h hh⟩
  · exact ⟨_, promote_sends hentry rfl (hheld.trans hh) (fun hc => CmdKind.noConfusion hc) (modeCreated_verdict h hno hk hv)
      (modeCreated_sendingWaiters h hw) (by rw [modeCreated_deq h]; exact hl), modeClamp_sent h hh⟩

end

/-! ### MODE to the end of its event -/

/-- R85: what holds of the CLAMP that a MODE makes holds at the end of the event. -/
theorem Commanded.atEnd {e : EntryNo} {c : Params} {p : Tag} {ps : PState} {held : Bool} {u : State}
    (h : Commanded st e c p ps held s u) : Commanded st e c p ps held s (closeEvent (passOver u)) := by
  have hentry : ∀ j, (closeEvent (passOver u)).entry? j = u.entry? j := closeEvent_entry (passOver u)
  simpa only [Commanded, told_proc, told_deq, hentry] using h

section
variable {e : EntryNo} {c : Pattern} {p : Tag} {u : State} (h : ModeClamp md due d st e c p s u)
include h

theorem ModeClamp.stb_atEnd : (closeEvent (passOver u)).stb = (modeState md due d st s).stb := (closeEvent_stb _).trans h.stb

theorem ModeClamp.ptb_atEnd : (closeEvent (passOver u)).ptb = s.ptb := (closeEvent_ptb _).trans h.ptb

theorem ModeClamp.told_atEnd : outgoing (answered d .done 0 s) <+: outgoing (closeEvent (passOver u)) :=
  h.told ▸ closeEvent_outgoing (passOver u)

theorem ModeClamp.others_atEnd (x : Stn) (hx : x ≠ st) : (closeEvent (passOver u)).proc x = s.proc x :=
  (told_proc x).trans (h.others x hx)

end

section
variable (hs : BetweenEvents s) (ht : Takes .mode d s) (hc : FromController d s) (hst : d.msg.stn? = some st)
  (hmd : d.msg.argB.toNat = modeCode md)
include hs ht hc hst hmd

/-- R76, R83: a mode other than AUTO. -/
theorem mode_notAuto (hne : md ≠ (s.station st).mode) (hno : hasEntry s st = false) (hm : md ≠ .auto) (hn : NobodyWaits s) :
    ∃ z : State, exec .mode s = .next { modeState md false d st s with idx := z.idx }
      ∧ z = if (s.station st).mode = .auto then (modeState md true d st s).modProc st
          (fun p => p.giveUp (if (s.proc st).pstate = .blocked then .blocked else .empty)) else modeState md true d st s := by
  obtain ⟨hd, -, hidle⟩ := hn
  refine ⟨_, ?_, rfl⟩
  have hwait : ∀ x, ((if (s.station st).mode = .auto then (modeState md true d st s).modProc st
      (fun p => p.giveUp (if (s.proc st).pstate = .blocked then .blocked else .empty))
      else modeState md true d st s).proc x).wait ≠ .route := fun x => by
    have hx : (s.proc x).wait ≠ .route := by rw [(hidle x).1]; exact Wait.noConfusion
    split
    · rw [State.modProc_proc]
      split
      · exact Wait.noConfusion
      · exact hx
    · exact hx
  rw [← closeEvent_modeState hs (by split <;> rfl)]
  exact mode_applied ht hc hst hmd hne hno (fun ha => absurd ha hm) (applyMode_other hm)
    (endsIn_reroute (by split <;> exact hd) hwait) (by decide)

end

section
variable (hs : BetweenEvents s) (ht : Takes .mode d s) (hc : FromController d s) (hst : d.msg.stn? = some st)
  (hmd : d.msg.argB.toNat = modeCode .auto) (hne : Mode.auto ≠ (s.station st).mode) (hno : hasEntry s st = false)
  (hr : isMachining s st = true → (s.station st).referenced = true) (hn : NobodyWaits s)
include hs ht hc hst hmd hne hno hr hn

/-- R84: a station BLOCKED stays so. -/
theorem mode_auto_blocked (hb : (s.proc st).pstate = .blocked) : exec .mode s = .next (modeState .auto false d st s) := by
  obtain ⟨hd, -, hidle⟩ := hn
  have happly : applyMode st .auto (setPending st none (answered d .done 0 s))
      = (modeState .auto true d st s, [.reroute]) := by rw [applyMode_auto, if_pos hb]; rfl
  rw [mode_applied ht hc hst hmd hne hno (fun _ => hr) happly (endsIn_reroute hd fun x => ?_) (by decide)]
  · exact congrArg _ (closeEvent_modeState (z := modeState .auto true d st s) hs rfl)
  · change (s.proc x).wait ≠ .route
    rw [(hidle x).1]
    exact Wait.noConfusion

omit hs hn in
/-- R84: the tasks of AUTO at a station that takes up its occupant. -/
theorem mode_auto_takesUp {u : State} {n : Nat} (hb : (s.proc st).pstate ≠ .blocked)
    (h : EndsIn n (modeState .auto true d st s) [.takeUp st false, .reroute] u) (hl : n ≤ 99) : exec .mode s = .next u := by
  have happly : applyMode st .auto (setPending st none (answered d .done 0 s))
      = (modeState .auto true d st s, [.takeUp st false, .reroute]) := by rw [applyMode_auto, if_neg hb]; rfl
  exact mode_applied ht hc hst hmd hne hno (fun _ => hr) happly h hl

/-- R84: the take-up ends with the process alone changed. -/
theorem mode_auto_retaken {z : State} (hb : (s.proc st).pstate ≠ .blocked)
    (htake : takeUp st false (modeState .auto true d st s) = only z) (hz : Retaken st (modeState .auto true d st s) z) :
    exec .mode s = .next { modeState .auto false d st s with idx := z.idx } := by
  rw [← closeEvent_modeState hs hz.frame]
  refine mode_auto_takesUp ht hc hst hmd hne hno hr hb
    (EndsIn.step htake (endsIn_reroute (by rw [hz.frame]; exact hn.1) fun x => ?_)) (by decide)
  by_cases hx : x = st
  · rw [hx, hz.nowait]
    exact Wait.noConfusion
  · rw [hz.others x hx]
    change (s.proc x).wait ≠ .route
    rw [(hn.2.2 x).1]
    exact Wait.noConfusion

/-- R84 to R86: the pallet continues in place, with the CLAMP of its operation. -/
theorem mode_auto_clamps {i : Slot} {r : Record} {step : RouteStep} {op : Operation} {e : EntryNo} {p : Tag}
    (hb : (s.proc st).pstate ≠ .blocked) (ho : (s.station st).occupant = .tracked p) (h : HasRecord p i r s)
    (hk : isMachining s st = true) (hp : r.rstate = .present st) (hse : (s.proc st).stepEnded = false)
    (hrej : r.quality.rejected = false) (hab : r.quality.aborted = false) (hcur : currentStep s r = some step)
    (hg : step.group.getLsbD st.val = true) (hop : step.op? r.opCursor = some op)
    (hsen : (s.station st).sensed ≠ some op.pattern) (hres : s.fcu.restricted = false) (hfree : freeEntry s = some e)
    (hcan : s.held st = true ∨ s.held st = false ∧ CanBeSent st (.clamp op.pattern) s) :
    ∃ u, exec .mode s = .next (closeEvent (passOver u)) ∧ ModeClamp .auto true d st e op.pattern p s u := by
  obtain ⟨hd, -, hidle⟩ := hn
  have hstn := modeState_station_self (md := .auto) (due := true) (d := d) (st := st) (s := s)
  have hrec : (modeState .auto true d st s).record? p = some r := record_of_hasRecord_tag (s := modeState .auto true d st s) h
  have htake := takeUp_continues (y := modeState .auto true d st s) (t := p) hk (by rw [hstn]; exact hr hk) (by rw [hstn]; exact ho)
    hrec hp (by simp [Quality.bad, hrej, hab]) hse hcur hg
  have harrived : TakenUp st p (modeState .auto true d st s)
      ((pickUp st (modeState .auto true d st s)).modProc st (fun q => q.stop .arrived)) :=
    (takenUp_pickUp (by rw [hstn]; exact ho)).modProc rfl rfl
  have hjudged := harrived.modProc (f := fun q => { q with wait := .nothing, waitingSince := none, due := none }) rfl rfl
  have hproc : processRecord ((pickUp st (modeState .auto true d st s)).modProc st (fun q => q.stop .arrived)) st = some r := by
    rw [processRecord, harrived.pallet]
    exact hrec
  have heval := evalOperation_clamps (granted := false) hproc (step := step) (op := op) hcur hop
    (by change ((modeState .auto true d st s).station st).sensed ≠ _; rw [hstn]; exact hsen)
  have hmake := makeDue_creates (st := st) (t := p) (e := e) (p := .clamp op.pattern) (pt := .operation) hjudged.pallet
    (by change ((modeState .auto true d st s).station st).pendingMode = none; rw [hstn]) hno hres hfree
    (entryContended_eq_false (congrArg Within.diqClaim hs) fun x => hjudged.idle (hidle x).1) (fun hc => CmdKind.noConfusion hc)
  obtain ⟨u, hpr, hu⟩ := promote_modeClamp (e := e) (c := op.pattern) hjudged hno hcan
  refine ⟨u, mode_auto_takesUp ht hc hst hmd hne hno hr hb (EndsIn.step htake
    (EndsIn.step (heval.trans hmake) (EndsIn.step hpr (endsIn_reroute (hu.deferred.trans hd) fun x => ?_)))) (by decide), hu⟩
  by_cases hx : x = st
  · rw [hx, hu.nowait]
    exact Wait.noConfusion
  · rw [hu.others x hx, (hidle x).1]
    exact Wait.noConfusion

end

/-- R85: the current mode asked while a CLAMP of the operation waits for a pending mode. -/
theorem mode_current_clamps {i : Slot} {r : Record} {step : RouteStep} {op : Operation} {e : EntryNo} {p : Tag}
    (hs : BetweenEvents s) (ht : Takes .mode d s) (hc : FromController d s) (hst : d.msg.stn? = some st)
    (hmd : d.msg.argB.toNat = modeCode md) (hcurrent : md = (s.station st).mode) (hw : (s.proc st).wait = .mode)
    (hdue : (s.proc st).due = some .operation) (hpal : (s.proc st).pallet = some p) (h : HasRecord p i r s)
    (hcur : currentStep s r = some step) (hop : step.op? r.opCursor = some op)
    (hsen : (s.station st).sensed ≠ some op.pattern) (hno : hasEntry s st = false) (hres : s.fcu.restricted = false)
    (hfree : freeEntry s = some e) (hwaits : ∀ y, (s.proc y).wait ≠ .entry)
    (hcan : s.held st = true ∨ s.held st = false ∧ CanBeSent st (.clamp op.pattern) s) :
    ∃ u, exec .mode s = .next (closeEvent (passOver u)) ∧ ModeClamp md false d st e op.pattern p s u := by
  have hstn := modeState_station_self (md := md) (due := false) (d := d) (st := st) (s := s)
  have hjudged : TakenUp st p (modeState md false d st s) ((modeState md false d st s).modProc st
      (fun q => { q with wait := .nothing, waitingSince := none, due := none })) := takenUp_modProc hpal rfl
  have hproc : processRecord (modeState md false d st s) st = some r := by
    have hp : ((modeState md false d st s).proc st).pallet = some p := hpal
    rw [processRecord, hp]
    exact record_of_hasRecord_tag (s := modeState md false d st s) h
  have heval := evalOperation_clamps (granted := false) hproc (step := step) (op := op) hcur hop (by rw [hstn]; exact hsen)
  have hmake := makeDue_creates (st := st) (t := p) (e := e) (p := .clamp op.pattern) (pt := .operation) hjudged.pallet
    (by change ((modeState md false d st s).station st).pendingMode = none; rw [hstn]) hno hres hfree
    (entryContended_of_noWaiter (congrArg Within.diqClaim hs) fun x => ?_) (fun hc => CmdKind.noConfusion hc)
  · obtain ⟨u, hpr, hu⟩ := promote_modeClamp (e := e) (c := op.pattern) hjudged hno hcan
    have hreeval : perform (.reeval st false) (modeState md false d st s) = evalOperation st false (modeState md false d st s) := by
      have hp : ((modeState md false d st s).proc st).due = some .operation := hdue
      change reevaluate st false _ = _
      rw [reevaluate, hp]
    have hend : EndsIn 2 u [] (closeEvent (passOver u)) := by
      rw [passOver_of_false hu.passDue]
      exact run_end 0 hu.passDue
    refine ⟨u, ?_, hu⟩
    rw [mode_current hs ht hc hst hmd hcurrent, withdrawn, if_pos hw]
    exact EndsIn.conclude (EndsIn.step (hreeval.trans (heval.trans hmake)) (EndsIn.step hpr hend)) (by decide)
  · by_cases hx : x = st
    · rw [hx, hjudged.nowait]
      exact Wait.noConfusion
    · rw [hjudged.others x hx]
      exact hwaits x

end
end Sys2Proof.Machine

namespace Sys2Proof.Proofs
open Sys2Proof.Machine

/-- Settles O40: the answers in order, the mode applied at once, AUTO by what stands at the station, and a command judged again. -/
theorem modeIsAppliedOrPends : Obligations.ModeIsAppliedOrPends := by
  intro d s hs ht hc
  refine ⟨mode_badArg hs ht hc, fun st md hst hmd => ⟨fun hcur hw => ?_, fun hne hen => mode_pends hs ht hc hst hmd hne hen,
    fun hne hno ha hk hr => mode_notReferenced hs ht hc hst hmd hne hno ha hk hr, fun hne hno hm hn => ?_,
    fun hne hno ha hr hn => ?_, ?_⟩⟩
  · have hstate : (answered d .done 0 s).modStn st (fun r => { r with pendingMode := none }) = modeState md false d st s :=
      setPending_current hs hcur
    rw [mode_current hs ht hc hst hmd hcur, withdrawn, if_neg hw, hstate]
    exact conclude_only_clear (by change { s.ev with passDue := false } = _; rw [hs]; rfl)
  · obtain ⟨z, hexec, hz⟩ := mode_notAuto hs ht hc hst hmd hne hno hm hn
    have hothers : ∀ x, x ≠ st → z.proc x = s.proc x := fun x hx => by
      rw [hz]
      split
      · rw [State.modProc_proc, if_neg hx]
        rfl
      · rfl
    refine ⟨_, hexec, modeState_eq hs z.idx, hothers, fun hold => ?_, fun hold => ?_⟩
    · rw [if_neg hold] at hz
      change z.proc st = _
      rw [hz]
      rfl
    · rw [if_pos hold] at hz
      change (z.proc st).pallet = none ∧ (z.proc st).pstate = _
      rw [hz, State.modProc_proc, if_pos rfl]
      exact ⟨rfl, rfl⟩
  · subst ha
    intro applied
    have hstn := modeState_station_self (md := .auto) (due := true) (d := d) (st := st) (s := s)
    have hr' : isMachining (modeState .auto true d st s) st = true →
        ((modeState .auto true d st s).station st).referenced = true := fun hk => by
      rw [hstn]
      exact hr hk
    have hocc : ∀ {o : Occupant}, (s.station st).occupant = o → (modeState .auto true d st s).trackedOcc st = o.tracked? :=
      fun ho => by rw [State.trackedOcc, hstn, ← ho]
    refine ⟨fun hb => ?_, fun hb => ?_⟩
    · exact ⟨_, ⟨mode_auto_blocked hs ht hc hst hmd hne hno hr hn hb, rfl, List.prefix_rfl, fun _ _ => rfl, rfl⟩, rfl, rfl⟩
    · have happlied : ∀ {z}, takeUp st false (modeState .auto true d st s) = only z →
          Retaken st (modeState .auto true d st s) z → applied { modeState .auto false d st s with idx := z.idx } := fun htake hz =>
        ⟨mode_auto_retaken hs ht hc hst hmd hne hno hr hn hb htake hz, rfl, List.prefix_rfl, fun x hx => hz.others x hx, rfl⟩
      refine ⟨fun ho => ?_, fun g ho => ?_, fun p i r ho h => ⟨fun hp => ?_, ?_⟩⟩
      · have htake := takeUp_nobody hr' (by rw [hstn]; exact ho)
        obtain ⟨hps, hpal⟩ := pickUp_stop (st := st) .empty (modeState .auto true d st s)
        rw [hocc ho] at hpal
        exact ⟨_, happlied htake (retaken_pickUp_modProc fun _ => rfl), hps, hpal, rfl⟩
      · have htake := takeUp_unmanaged hr' (g := g) (by rw [hstn]; exact ho)
        exact ⟨_, happlied htake (retaken_pickUp_modProc fun _ => rfl), enterBlocked_blocks st (pickUp st _), rfl⟩
      · have htake := takeUp_departing hr' (by rw [hstn]; exact ho) (record_of_hasRecord_tag (s := modeState .auto true d st s) h) hp
        obtain ⟨hps, hpal⟩ := pickUp_stop (st := st) .releasing (modeState .auto true d st s)
        rw [hocc ho] at hpal
        exact ⟨_, happlied htake (retaken_pickUp_modProc fun _ => rfl), hps, hpal, rfl⟩
      · intro step op e hk hp hse hrej hab hcur hg hop hsen hres hfree hcan
        obtain ⟨u, hexec, hu⟩ := mode_auto_clamps hs ht hc hst hmd hne hno hr hn hb ho h hk hp hse hrej hab hcur hg hop hsen hres
          hfree hcan
        exact ⟨_, ⟨hexec, hu.stb_atEnd, hu.told_atEnd, hu.others_atEnd, hu.ptb_atEnd⟩, hu.commanded.atEnd⟩
  · intro p i r step op e hcurrent hw hdue hpal h hcur hop hsen hno hres hfree hwaits hcan
    obtain ⟨u, hexec, hu⟩ := mode_current_clamps hs ht hc hst hmd hcurrent hw hdue hpal h hcur hop hsen hno hres hfree hwaits hcan
    refine ⟨_, hexec, ?_, hu.told_atEnd, hu.others_atEnd, ?_, hu.commanded.atEnd⟩
    · rw [hu.stb_atEnd, ← current_upd hcurrent]
      rfl
    · rw [told_proc]
      exact hu.nowait

end Sys2Proof.Proofs
end

section
namespace Sys2Proof.Machine

/-! ### What the table's entries alone decide (R14, R116, R134) -/

section
variable {s z : State} (h : z.mrt.entries = s.mrt.entries)
include h

theorem hasEntry_congr (st : Stn) : hasEntry z st = hasEntry s st := by
  simp only [hasEntry, entriesWhere, State.entry?, h]

theorem freeEntry_congr : freeEntry z = freeEntry s := by
  simp only [freeEntry, State.entry?, h]

theorem underWay_congr (st : Stn) (k : CmdKind) : underWay z st k = underWay s st k := by
  simp only [underWay, entriesWhere, State.entry?, h]

theorem sendingWaiters_congr (hq : z.chi.deq = s.chi.deq) : sendingWaiters z = sendingWaiters s := by
  simp only [sendingWaiters, entriesWhere, State.entry?, inDeq, h, hq]

end

/-! ### What the promotion of a station's command reads (R106, R120, R135) -/

theorem isMachining_congr {s z : State} (hl : z.stb.load = s.stb.load) (hr : z.stb.rework = s.stb.rework) (st : Stn) :
    isMachining z st = isMachining s st := by
  simp only [isMachining, hl, hr]

/-- From `s` to `z` all is as it was that the planning, the checks and the message of a command of `st` are made of; the hold of the
station may have changed. -/
structure ReadsAlike (st : Stn) (s z : State) : Prop where
  station : ∃ h, z.station st = { s.station st with holds := h }
  machining : isMachining z st = isMachining s st
  ptb : z.ptb = s.ptb
  table : z.ilk.table = s.ilk.table
  mga : z.mga = s.mga
  deq : z.chi.deq = s.chi.deq
  moves : underWay z st .move = underWay s st .move
  waiters : sendingWaiters s = [] → sendingWaiters z = []

section
variable {st : Stn} {s z : State} {e : EntryNo} {en : Entry} (h : ReadsAlike st s z)
include h

theorem ReadsAlike.kindCheck_eq (j : Judged) : kindCheck z st j = kindCheck s st j := by
  obtain ⟨hold, hst⟩ := h.station
  have ho : ∀ k, occTarget z st k = occTarget s st k := fun k => by
    unfold occTarget occOffset State.trackedOcc offsetOf State.record? slotOf
    rw [hst, h.ptb]
  have hk : ∀ k, atStop z st k = atStop s st k := fun k => by simp only [atStop, Station.isAt, hst, ho]
  have ha : atAStop z st = atAStop s st := by simp only [atAStop, Station.isAt, hst, ho]
  unfold kindCheck
  cases j <;> simp only [hst, h.moves, hk, ha, h.machining]

theorem ReadsAlike.planEntry_eq (hen : en.station = st) : planEntry z en = planEntry s en := by
  obtain ⟨hold, hst⟩ := h.station
  unfold planEntry
  rw [hen, hst]
  rfl

theorem ReadsAlike.commandMsg_eq (hen : en.station = st) : commandMsg z en = commandMsg s en := by
  obtain ⟨hold, hst⟩ := h.station
  unfold commandMsg
  rw [hen, hst, h.mga]

/-- R120: an entry that can be sent is SENDING after its promotion, at a station that is not held. -/
theorem ReadsAlike.sends (he : z.entry? e = some en) (hen : en.station = st) (hr : en.estate = .ready) (hh : z.held st = false)
    (hp : planSatisfied (planEntry s en) = false) (hc : CanBeSent st (judgedOf en.params) s) :
    promote e z = only (sentState e (planEntry s en) z) := by
  obtain ⟨hk, hv, hw, hl⟩ := hc
  have hpass : verdict z en.station (judgedOf en.params) = .pass := by
    rw [hen]
    exact verdict_pass (by rw [h.table]; exact hv) ((h.kindCheck_eq _).trans hk)
  have hplan : planEntry z en = planEntry s en := h.planEntry_eq hen
  have hne : (planEntry z en).estate ≠ .sending := by rw [planEntry_estate, hr]; decide
  have hsend := startSending_room (s := planned e en z) planned_entry (sendingWaiters_setEntry (h.waiters hw) hne)
    (by change z.chi.deq.length < 16; rw [h.deq]; exact hl)
  have hput : sentState e (planEntry z en) (planned e en z) = sentState e (planEntry z en) z := by
    simp only [sentState, planned, State.setEntry, upd_upd]
    rfl
  rw [promote_verdict he hr (by rw [hen]; exact hh) (by rw [hplan]; exact hp), hpass, promoteBy, hsend, hput, hplan]

/-- R120: the entry sent, and its command at the tail of the DEQ. -/
theorem ReadsAlike.sent (hen : en.station = st) : Sent e en s (sentState e (planEntry s en) z) := by
  refine ⟨?_, ?_⟩
  · rw [State.entry?, sentState_entries, upd_get_self]
  · rw [sentState_deq, h.deq, h.commandMsg_eq ((planEntry_station s en).trans hen)]

end

/-! ### A command of the dispatcher to the DEQ (R85, R120) -/

section
variable {st : Stn} {s z : State} {e : EntryNo} {c : Params} {pt : DuePoint} {p : Tag}

/-- R85: the dispatcher's new entry is not under way. -/
theorem ReadsAlike.dispatch (h : ReadsAlike st s z) (he : z.mrt.entries = s.mrt.entries) (hno : hasEntry s st = false) :
    ReadsAlike st s (created st e c pt p z) where
  station := h.station
  machining := h.machining
  ptb := h.ptb
  table := h.table
  mga := h.mga
  deq := h.deq
  moves := (underWay_created ((hasEntry_congr he st).trans hno) .move).trans (underWay_of_noEntry hno .move).symm
  waiters hw := sendingWaiters_setEntry (s := z) (q := dispatched st c p z.mga.time .ready) (h.waiters hw) EState.noConfusion

/-- R85, R120: the state with the dispatcher's new entry SENDING and its command in the DEQ. -/
def dispatchSent (st : Stn) (e : EntryNo) (c : Params) (pt : DuePoint) (p : Tag) (z : State) : State :=
  sentState e (dispatched st c p z.mga.time .ready) (created st e c pt p z)

theorem dispatchSent_proc (x : Stn) : (dispatchSent st e c pt p z).proc x
    = if x = st then (z.proc st).stop (createdState c pt) else z.proc x := created_proc (e := e) (t := p) x

section
variable (h : ReadsAlike st s z) (he : z.mrt.entries = s.mrt.entries) (hno : hasEntry s st = false)
  (hplan : planEntry s (dispatched st c p s.mga.time .ready) = dispatched st c p s.mga.time .ready)
include h he hno hplan

/-- R120: the promotion of the dispatcher's new entry. -/
theorem promote_dispatched (hh : z.held st = false) (hp : planSatisfied (dispatched st c p s.mga.time .ready) = false)
    (hc : CanBeSent st (judgedOf c) s) :
    promote e (created st e c pt p z) = only (dispatchSent st e c pt p z) := by
  have hentry : (created st e c pt p z).entry? e = some (dispatched st c p s.mga.time .ready) := by
    rw [created_entry, h.mga]
  rw [(h.dispatch he hno).sends hentry rfl rfl hh (by rw [hplan]; exact hp) hc, hplan, dispatchSent, h.mga]

/-- R85, R118, R120: what the dispatcher's command leaves. -/
theorem commanded_dispatchSent (hpal : (z.proc st).pallet = some p) :
    Commanded st e c p (createdState c pt) false s (dispatchSent st e c pt p z) := by
  obtain ⟨hentry, hdeq⟩ := (h.dispatch (e := e) (c := c) (pt := pt) (p := p) he hno).sent (e := e)
    (en := dispatched st c p s.mga.time .ready) rfl
  rw [hplan, ← h.mga] at hentry hdeq
  rw [Commanded, dispatchSent_proc, if_pos rfl]
  refine ⟨rfl, hpal, fun j hj => ?_, fun hf => Bool.noConfusion hf, fun _ => ⟨?_, ?_⟩⟩
  · rw [State.entry?, dispatchSent, sentState_entries, upd_get_ne _ _ hj, created_entries, upd_get_ne _ _ hj, he]
    rfl
  · rw [← h.mga]
    exact hentry
  · rw [← h.mga]
    exact hdeq

end
end

end Sys2Proof.Machine
end

section
namespace Sys2Proof.Machine

/-! ### A settle that is over (R86, R87) -/

theorem stnByte_toNat (x : Stn) : (stnByte x).toNat = x.val := by
  have := x.isLt
  simp only [stnByte, BitVec.toNat_ofNat]
  omega

section
variable {st : Stn} {s z : State} {r : Record} {step : RouteStep} {op : Operation}

theorem samePattern_self (p : Pattern) : samePattern (some p) (some p) = true := beq_self_eq_true p

/-- R86: the clamps are as the operation needs them and the fixture is at its stop. -/
theorem evalOperation_cycles {granted : Bool} (hr : processRecord z st = some r) (hs : currentStep z r = some step)
    (hop : step.op? r.opCursor = some op) (hsen : (z.station st).sensed = some op.pattern)
    (hcom : (z.station st).commanded = some op.pattern)
    (hat : (z.station st).isAt (targetOf (z.station st).cfg op.stop r.offset) = true) : evalOperation st granted z
      = makeDue st (.cycle (BitVec.ofNat 16 op.program) (BitVec.ofNat 16 r.opCursor) (some op.limit)) .operation granted false
        (z.modProc st (fun p => { p with wait := .nothing, waitingSince := none, due := none })) := by
  generalize hy : z.modProc st (fun p => { p with wait := .nothing, waitingSince := none, due := none }) = y
  have hproc : processRecord y st = some r := by
    rw [← hy, processRecord, State.modProc_proc, if_pos rfl]
    exact hr
  have hstep : currentStep y r = some step := by rw [← hy]; exact hs
  have hstn : y.station st = z.station st := by rw [← hy]; rfl
  unfold evalOperation
  rw [hy]
  dsimp only
  rw [hproc]
  simp only [hstep, Option.bind_some, hop, hstn, hsen, hcom, hat, samePattern_self, Bool.and_self, Bool.not_true,
    Bool.false_eq_true, if_false]

/-- R87: a settle that ends while its station waits for no entry is the evaluation of its operation. -/
theorem settleOver_operation {y : State} {l : List Task} (hs : (s.proc st).settleSucc = some .operation)
    (hw : (s.proc st).wait ≠ .entry)
    (he : evalOperation st false (s.modProc st (fun p => { p with settleTaken := true })) = (y, l)) :
    settleOver st s = (y, l) := by
  have hstay : stayInOrder st s y = y := if_neg fun h => hw h.1
  unfold settleOver
  rw [hs]
  simp only [he, hstay]

theorem execSettleExpiry_passed {x : Time} (hr : Running s) (hx : (s.proc st).settleEnd = some x)
    (hp : (x - s.mga.time).toInt ≤ 0) (ht : (s.proc st).settleTaken = false) :
    exec (.settleExpiry st) s = conclude (settleOver st s) := by
  refine whenOut_true (r := fun _ => settleOver st s) hr.2 ?_
  rw [hx, ht]
  exact (Bool.and_true _).trans (decide_eq_true hp)

/-- R87: the process after its settle, before its operation is judged. -/
def settled (st : Stn) (s : State) : State :=
  (s.modProc st (fun p => { p with settleTaken := true })).modProc st
    (fun p => { p with wait := .nothing, waitingSince := none, due := none })

theorem readsAlike_settled : ReadsAlike st s (settled st s) where
  station := ⟨(s.station st).holds, rfl⟩
  machining := rfl
  ptb := rfl
  table := rfl
  mga := rfl
  deq := rfl
  moves := underWay_congr rfl st .move
  waiters hw := (sendingWaiters_congr rfl rfl).trans hw

theorem settled_proc_self : (settled st s).proc st
    = { s.proc st with settleTaken := true, wait := .nothing, waitingSince := none, due := none } := by
  rw [settled, State.modProc_proc, if_pos rfl, State.modProc_proc, if_pos rfl]

theorem settled_proc_ne {x : Stn} (hx : x ≠ st) : (settled st s).proc x = s.proc x := by
  rw [settled, State.modProc_proc, if_neg hx, State.modProc_proc, if_neg hx]

theorem settled_noWaiter (h : ∀ y, (s.proc y).wait ≠ .entry) (x : Stn) : ((settled st s).proc x).wait ≠ .entry := by
  by_cases hx : x = st
  · rw [hx, settled_proc_self]
    exact Wait.noConfusion
  · rw [settled_proc_ne hx]
    exact h x

/-- R86: the CYCLE of an operation. -/
def cycleOf (op : Operation) (n : Nat) : Params := .cycle (BitVec.ofNat 16 op.program) (BitVec.ofNat 16 n) (some op.limit)

/-- R86, R87, R118, R120: the settle ends with the CYCLE of the operation on its way. -/
theorem settleExpiry_cycles {x : Time} {tag : Tag} {e : EntryNo} (hr : Running s) (hx : (s.proc st).settleEnd = some x)
    (hp : (x - s.mga.time).toInt ≤ 0) (ht : (s.proc st).settleTaken = false)
    (hsucc : (s.proc st).settleSucc = some .operation) (hpal : (s.proc st).pallet = some tag) (hrec : s.record? tag = some r)
    (hcur : currentStep s r = some step) (hop : step.op? r.opCursor = some op)
    (hsen : (s.station st).sensed = some op.pattern) (hcom : (s.station st).commanded = some op.pattern)
    (hat : (s.station st).isAt (targetOf (s.station st).cfg op.stop r.offset) = true)
    (hpm : (s.station st).pendingMode = none) (hno : hasEntry s st = false) (hres : s.fcu.restricted = false)
    (hfree : freeEntry s = some e) (hw : ∀ y, (s.proc y).wait ≠ .entry) (hh : s.held st = false) (hc : CanBeSent st .cycle s) :
    exec (.settleExpiry st) s
      = .next (closeEvent (dispatchSent st e (cycleOf op r.opCursor) .operation tag (settled st s))) := by
  have hproc : processRecord (s.modProc st (fun p => { p with settleTaken := true })) st = some r := by
    rw [processRecord, State.modProc_proc, if_pos rfl]
    exact (congrArg (·.bind s.record?) hpal).trans hrec
  have heval := evalOperation_cycles (granted := false) (step := step) (op := op) hproc hcur hop hsen hcom hat
  have hpal' : ((settled st s).proc st).pallet = some tag := by rw [settled_proc_self]; exact hpal
  have hmake := makeDue_creates (z := settled st s) (e := e) (p := cycleOf op r.opCursor) (pt := .operation) hpal' hpm hno hres
    hfree (entryContended_of_noWaiter (congrArg Within.diqClaim hr.1) (settled_noWaiter hw)) CmdKind.noConfusion
  have hsent := promote_dispatched (e := e) (c := cycleOf op r.opCursor) (pt := .operation) (p := tag) readsAlike_settled rfl hno
    (planEntry_of_other CmdKind.noConfusion) hh (planSatisfied_of_other CmdKind.noConfusion) hc
  rw [execSettleExpiry_passed hr hx hp ht, settleOver_operation hsucc (hw st) (heval.trans hmake)]
  refine EndsIn.conclude (EndsIn.step hsent (n := 2) ?_) (by decide)
  exact run_end 0 (congrArg Within.passDue hr.1)

end
end Sys2Proof.Machine

namespace Sys2Proof.Proofs
open Sys2Proof.Machine

/-- Settles O51: the operation that the settle's end evaluates makes its CYCLE, whose promotion ends the event. -/
theorem settledOperationStartsItsCycle : Obligations.SettledOperationStartsItsCycle := by
  intro st s x tag r step op e hr hx hp ht hsucc hpal hrec hcur hop hsen hcom hat hpm hno hres hfree hw hhard hilk hl hq
  obtain ⟨hk, hh⟩ := hardCheck_eq_none hhard
  have hexec := settleExpiry_cycles hr hx hp ht hsucc hpal hrec hcur hop hsen hcom hat hpm hno hres hfree hw hh
    ⟨hk, hilk, hq, hl⟩
  have hcmd : Commanded st e (cycleOf op r.opCursor) tag .machining false s
      (dispatchSent st e (cycleOf op r.opCursor) .operation tag (settled st s)) :=
    commanded_dispatchSent readsAlike_settled rfl hno (planEntry_of_other CmdKind.noConfusion)
      (by rw [settled_proc_self]; exact hpal)
  obtain ⟨hps, -, hothers, -, hsent⟩ := hcmd
  obtain ⟨hentry, hdeq⟩ := hsent rfl
  have hproc : ∀ y, (closeEvent (dispatchSent st e (cycleOf op r.opCursor) .operation tag (settled st s))).proc y
      = (dispatchSent st e (cycleOf op r.opCursor) .operation tag (settled st s)).proc y := fun y => by
    rw [State.proc, closeEvent_idx]
    rfl
  refine ⟨_, commandMsg s (dispatched st (cycleOf op r.opCursor) tag s.mga.time .ready), hexec, ?_, fun j hj => ?_, ?_,
    rfl, rfl, ?_, rfl, rfl, rfl, ?_, ?_, fun y hy => ?_, closeEvent_stb _, closeEvent_ptb _, closeEvent_rcs _, closeEvent_ilk _,
    closeEvent_trp _, closeEvent_fcu _⟩
  · rw [closeEvent_entry]
    exact hentry
  · rw [closeEvent_entry]
    exact hothers j hj
  · rw [closeEvent_chi_deq]
    exact hdeq
  · exact stnByte_toNat st
  · rw [hproc]
    exact hps
  · rw [hproc, dispatchSent_proc, if_pos rfl]
    rfl
  · rw [hproc, dispatchSent_proc, if_neg hy, settled_proc_ne hy]

end Sys2Proof.Proofs
end

section
namespace Sys2Proof.Machine

/-! ### Deadlines restored at the end of a hold (R114) -/

theorem restoreEntry_params (now : Time) (en : Entry) : (restoreEntry now en).params = en.params := by
  unfold restoreEntry; split <;> rfl

theorem restoreEntry_of_none {now : Time} {en : Entry} (h : en.remaining = none) : restoreEntry now en = en := by
  unfold restoreEntry
  rw [h]

section
variable {v : StnSet} {s : State}

/-- R114: what does not ask for deadlines holds of the same entries. -/
theorem entriesWhere_withRestored {p : Entry → Bool} (hp : ∀ en, p (restoreEntry s.mga.time en) = p en) :
    entriesWhere (withRestored v s) p = entriesWhere s p := by
  refine List.filter_congr fun e _ => ?_
  rw [withRestored_entry]
  cases s.entry? e with
  | none => rfl
  | some en =>
    change p (if v.has en.station then restoreEntry s.mga.time en else en) = p en
    split
    · exact hp en
    · rfl

theorem underWay_withRestored (st : Stn) (k : CmdKind) : underWay (withRestored v s) st k = underWay s st k := by
  unfold underWay
  rw [entriesWhere_withRestored fun en => by simp only [restoreEntry_station, restoreEntry_params, restoreEntry_estate]]

theorem hasEntry_withRestored (st : Stn) : hasEntry (withRestored v s) st = hasEntry s st := by
  unfold hasEntry
  rw [entriesWhere_withRestored fun en => by rw [restoreEntry_station]]

theorem sendingWaiters_withRestored : sendingWaiters (withRestored v s) = sendingWaiters s := by
  unfold sendingWaiters
  rw [entriesWhere_withRestored fun en => by rw [restoreEntry_estate]]
  rfl

theorem restoreSlot_of_none {now : Time} {o : Option Entry}
    (h : ∀ q, o = some q → v.getLsbD q.station.val = true → q.remaining = none) : restoreSlot v now o = o := by
  cases o with
  | none => rfl
  | some q =>
    refine congrArg some ?_
    by_cases hv : v.has q.station = true
    · exact (if_pos hv).trans (restoreEntry_of_none (h q rfl hv))
    · exact if_neg hv

/-- R114: with no deadline frozen the table stays as it is. -/
theorem withRestored_entries
    (h : ∀ j q, s.entry? j = some q → v.getLsbD q.station.val = true → q.remaining = none) :
    (withRestored v s).mrt.entries = s.mrt.entries := vector_ext_get fun j =>
  (withRestored_entry v s j).trans (restoreSlot_of_none (h j))

end

/-! ### A hold that ends with an entry to promote (R77, R120, R121) -/

theorem eq_singleton_of_mem_iff {α : Type} {l : List α} {a : α} (hl : l.Nodup) (h : ∀ x, x ∈ l ↔ x = a) : l = [a] :=
  List.perm_singleton.1 ((List.perm_ext_iff_of_nodup hl (List.nodup_singleton a)).2 fun x =>
    (h x).trans List.mem_singleton.symm)

section
variable {st : Stn} {s y : State} {v : StnSet} {e : EntryNo} {en : Entry}

theorem ReadsAlike.restored (h : ReadsAlike st s y) (v : StnSet) : ReadsAlike st s (withRestored v (duePass y)) where
  station := h.station
  machining := h.machining
  ptb := h.ptb
  table := h.table
  mga := h.mga
  deq := h.deq
  moves := (underWay_withRestored (s := duePass y) st .move).trans h.moves
  waiters hw := (sendingWaiters_withRestored (s := duePass y)).trans (h.waiters hw)

/-- R121: the one READY entry of the stations. -/
theorem readyOf_eq_singleton (he : y.entry? e = some en) (hr : en.estate = .ready) (hv : v.getLsbD en.station.val = true)
    (hu : ∀ j q, y.entry? j = some q → v.getLsbD q.station.val = true → q.estate = .ready → j = e) : readyOf y v = [e] := by
  have hone : entriesWhere y (fun q => q.estate == .ready && v.has q.station) = [e] := by
    refine eq_singleton_of_mem_iff ((List.nodup_finRange 24).filter _) fun j => ?_
    simp only [mem_entriesWhere, Bool.and_eq_true, beq_iff_eq]
    constructor
    · rintro ⟨q, hq, hqr, hqv⟩
      exact hu j q hq hqv hqr
    · rintro rfl
      exact ⟨en, he, hr, hv⟩
  rw [readyOf, hone]
  rfl

theorem endHolds_some {x : Stn} (h : v.getLsbD x.val = true) (byResume : Bool) :
    endHolds (y, v) byResume = (duePass y, [.holdEnded v byResume]) := by
  refine if_neg fun h0 => ?_
  rw [show v = 0 from h0, getLsbD_noStation] at h
  exact Bool.noConfusion h

theorem holdEndedIdx_empty {x : Stn} (h : (y.proc x).pstate = .empty) (byResume : Bool) :
    holdEndedIdx x byResume y = only y := by
  unfold holdEndedIdx
  simp [h]

/-- R77, R121: the holds of stations without a process end, and the one READY entry among theirs is sent; `l` is what the event has
to do after that. -/
theorem conclude_endHolds_sends {byResume : Bool} {l : List Task} {u : State} {n : Nat} (h : ReadsAlike st s y)
    (he : y.entry? e = some en) (hen : en.station = st) (hr : en.estate = .ready) (hrem : en.remaining = none)
    (hv : v.getLsbD st.val = true)
    (hu : ∀ j q, y.entry? j = some q → v.getLsbD q.station.val = true → q.estate = .ready → j = e)
    (hh : y.held st = false) (hp : planSatisfied (planEntry s en) = false) (hc : CanBeSent st (judgedOf en.params) s)
    (hidle : ∀ x, (y.proc x).pstate = .empty)
    (hend : EndsIn n (sentState e (planEntry s en) (withRestored v (duePass y))) l u) (hn : n ≤ 80) :
    conclude ((endHolds (y, v) byResume).1, (endHolds (y, v) byResume).2 ++ l) = .next u := by
  have hentry : (withRestored v (duePass y)).entry? e = some en := by
    refine (withRestored_entry v (duePass y) e).trans ((restoreSlot_of_none fun q hq _ => ?_).trans he)
    rw [← hrem, Option.some.inj (he.symm.trans hq)]
  have hready : readyOf (withRestored v (duePass y)) v = [e] := by
    refine readyOf_eq_singleton hentry hr (hen ▸ hv) fun j q hq hqv hqr => ?_
    rw [withRestored_entry] at hq
    obtain ⟨q', hq', hes, hst⟩ := restoreSlot_eq_some hq
    exact hu j q' hq' (hst ▸ hqv) (hes ▸ hqr)
  have hperform : perform (.holdEnded v byResume) (duePass y) = (withRestored v (duePass y),
      [.promote e] ++ v.members.map (fun x => .holdEndedIdx x byResume)) := by
    change (withRestored v (duePass y), (readyOf (withRestored v (duePass y)) v).map Task.promote ++ _) = _
    rw [hready]
    rfl
  have hpromote : perform (.promote e) (withRestored v (duePass y))
      = (sentState e (planEntry s en) (withRestored v (duePass y)), []) := (h.restored v).sends hentry hen hr hh hp hc
  have hlen : v.members.length ≤ 16 := (List.length_filter_le ..).trans (by simp [allStn])
  rw [endHolds_some hv]
  refine EndsIn.conclude (EndsIn.step hperform ?_) (n := n + (v.members.map (fun x => Task.holdEndedIdx x byResume)).length + 1 + 1)
    (by rw [List.length_map]; omega)
  refine EndsIn.step hpromote (EndsIn.skip (fun k hk => ?_) hend)
  obtain ⟨x, -, rfl⟩ := List.mem_map.1 hk
  exact holdEndedIdx_empty (y := sentState e (planEntry s en) (withRestored v (duePass y))) (hidle x) byResume

end

/-- R120: what a sent command leaves, at the end of the event. -/
theorem Sent.atEnd {e : EntryNo} {en : Entry} {s u : State} (h : Sent e en s u) : Sent e en s (closeEvent (passOver u)) := by
  obtain ⟨hentry, hdeq⟩ := h
  exact ⟨(closeEvent_entry ..).trans hentry, told_deq.trans hdeq⟩

end Sys2Proof.Machine
end

section
namespace Sys2Proof.Machine

/-! ### A RESUME of one station (R79, R121) -/

theorem withHolds_isMachining (f : Stn → Station → Station) (y : State) (st : Stn) :
    isMachining (withHolds f y) st = isMachining y st :=
  isMachining_congr (by dsimp only [withHolds]) (by dsimp only [withHolds]) st

section
variable {d : DiqItem} {s : State} {st : Stn}

/-- R79: a RESUME that leaves no named station held refuses nothing. -/
theorem refuseStillHeld_none {m : Msg} (h : stillHeld m s = []) :
    refuseStillHeld m (namedStations m) (resumed m s) = resumed m s := by
  unfold refuseStillHeld
  rw [← stillHeld, h]
  rfl

section
variable (hnamed : ∀ x : Stn, d.msg.argA.getLsbD x.val = true ∨ d.msg.station.toNat = x.val ↔ x = st)
  (hholds : (s.station st).holds = { operator := true, trap := false, fault := false })
include hnamed

theorem namedStations_one : namedStations d.msg = StnSet.one st :=
  stnSet_ext fun x => by rw [Bool.eq_iff_iff, namedStations_has, hnamed, getLsbD_oneStation, decide_eq_true_eq]

include hholds

theorem resumed_station_self : (resumed d.msg (removeDiq d s)).station st
    = { s.station st with holds := { operator := false, trap := false, fault := false } } := by
  have hv : (namedStations d.msg).getLsbD st.val = true := namedStations_has.2 ((hnamed st).2 rfl)
  have hf : ¬ ((s.station st).holds.fault = true ∧ FaultGoes (removeDiq d s) (s.station st)) := by
    rw [hholds]
    exact fun h => Bool.noConfusion h.1
  refine (resumed_station st).trans ((resumeStation_faultStays hv hf).trans ?_)
  rw [hholds]

theorem resumed_held : (resumed d.msg (removeDiq d s)).held st = false := by
  rw [State.held, resumed_station_self hnamed hholds]
  rfl

theorem readsAlike_resumed : ReadsAlike st s (resumed d.msg (removeDiq d s)) where
  station := ⟨_, resumed_station_self hnamed hholds⟩
  machining := withHolds_isMachining _ (removeDiq d s) st
  ptb := rfl
  table := rfl
  mga := rfl
  deq := rfl
  moves := underWay_congr rfl st .move
  waiters hw := (sendingWaiters_congr rfl rfl).trans hw

/-- R79: the station's hold is the only one that ends. -/
theorem exec_resume_one (ht : Takes .resume d s) (hc : FromController d s) (hr : s.fcu.restricted = false) :
    exec .resume s = conclude (endHolds (resumed d.msg (removeDiq d s), StnSet.one st) true) := by
  have hstill : stillHeld d.msg (removeDiq d s) = [] := List.eq_nil_iff_forall_not_mem.2 fun x hx => by
    obtain ⟨hx, hheld⟩ := mem_stillHeld.1 hx
    rw [(hnamed x).1 hx, resumed_held hnamed hholds] at hheld
    exact Bool.noConfusion hheld
  have hended : (changeHolds (resumeStation (removeDiq d s) (namedStations d.msg)) (removeDiq d s)).2 = StnSet.one st :=
    stnSet_ext fun x => by
      rw [Bool.eq_iff_iff, resume_ended, hnamed, getLsbD_oneStation, decide_eq_true_eq]
      refine ⟨And.left, ?_⟩
      rintro rfl
      have hx : ((removeDiq d s).station x).holds = { operator := true, trap := false, fault := false } := hholds
      rw [State.held, Station.held, hx]
      exact ⟨rfl, rfl, rfl, fun h => Bool.noConfusion h⟩
  rw [exec_of_takes rfl (by decide) ht (resumeBody_controller (s := removeDiq d s) hc hr), refuseStillHeld_none hstill, hended]

end
end

/-! ### A TRAP_ACK that returns its zone to RUN (R152, R154) -/

section
variable {d : DiqItem} {s : State} {z : Zone} {st : Stn} {c : ZoneCauses}

/-- R152: with FAULT not among the causes, and the pin open where it is one and left to the controller, none is left. -/
theorem minus_ackCauses {v : ZoneState} (hf : v.causes.fault = false)
    (hp : v.causes.pin = true → v.filtered = false ∧ v.exitAuto = false) : v.causes.minus (ackCauses v) = noCauses := by
  have hpin : (v.causes.pin && !(!v.filtered && !v.exitAuto)) = false := by
    cases h : v.causes.pin with
    | false => rfl
    | true => rw [(hp h).1, (hp h).2]; rfl
  unfold ZoneCauses.minus ackCauses noCauses
  rw [hpin, hf]
  simp

/-- R154: the zone in RUN and the TRAP cause of its stations removed, without what follows from that. -/
def trapLifted (z : Zone) (s : State) : State :=
  withHolds (setTrap z false) (s.setZone z { s.zone z with causes := noCauses })

/-- R154: the stations whose hold ends as the zone returns to RUN. -/
def trapEnds (z : Zone) (s : State) : StnSet :=
  (changeHolds (setTrap z false) (s.setZone z { s.zone z with causes := noCauses })).2

theorem setTrap_in {x : Stn} {r : Station} (h : r.cfg.zone = z) (on : Bool) :
    setTrap z on x r = { r with holds := { r.holds with trap := on } } := if_pos h

theorem setTrap_out {x : Stn} {r : Station} (h : r.cfg.zone ≠ z) (on : Bool) : setTrap z on x r = r := if_neg h

theorem setTrap_not_begins {x : Stn} {r : Station} (h : r.held = false) : (setTrap z false x r).held = false := by
  by_cases hz : r.cfg.zone = z
  · rw [setTrap_in hz]
    simp only [Station.held, HoldCauses.held, Bool.or_eq_false_iff] at h ⊢
    simp [h]
  · rw [setTrap_out hz, h]

theorem setZone_station (s : State) (z : Zone) (v : ZoneState) (x : Stn) : (s.setZone z v).station x = s.station x := by
  rw [State.station, State.setZone_stb]
  rfl

theorem setZone_held (s : State) (z : Zone) (v : ZoneState) (x : Stn) : (s.setZone z v).held x = s.held x :=
  congrArg Station.held (setZone_station s z v x)

theorem trapLifted_station (x : Stn) : (trapLifted z s).station x = setTrap z false x (s.station x) := by
  rw [trapLifted, withHolds_station, setZone_station]

theorem mem_trapEnds {x : Stn} : (trapEnds z s).getLsbD x.val = true
    ↔ s.held x = true ∧ (setTrap z false x (s.station x)).held = false := by
  rw [trapEnds, changeHolds_ended, setZone_held, setZone_station]

theorem zone_of_trapEnds {x : Stn} (h : (trapEnds z s).getLsbD x.val = true) : (s.station x).cfg.zone = z := by
  obtain ⟨h1, h0⟩ := mem_trapEnds.1 h
  by_contra hz
  rw [setTrap_out hz] at h0
  exact absurd (h1.symm.trans h0) (by decide)

/-- R154: a zone whose causes are all removed returns to RUN and reports it. -/
theorem zoneRemove_last (ha : (s.zone z).causes.any = true) (hm : (s.zone z).causes.minus c = noCauses) : zoneRemove z c s
    = ((endHolds (trapLifted z s, trapEnds z s) false).1, (endHolds (trapLifted z s, trapEnds z s) false).2
        ++ [.note .trapExit 255 0 (16 * zoneNo z + causeBits (s.zone z).causes)]) := by
  have hfst : (changeHolds (setTrap z false) (s.setZone z { s.zone z with causes := noCauses })).1 = trapLifted z s :=
    changeHolds_fst_of_none_begin fun x hx => setTrap_not_begins hx
  have hcond : ((s.zone z).causes.any && !noCauses.any) = true := by rw [ha]; rfl
  unfold zoneRemove
  dsimp only
  rw [hm, if_pos hcond, ← Prod.eta (changeHolds _ _), hfst]
  rfl

/-- R152: the acknowledgement answered and the zone in RUN. -/
def trapAcked (d : DiqItem) (z : Zone) (s : State) : State := trapLifted z (answered d .done 0 s)

/-- R152: the acknowledgement removes every cause of the zone. -/
theorem exec_trapAck_last (ht : Takes .trapAck d s) (hc : FromController d s) (hz : d.msg.argB.toNat = zoneNo z)
    (htr : (s.zone z).trapped = true) (hf : (s.zone z).causes.fault = false)
    (hp : (s.zone z).causes.pin = true → (s.zone z).filtered = false ∧ (s.zone z).exitAuto = false) :
    exec .trapAck s = conclude ((endHolds (trapAcked d z s, trapEnds z (answered d .done 0 s)) false).1,
      (endHolds (trapAcked d z s, trapEnds z (answered d .done 0 s)) false).2
        ++ [.note .trapExit 255 0 (16 * zoneNo z + causeBits (s.zone z).causes)]) := by
  have hzone : zoneOf? d.msg.argB.toNat = some z := by
    rw [hz]
    cases z <;> rfl
  have hsame : (answered d .done 0 s).zone z = s.zone z := zone_of_trp (by rw [answered_frame]) z
  have hleft := minus_ackCauses hf hp
  have hremove := zoneRemove_last (s := answered d .done 0 s) (z := z) (c := ackCauses (s.zone z)) (by rw [hsame]; exact htr)
    (by rw [hsame]; exact hleft)
  have hs' : (removeDiq d s).zone z = s.zone z := by cases z <;> rfl
  rw [exec_fromController (i := .trapAck) rfl (by decide) ht hc fun _ _ => rfl, hzone]
  rw [hsame] at hremove
  refine congrArg conclude (Eq.trans ?_ hremove)
  simp only [hs', htr, hf, hleft, Bool.not_true, Bool.false_eq_true, if_false]
  rfl

end
end Sys2Proof.Machine
end

section
namespace Sys2Proof.Machine

/-! ### A READY entry sent as its hold ends (R106, R120, R121) -/

section
variable {d : DiqItem} {s : State} {z : Zone} {st : Stn}

theorem noticed_held (ev : Event) (b : Byte) (p : Tag) (n : Nat) (y : State) (x : Stn) :
    (closeEvent (passOver (notice ev b p n y))).held x = y.held x := by
  have hstb : (passOver (notice ev b p n y)).stb = y.stb := notice_stb ..
  rw [State.held, closeEvent_station, State.station, hstb]
  rfl

theorem noticed_idx (ev : Event) (b : Byte) (p : Tag) (n : Nat) (y : State) :
    (closeEvent (passOver (notice ev b p n y))).idx = y.idx := (closeEvent_idx _).trans (notice_idx ..)

theorem sentRestored_held (e : EntryNo) (q : Entry) (v : StnSet) (y : State) (x : Stn) :
    (sentState e q (withRestored v (duePass y))).held x = y.held x := rfl

theorem sentRestored_idx (e : EntryNo) (q : Entry) (v : StnSet) (y : State) :
    (sentState e q (withRestored v (duePass y))).idx = y.idx := rfl

theorem trapAcked_frame : trapAcked d z s = { s with
    chi := (answered d .done 0 s).chi, mrt := { s.mrt with kept := (answered d .done 0 s).mrt.kept }
    stb := { s.stb with stn := (trapAcked d z s).stb.stn }, trp := (trapAcked d z s).trp } := by
  unfold trapAcked
  rw [answered_frame]
  cases z <;> rfl

theorem trapAcked_entry (e : EntryNo) : (trapAcked d z s).entry? e = s.entry? e := by
  rw [trapAcked_frame]
  rfl

theorem trapAcked_proc (x : Stn) : (trapAcked d z s).proc x = s.proc x := by
  rw [trapAcked_frame]
  rfl

theorem answered_station (a : Status) (n : Nat) (x : Stn) : (answered d a n s).station x = s.station x := by
  rw [answered_frame]
  rfl

theorem trapAcked_station (x : Stn) : (trapAcked d z s).station x = setTrap z false x (s.station x) := by
  rw [trapAcked, trapLifted_station, answered_station]

/-- R154: at a station of the zone the TRAP cause alone is removed. -/
theorem readsAlike_trapAcked (hz : (s.station st).cfg.zone = z) : ReadsAlike st s (trapAcked d z s) where
  station := ⟨_, (trapAcked_station st).trans (setTrap_in hz false)⟩
  machining := isMachining_congr (by rw [trapAcked_frame]) (by rw [trapAcked_frame]) st
  ptb := by rw [trapAcked_frame]
  table := by rw [trapAcked_frame]
  mga := by rw [trapAcked_frame]
  deq := by rw [trapAcked_frame]; exact answered_deq d .done 0 s
  moves := underWay_congr (by rw [trapAcked_frame]) st .move
  waiters hw := (sendingWaiters_congr (by rw [trapAcked_frame]) (by rw [trapAcked_frame]; exact answered_deq d .done 0 s)).trans hw

end

section
variable {d : DiqItem} {s : State} {st : Stn} {e : EntryNo} {en : Entry} (he : s.entry? e = some en) (hen : en.station = st)
  (hr : en.estate = .ready) (hrem : en.remaining = none)
  (hu : ∀ j q, s.entry? j = some q → q.station = st → j = e) (hp : planSatisfied (planEntry s en) = false)
  (hc : CanBeSent st (judgedOf en.params) s) (hidle : ∀ x, (s.proc x).pstate = .empty) (hd : s.ilk.deferred = [])
include he hen hr hrem hu hp hc hidle hd

/-- R121: a RESUME that ends the hold of the station of a READY entry. -/
theorem resume_sends (ht : Takes .resume d s) (hfrom : FromController d s) (hres : s.fcu.restricted = false)
    (hnamed : ∀ x : Stn, d.msg.argA.getLsbD x.val = true ∨ d.msg.station.toNat = x.val ↔ x = st)
    (hholds : (s.station st).holds = { operator := true, trap := false, fault := false }) :
    ∃ t, exec .resume s = .next t ∧ Sent e en s t ∧ t.held st = false ∧ (∀ j, j ≠ e → t.entry? j = s.entry? j)
      ∧ t.idx = s.idx := by
  have halike := readsAlike_resumed hnamed hholds
  have hheld := resumed_held hnamed hholds
  have hone : ∀ x : Stn, (StnSet.one st).getLsbD x.val = true → x = st := fun x hx => by
    rwa [getLsbD_oneStation, decide_eq_true_eq] at hx
  have hexec := conclude_endHolds_sends (v := StnSet.one st) (byResume := true) (l := []) halike he hen hr hrem
    (by rw [getLsbD_oneStation, decide_eq_true rfl]) (fun j q hq hv _ => hu j q hq (hone _ hv)) hheld hp hc hidle
    (endsIn_idle (fun k hk => absurd hk List.not_mem_nil) hd) (by decide)
  rw [List.append_nil, ← exec_resume_one hnamed hholds ht hfrom hres] at hexec
  have hsame : (withRestored (StnSet.one st) (duePass (resumed d.msg (removeDiq d s)))).mrt.entries = s.mrt.entries :=
    withRestored_entries fun j q hq hv => by
      have hj : j = e := hu j q hq (hone _ hv)
      rw [hj] at hq
      rw [← hrem, Option.some.inj (he.symm.trans hq)]
  refine ⟨_, hexec, ((halike.restored _).sent hen).atEnd, ?_, fun j hj => ?_, closeEvent_idx _⟩
  · rw [State.held, closeEvent_station]
    exact hheld
  · rw [closeEvent_entry, State.entry?, passOver_entries, sentState_entries, upd_get_ne _ _ hj, hsame]
    rfl

/-- R121, R152: a TRAP_ACK that ends the hold of the station of a READY entry. -/
theorem trapAck_sends {z : Zone} (ht : Takes .trapAck d s) (hfrom : FromController d s) (hz : d.msg.argB.toNat = zoneNo z)
    (htr : (s.zone z).trapped = true) (hf : (s.zone z).causes.fault = false)
    (hpin : (s.zone z).causes.pin = true → (s.zone z).filtered = false ∧ (s.zone z).exitAuto = false)
    (hzone : (s.station st).cfg.zone = z) (hholds : (s.station st).holds = { operator := false, trap := true, fault := false })
    (hothers : ∀ x, x ≠ st → (s.station x).cfg.zone = z → ∀ j q, s.entry? j = some q → q.station = x →
      q.estate ≠ .ready) : ∃ t, exec .trapAck s = .next t ∧ Sent e en s t ∧ t.held st = false ∧ t.idx = s.idx := by
  have halike := readsAlike_trapAcked (d := d) hzone
  have hheld : (trapAcked d z s).held st = false := by
    rw [State.held, trapAcked_station, setTrap_in hzone, Station.held, hholds]
    rfl
  have hends : (trapEnds z (answered d .done 0 s)).getLsbD st.val = true := by
    refine mem_trapEnds.2 ⟨?_, ?_⟩
    · rw [State.held, answered_station, Station.held, hholds]
      rfl
    · rw [answered_station, ← trapAcked_station (d := d)]
      exact hheld
  have hidx : (trapAcked d z s).idx = s.idx := by rw [trapAcked_frame]
  have hdef : (trapAcked d z s).ilk.deferred = [] := by rw [trapAcked_frame]; exact hd
  have hready : ∀ j q, (trapAcked d z s).entry? j = some q →
      (trapEnds z (answered d .done 0 s)).getLsbD q.station.val = true → q.estate = .ready → j = e := fun j q hq hv hqr => by
    rw [trapAcked_entry] at hq
    have hzq := zone_of_trapEnds hv
    rw [answered_station] at hzq
    by_contra hj
    exact hothers q.station (fun hst => hj (hu j q hq hst)) hzq j q hq rfl hqr
  have hexec := conclude_endHolds_sends (byResume := false) halike ((trapAcked_entry e).trans he) hen hr hrem hends hready
    hheld hp hc (fun x => by rw [trapAcked_proc]; exact hidle x) (EndsIn.step
      (k := .note .trapExit 255 0 (16 * zoneNo z + causeBits (s.zone z).causes)) rfl
      (endsIn_idle (fun k hk => absurd hk List.not_mem_nil) ((notice_ilk ..).symm ▸ hdef))) (by decide)
  refine ⟨_, (exec_trapAck_last ht hfrom hz htr hf hpin).trans hexec, Sent.atEnd ?_, ?_, ?_⟩
  · obtain ⟨hentry, hdeq⟩ := (halike.restored (trapEnds z (answered d .done 0 s))).sent (e := e) hen
    exact ⟨(congrArg (fun v => Vector.get v e) (notice_entries ..)).trans hentry, (notice_chi_deq ..).trans hdeq⟩
  · rw [noticed_held, sentRestored_held, hheld]
  · rw [noticed_idx, sentRestored_idx, hidx]

end
end Sys2Proof.Machine
end

section
namespace Sys2Proof.Machine

theorem ReadsAlike.withIdx {st : Stn} {s z : State} (h : ReadsAlike st s z) (i : Idx) : ReadsAlike st s { z with idx := i } :=
  ⟨h.station, h.machining, h.ptb, h.table, h.mga, h.deq, h.moves, h.waiters⟩

/-! ### A RESUME that ends STALLED (R84, R89, R97) -/

/-- R97: a RESUME ends STALLED where the station has its reference and no entry; with an entry it waits for that to leave. -/
theorem holdEndedIdx_staysStalled {st : Stn} {y : State} (hk : isMachining y st = true) (hps : (y.proc st).pstate = .stalled)
    (h : (y.station st).referenced = false ∨ hasEntry y st = true) : ∃ i, holdEndedIdx st true y = only { y with idx := i }
      ∧ (i.procs.get st).pstate = .stalled ∧ (i.procs.get st).pallet = (y.proc st).pallet
      ∧ (i.procs.get st).stepEnded = (y.proc st).stepEnded := by
  unfold holdEndedIdx
  simp only [hps, hk, reduceCtorEq, if_false, false_and, or_false, true_and]
  by_cases hr : (y.station st).mode = .auto ∧ (y.station st).referenced = true
  · have hen : hasEntry y st = true := h.resolve_left (by rw [hr.2]; decide)
    rw [if_pos hr, if_pos hen]
    refine ⟨_, rfl, ?_⟩
    simp only [upd_get_self]
    exact ⟨hps, rfl, rfl⟩
  · rw [if_neg hr]
    exact ⟨y.idx, rfl, hps, rfl, rfl⟩

theorem holdEndedIdx_takesUp {st : Stn} {y : State} (hm : (y.station st).mode = .auto) (hps : (y.proc st).pstate = .stalled)
    (hr : (y.station st).referenced = true) (hno : hasEntry y st = false) :
    holdEndedIdx st true y = (y, [.takeUp st false]) := by
  unfold holdEndedIdx
  simp [hm, hps, hr, hno]

section
variable {st : Stn} {y : State} {t : Tag} {r : Record} (hk : isMachining y st = true)
  (hr : (y.station st).referenced = true) (ho : (y.station st).occupant = .tracked t) (h : y.record? t = some r)
  (hp : r.rstate = .present st)
include hk hr ho h hp

/-- R84: a pallet PRESENT at a machining station continues in place or goes HOMING. -/
theorem takeUp_machining : takeUp st false y =
    if incomplete (pickUp st y) r && !r.quality.bad && !((pickUp st y).proc st).stepEnded && inCurrentGroup (pickUp st y) r st
    then ((pickUp st y).modProc st (fun p => p.stop .arrived), [.evalOp st false])
    else (pickUp st y, [.homing st false]) := by
  have hk' : isMachining (pickUp st y) st = true := hk
  have ho' : ((pickUp st y).station st).occupant = .tracked t := ho
  have h' : (pickUp st y).record? t = some r := h
  unfold takeUp
  simp only [Bool.false_eq_true, if_false]
  rw [← pickUp, if_neg (takeUp_referenced fun _ => hr), ho']
  simp only [h', hp, hk', ne_eq, not_true_eq_false, if_true, if_false]

/-- R84: the pallet's step work at the station has not ended. -/
theorem takeUp_operates {step : RouteStep} (he : (y.proc st).stepEnded = false ∨ (y.proc st).pallet ≠ some t)
    (hq : r.quality.bad = false) (hs : currentStep y r = some step) (hg : step.group.getLsbD st.val = true) :
    takeUp st false y = ((pickUp st y).modProc st (fun p => p.stop .arrived), [.evalOp st false]) := by
  have hinc : incomplete (pickUp st y) r = true := incomplete_of_currentStep (s := pickUp st y) hs
  have hgrp : inCurrentGroup (pickUp st y) r st = true := inCurrentGroup_eq_true (s := pickUp st y) hs hg
  have hocc : y.trackedOcc st = some t := congrArg Occupant.tracked? ho
  have hend : ((pickUp st y).proc st).stepEnded = false := by
    rw [pickUp, State.modProc_proc, if_pos rfl]
    refine ite_eq_right_iff.2 fun hpal => he.resolve_right (not_not_intro ?_)
    rw [← hpal, hocc]
  rw [takeUp_machining hk hr ho h hp, hinc, hq, hend, hgrp]
  rfl

/-- R84, R97: the pallet's step work at the station has ended. -/
theorem takeUp_homes (he : (y.proc st).stepEnded = true) (hpal : (y.proc st).pallet = some t) :
    takeUp st false y = (pickUp st y, [.homing st false]) := by
  have hocc : y.trackedOcc st = some t := congrArg Occupant.tracked? ho
  have hend : ((pickUp st y).proc st).stepEnded = true := by
    rw [pickUp, State.modProc_proc, if_pos rfl]
    exact (if_pos (hocc.trans hpal.symm)).trans he
  rw [takeUp_machining hk hr ho h hp, hend, Bool.not_true, Bool.and_false, Bool.false_and]
  rfl

end

/-! ### A MOVE of the dispatcher (R89, R106) -/

section
variable {st : Stn} {z : State} {t : Tag} {k : Fin 8} {g : Angle}

theorem planMove_unsatisfied {r : Station} (h : r.isAt g = false) : (planMove r g).satisfied = false := by
  have hat : ¬ atTarget r.cfg.tol r.c g = true := by
    rw [Station.isAt] at h
    rw [h]
    decide
  unfold planMove
  rw [if_neg hat]
  rfl

/-- R89: the third test of HOMING: the fixture is not at stop 0 and its clamps are as commanded. -/
theorem evalHoming_moves {granted : Bool} {r : Record} {v : Pattern} (hpal : (z.proc st).pallet = some t)
    (hrec : z.record? t = some r)
    (hat : (z.station st).isAt (targetOf (z.station st).cfg 0 r.offset) = false) (hsen : (z.station st).sensed = some v)
    (hcom : (z.station st).commanded = some v) : evalHoming st granted z
      = makeDue st (.move 0 (targetOf (z.station st).cfg 0 r.offset) none) .homing granted false
        (z.modProc st (fun p => p.stop .homing)) := by
  generalize hy : z.modProc st (fun p => p.stop .homing) = y
  have hpal' : (y.proc st).pallet = some t := by
    rw [← hy, State.modProc_proc, if_pos rfl]
    exact hpal
  have hoff : offsetOf y t = r.offset := by
    rw [← hy, offsetOf, show (z.modProc st (fun p => p.stop .homing)).record? t = some r from hrec]
  have hstn : y.station st = z.station st := by rw [← hy]; rfl
  unfold evalHoming
  rw [hy]
  dsimp only
  rw [hpal']
  simp only [hoff, hstn, hat, hsen, hcom, samePattern_self, Bool.not_true, Bool.false_eq_true, if_false]

/-- R85 case 4, R106: a MOVE is planned as its entry is created. -/
theorem makeDue_creates_move {e : EntryNo} {pt : DuePoint} (hpal : (z.proc st).pallet = some t)
    (hm : (z.station st).pendingMode = none) (hn : hasEntry z st = false) (hr : z.fcu.restricted = false)
    (hf : freeEntry z = some e) (hc : entryContended z = false) : makeDue st (.move k g none) pt false false z
      = (created st e (.move k g (some (planMove (z.station st) g))) pt t z, [.promote e]) := by
  have hplan : planEntry z (newEntry z st (.move k g none) .dispatch t none .ready)
      = dispatched st (.move k g (some (planMove (z.station st) g))) t z.mga.time .ready := rfl
  have hstate : createdState (.move k g none) pt = createdState (.move k g (some (planMove (z.station st) g))) pt := by
    cases pt <;> rfl
  unfold makeDue
  dsimp only
  rw [hm, if_neg (by simp), hn, if_neg (by simp), hr, if_neg (by simp), hf, hc]
  simp only [Bool.not_false, Bool.or_true, if_true, createDispatch, hpal, Option.getD_some, hplan, hstate]
  rfl

end

/-! ### The RESUME of a station without READY entries (R79, R97) -/

section
variable {d : DiqItem} {s : State} {st : Stn}

/-- R114: the state in which the dispatcher is told of the end of the station's hold. -/
def holdOver (d : DiqItem) (st : Stn) (s : State) : State :=
  withRestored (StnSet.one st) (duePass (resumed d.msg (removeDiq d s)))

theorem restored_station (v : StnSet) (y : State) (x : Stn) : (withRestored v (duePass y)).station x = y.station x := rfl

theorem withIdx_entries (y : State) (i : Idx) : ({ y with idx := i } : State).mrt.entries = y.mrt.entries := rfl

theorem holdOver_proc (x : Stn) : (holdOver d st s).proc x = s.proc x := rfl

theorem holdOver_hasEntry : hasEntry (holdOver d st s) st = hasEntry s st :=
  hasEntry_withRestored (s := duePass (resumed d.msg (removeDiq d s))) st

/-- R114: a station without entries has no deadline to restore. -/
theorem holdOver_entries (hno : hasEntry s st = false) : (holdOver d st s).mrt.entries = s.mrt.entries :=
  withRestored_entries (s := duePass (resumed d.msg (removeDiq d s))) fun j q hq hv => by
    rw [getLsbD_oneStation, decide_eq_true_eq] at hv
    exact absurd hv (hasEntry_eq_false.1 hno j q hq)

theorem told_held (y : State) (x : Stn) : (closeEvent (passOver y)).held x = y.held x :=
  congrArg Station.held (closeEvent_station ..)

theorem withIdx_held (y : State) (i : Idx) (x : Stn) : ({ y with idx := i } : State).held x = y.held x := rfl

theorem dispatchSent_deferred {e : EntryNo} {c : Params} {pt : DuePoint} {p : Tag} {z : State} :
    (dispatchSent st e c pt p z).ilk.deferred = z.ilk.deferred := rfl

section
variable (hnamed : ∀ x : Stn, d.msg.argA.getLsbD x.val = true ∨ d.msg.station.toNat = x.val ↔ x = st)
  (hholds : (s.station st).holds = { operator := true, trap := false, fault := false })
include hnamed hholds

theorem holdOver_station : (holdOver d st s).station st
    = { s.station st with holds := { operator := false, trap := false, fault := false } } :=
  (restored_station ..).trans (resumed_station_self hnamed hholds)

theorem holdOver_held : (holdOver d st s).held st = false := by
  rw [State.held, holdOver_station hnamed hholds]
  rfl

theorem readsAlike_holdOver : ReadsAlike st s (holdOver d st s) := (readsAlike_resumed hnamed hholds).restored _

/-- R77, R97: nothing to promote, the end of the hold is told to the dispatcher. -/
theorem resume_tells {n : Nat} {u : State} (ht : Takes .resume d s) (hc : FromController d s) (hr : s.fcu.restricted = false)
    (hissued : ∀ e en, s.entry? e = some en → en.station = st → en.estate = .issued)
    (hend : EndsIn n (holdOver d st s) [.holdEndedIdx st true] u) (hn : n ≤ 99) : exec .resume s = .next u := by
  have hready : readyOf (holdOver d st s) (StnSet.one st) = [] := readyOf_eq_nil fun e en he hv hes => by
    obtain ⟨q, hq, hqe, hqs⟩ := restoreSlot_eq_some ((withRestored_entry ..).symm.trans he)
    rw [getLsbD_oneStation, decide_eq_true_eq] at hv
    rw [hqe, hissued e q hq (hqs ▸ hv)] at hes
    exact EState.noConfusion hes
  have hperform : perform (.holdEnded (StnSet.one st) true) (duePass (resumed d.msg (removeDiq d s)))
      = (holdOver d st s, [.holdEndedIdx st true]) := by
    change (holdOver d st s, (readyOf (holdOver d st s) (StnSet.one st)).map Task.promote
      ++ (StnSet.one st).members.map (fun x => Task.holdEndedIdx x true)) = _
    rw [hready, show (StnSet.one st).members = [st] from members_one st]
    rfl
  rw [exec_resume_one hnamed hholds ht hc hr, endHolds_some (x := st) (by rw [getLsbD_oneStation, decide_eq_true rfl])]
  exact EndsIn.conclude (EndsIn.step hperform (by rwa [List.append_nil])) (by omega)

/-- R97: the station stays STALLED. -/
theorem resume_staysStalled (ht : Takes .resume d s) (hc : FromController d s) (hr : s.fcu.restricted = false)
    (hd : s.ilk.deferred = []) (hissued : ∀ e en, s.entry? e = some en → en.station = st → en.estate = .issued)
    (hk : isMachining s st = true) (hps : (s.proc st).pstate = .stalled)
    (h : (s.station st).referenced = false ∨ hasEntry s st = true) : ∃ t, exec .resume s = .next t
      ∧ (t.proc st).pstate = .stalled ∧ (t.proc st).pallet = (s.proc st).pallet
      ∧ (t.proc st).stepEnded = (s.proc st).stepEnded ∧ t.held st = false := by
  obtain ⟨i, hi, hstalled, hpallet, hstep⟩ := holdEndedIdx_staysStalled (y := holdOver d st s) (st := st)
    ((readsAlike_holdOver hnamed hholds).machining.trans hk) (by rw [holdOver_proc]; exact hps)
    (by rw [holdOver_station hnamed hholds, holdOver_hasEntry]; exact h)
  refine ⟨_, resume_tells hnamed hholds ht hc hr hissued (EndsIn.step hi
    (endsIn_idle (fun k hk => absurd hk List.not_mem_nil) hd)) (by decide), ?_⟩
  simp only [told_proc]
  refine ⟨hstalled, hpallet, hstep, ?_⟩
  rw [told_held]
  exact (withIdx_held ..).trans (holdOver_held hnamed hholds)

end
end

/-! ### The occupant taken up at the end of its hold (R84, R97) -/

section
variable {d : DiqItem} {s : State} {st : Stn} (ht : Takes .resume d s) (hfrom : FromController d s)
  (hres : s.fcu.restricted = false) (hd : s.ilk.deferred = [])
  (hnamed : ∀ x : Stn, d.msg.argA.getLsbD x.val = true ∨ d.msg.station.toNat = x.val ↔ x = st)
  (hholds : (s.station st).holds = { operator := true, trap := false, fault := false })
  (hm : (s.station st).mode = .auto) (hps : (s.proc st).pstate = .stalled) (href : (s.station st).referenced = true)
  (hno : hasEntry s st = false)
include ht hfrom hres hnamed hholds hm hps href hno

theorem resume_takesUp {y u : State} {l : List Task} {n : Nat} (htake : takeUp st false (holdOver d st s) = (y, l))
    (hend : EndsIn n y l u) (hn : n ≤ 90) : exec .resume s = .next u := by
  have hidx := holdEndedIdx_takesUp (y := holdOver d st s) (st := st) (by rw [holdOver_station hnamed hholds]; exact hm) hps
    (by rw [holdOver_station hnamed hholds]; exact href) (holdOver_hasEntry.trans hno)
  have hrun : EndsIn (n + 1 + 1) (holdOver d st s) [.holdEndedIdx st true] u :=
    EndsIn.step hidx (EndsIn.step (k := .takeUp st false) (l := []) htake (by rwa [List.append_nil]))
  exact resume_tells hnamed hholds ht hfrom hres (fun e en he hst => absurd hst (hasEntry_eq_false.1 hno e en he)) hrun
    (by omega)

include hd

/-- R84: nobody stands at the station. -/
theorem resume_empties (ho : (s.station st).occupant = .nobody) : ∃ t, exec .resume s = .next t
    ∧ (t.proc st).pstate = .empty ∧ (t.proc st).pallet = none ∧ t.mrt.entries = s.mrt.entries := by
  have hstn := holdOver_station hnamed hholds
  have htake := takeUp_nobody (y := holdOver d st s) (st := st) (fun _ => by rw [hstn]; exact href) (by rw [hstn]; exact ho)
  obtain ⟨hempty, hpal⟩ := pickUp_stop (st := st) .empty (holdOver d st s)
  refine ⟨_, resume_takesUp ht hfrom hres hnamed hholds hm hps href hno htake
    (endsIn_idle (fun k hk => absurd hk List.not_mem_nil) hd) (by decide), ?_, ?_, ?_⟩
  · rw [told_proc]
    exact hempty
  · rw [told_proc, hpal, State.trackedOcc, hstn, ho]
    rfl
  · rw [told_entries, (retaken_pickUp_modProc (f := fun p => p.stop .empty) fun _ => rfl).frame, withIdx_entries]
    exact holdOver_entries hno

section
variable {p : Tag} {e : EntryNo} {c : Params} {pt : DuePoint} {w : State}

/-- R85, R120: the process taken up has a command due that can be sent, and its entry ends the event. -/
theorem resume_commands {y : State} {k : Task} (hw : TakenUp st p (holdOver d st s) w)
    (htake : takeUp st false (holdOver d st s) = (y, [k])) (heval : perform k y = (created st e c pt p w, [.promote e]))
    (hplan : planEntry s (dispatched st c p s.mga.time .ready) = dispatched st c p s.mga.time .ready)
    (hsat : planSatisfied (dispatched st c p s.mga.time .ready) = false) (hc : CanBeSent st (judgedOf c) s) :
    ∃ t, exec .resume s = .next t ∧ Commanded st e c p (createdState c pt) false s t := by
  have hwalike : ReadsAlike st s w := by
    rw [hw.frame]
    exact (readsAlike_holdOver hnamed hholds).withIdx _
  have hentries : w.mrt.entries = s.mrt.entries := by rw [hw.frame, withIdx_entries, holdOver_entries hno]
  have hheld : w.held st = false := by rw [hw.frame, withIdx_held, holdOver_held hnamed hholds]
  have hdef : (dispatchSent st e c pt p w).ilk.deferred = [] := by
    rw [dispatchSent_deferred, hw.frame]
    exact hd
  have hsent := promote_dispatched (e := e) (pt := pt) hwalike hentries hno hplan hheld hsat hc
  have hcmd := commanded_dispatchSent (e := e) (pt := pt) hwalike hentries hno hplan hw.pallet
  exact ⟨_, resume_takesUp ht hfrom hres hnamed hholds hm hps href hno htake (EndsIn.step heval (EndsIn.step hsent
    (endsIn_idle (fun k hk => absurd hk List.not_mem_nil) hdef))) (by decide), hcmd.atEnd⟩

end

section
variable {p : Tag} {i : Slot} {r : Record} {e : EntryNo} (hs : BetweenEvents s) (hpm : (s.station st).pendingMode = none)
  (hk : isMachining s st = true) (ho : (s.station st).occupant = .tracked p) (h : HasRecord p i r s)
  (hp : r.rstate = .present st) (hfree : freeEntry s = some e) (hwait : ∀ y, (s.proc y).wait ≠ .entry)

omit ht hfrom hres hd hm hps hno in
include hk ho h in
/-- R84: the occupant stands at the station as before. -/
theorem holdOver_stands : isMachining (holdOver d st s) st = true ∧ ((holdOver d st s).station st).referenced = true
    ∧ ((holdOver d st s).station st).occupant = .tracked p ∧ (holdOver d st s).record? p = some r := by
  rw [holdOver_station hnamed hholds]
  exact ⟨(readsAlike_holdOver hnamed hholds).machining.trans hk, href, ho, record_of_hasRecord_tag (s := holdOver d st s) h⟩

omit ht hfrom hm hps href hd in
include hs hpm hfree hwait in
/-- R85: nothing keeps a command of the process taken up from its entry. -/
theorem takenUp_unhindered {w : State} (hw : TakenUp st p (holdOver d st s) w) : (w.station st).pendingMode = none
    ∧ hasEntry w st = false ∧ w.fcu.restricted = false ∧ freeEntry w = some e ∧ entryContended w = false := by
  have hentries : w.mrt.entries = s.mrt.entries := by rw [hw.frame, withIdx_entries, holdOver_entries hno]
  have hstn : w.station st = (holdOver d st s).station st := by rw [hw.frame]; rfl
  refine ⟨?_, (hasEntry_congr hentries st).trans hno, ?_, (freeEntry_congr hentries).trans hfree,
    entryContended_of_noWaiter ?_ fun x => ?_⟩
  · rw [hstn, holdOver_station hnamed hholds]
    exact hpm
  · rw [hw.frame]
    exact hres
  · rw [hw.frame]
    exact congrArg Within.diqClaim hs
  · by_cases hx : x = st
    · rw [hx, hw.nowait]
      exact Wait.noConfusion
    · rw [hw.others x hx]
      exact hwait x

include hs hpm hk ho h hp hfree hwait

/-- R84, R86: the pallet's operation is taken up with its CLAMP. -/
theorem resume_clamps {step : RouteStep} {op : Operation}
    (he : (s.proc st).stepEnded = false ∨ (s.proc st).pallet ≠ some p) (hrej : r.quality.rejected = false)
    (hab : r.quality.aborted = false) (hcur : currentStep s r = some step) (hg : step.group.getLsbD st.val = true)
    (hop : step.op? r.opCursor = some op) (hsen : (s.station st).sensed ≠ some op.pattern)
    (hc : CanBeSent st (.clamp op.pattern) s) :
    ∃ t, exec .resume s = .next t ∧ Commanded st e (.clamp op.pattern) p .clamping false s t := by
  have hstn := holdOver_station hnamed hholds
  obtain ⟨hk', href', ho', hrec⟩ := holdOver_stands hnamed hholds href hk ho h
  have htake := takeUp_operates hk' href' ho' hrec hp (by rw [holdOver_proc]; exact he)
    (by simp [Quality.bad, hrej, hab]) hcur hg
  have harrived : TakenUp st p (holdOver d st s) ((pickUp st (holdOver d st s)).modProc st (fun q => q.stop .arrived)) :=
    (takenUp_pickUp ho').modProc rfl rfl
  have hjudged := harrived.modProc (f := fun q => { q with wait := .nothing, waitingSince := none, due := none }) rfl rfl
  have hproc : processRecord ((pickUp st (holdOver d st s)).modProc st (fun q => q.stop .arrived)) st = some r := by
    rw [processRecord, harrived.pallet]
    exact hrec
  have heval := evalOperation_clamps (granted := false) hproc (step := step) (op := op) hcur hop
    (by change ((holdOver d st s).station st).sensed ≠ _; rw [hstn]; exact hsen)
  obtain ⟨hpend, hnone, hnormal, hroom, hcont⟩ := takenUp_unhindered hres hnamed hholds hno hs hpm hfree hwait hjudged
  have hmake := makeDue_creates (p := .clamp op.pattern) (pt := .operation) hjudged.pallet hpend hnone hnormal hroom hcont
    CmdKind.noConfusion
  exact resume_commands ht hfrom hres hd hnamed hholds hm hps href hno hjudged htake (heval.trans hmake)
    (planEntry_of_other CmdKind.noConfusion) (planSatisfied_of_other CmdKind.noConfusion) hc

/-- R84, R89: the pallet's step work has ended, and its fixture is brought to stop 0. -/
theorem resume_homes {v : Pattern} (he : (s.proc st).stepEnded = true) (hpal : (s.proc st).pallet = some p)
    (hat : (s.station st).isAt (targetOf (s.station st).cfg 0 r.offset) = false) (hsen : (s.station st).sensed = some v)
    (hcom : (s.station st).commanded = some v) (hc : CanBeSent st .move s) : ∃ t, exec .resume s = .next t
      ∧ Commanded st e (.move 0 (targetOf (s.station st).cfg 0 r.offset)
        (some (planMove (s.station st) (targetOf (s.station st).cfg 0 r.offset)))) p .homing false s t := by
  have hstn := holdOver_station hnamed hholds
  obtain ⟨hk', href', ho', hrec⟩ := holdOver_stands hnamed hholds href hk ho h
  have htake := takeUp_homes hk' href' ho' hrec hp (by rw [holdOver_proc]; exact he)
    (by rw [holdOver_proc]; exact hpal)
  have hpick := takenUp_pickUp ho'
  have hhoming := hpick.modProc (f := fun q => q.stop .homing) rfl rfl
  have hpstn : (pickUp st (holdOver d st s)).station st = (holdOver d st s).station st := rfl
  have heval := evalHoming_moves (granted := false) (r := r) (v := v) hpick.pallet hrec (by rw [hpstn, hstn]; exact hat)
    (by rw [hpstn, hstn]; exact hsen) (by rw [hpstn, hstn]; exact hcom)
  obtain ⟨hpend, hnone, hnormal, hroom, hcont⟩ := takenUp_unhindered hres hnamed hholds hno hs hpm hfree hwait hhoming
  have hmake := makeDue_creates_move (k := 0) (g := targetOf (s.station st).cfg 0 r.offset) (pt := .homing) hhoming.pallet hpend
    hnone hnormal hroom hcont
  have hmstn : ((pickUp st (holdOver d st s)).modProc st (fun q => q.stop .homing)).station st
      = { s.station st with holds := { operator := false, trap := false, fault := false } } := hstn
  rw [hmstn] at hmake
  rw [hpstn, hstn] at heval
  exact resume_commands ht hfrom hres hd hnamed hholds hm hps href hno hhoming htake (heval.trans hmake) rfl
    (planMove_unsatisfied hat) hc

end
end
end Sys2Proof.Machine

namespace Sys2Proof.Proofs
open Sys2Proof.Machine

/-- Settles O43: a READY entry sent as its hold ends, and a RESUME that ends STALLED by what stands at the station. -/
theorem holdsThatEnd : Obligations.HoldsThatEnd := by
  refine ⟨?_, ?_⟩
  · intro i d s st e en hs ht hfrom hd he hen hr hrem hu hp hc hidle
    refine ⟨fun hi hres hnamed hholds => ?_, fun z hi hz htr hf hpin hzone hholds hothers => ?_⟩
    · subst hi
      exact resume_sends he hen hr hrem hu hp hc hidle hd ht hfrom hres hnamed hholds
    · subst hi
      exact trapAck_sends he hen hr hrem hu hp hc hidle hd ht hfrom hz htr hf hpin hzone hholds hothers
  · intro d s st hs ht hfrom hres hd hnamed hholds hm hpm hk hps hissued
    refine ⟨resume_staysStalled hnamed hholds ht hfrom hres hd hissued hk hps, fun href hno => ⟨fun ho => ?_, ?_⟩⟩
    · exact resume_empties ht hfrom hres hd hnamed hholds hm hps href hno ho
    · intro p i r e ho h hp hfree hwait
      refine ⟨fun step op he hrej hab hcur hg hop hsen hc => ?_, ?_⟩
      · exact resume_clamps ht hfrom hres hd hnamed hholds hm hps href hno hs hpm hk ho h hp hfree hwait he hrej hab hcur hg hop
          hsen hc
      · rintro target he hpal hat ⟨v, hsen, hcom⟩ hc
        exact resume_homes ht hfrom hres hd hnamed hholds hm hps href hno hs hpm hk ho h hp hfree hwait he hpal hat hsen hcom hc

end Sys2Proof.Proofs
end
